-- ==== Sys2Proof/Word.lean ====
section
/-! DEFINITION. The words and the numbers of things of the Wepsa BX32: bytes of the line, slots of the pattern memory,
sockets, zones, pages and program slots. -/

namespace Sys2Proof

/-- A character of the backplane line, or a byte of a field (R186). -/
abbrev Byte := BitVec 8

/-- One stored vector of the pattern memory: 36 bits of content and, in bit 0, the parity bit (R79). -/
abbrev Slot := BitVec 37

/-- A socket number, 0 to 31 (00 §0.3). -/
abbrev SocketId := Fin 32

/-- A zone number, 0 to 3 (00 §0.3). -/
abbrev ZoneId := Fin 4

/-- A page number; every byte names a page (05 §5.2). -/
abbrev PageId := Fin 256

/-- A slot of the program directory (05 §5.4). -/
abbrev ProgId := Fin 16

end Sys2Proof
end

