-- ==== Sys2Proof/Syntax.lean ====
section
/-! DEFINITION. The commands of the block: one constructor for each row of spec/opcode_table.json, with its operands. -/

namespace Sys2Proof

/-- A request frame as it stands when its last CRC character has come, less the kind byte, which the row fixes
(11 §11.3). The length byte is the number of payload bytes. DESIGN CHOICE (log entry 3): a request row carries its
frame whole. -/
structure Frame where
  addr    : Byte
  tag     : Byte
  payload : List Byte
  crc     : BitVec 16
  deriving DecidableEq, Repr

/-- The commands. Rows of the link port carry a `Frame`; rows of a socket or a zone carry its number; the rest of an
operand is what the outside supplies with the event. -/
inductive Instr where
  /-- Supply rising; the operands are the levels of SLOT and RATE (R23, R170). -/
  | powerOn (slot : BitVec 5) (rate : BitVec 2)
  /-- RESETN falls (R178). -/
  | resetn
  /-- RESETN rises; the operands are the levels of SLOT and RATE (R170). -/
  | resetnRelease (slot : BitVec 5) (rate : BitVec 2)
  | ident (f : Frame)
  | collect (f : Frame)
  | boardSetup (f : Frame)
  | boardResetRun (f : Frame)
  /-- BOARD-RESET FULL; it reads the straps, whose levels are the operands (R170, R178). -/
  | boardResetFull (f : Frame) (slot : BitVec 5) (rate : BitVec 2)
  | runDefine (f : Frame)
  | runStart (f : Frame)
  | runPause (f : Frame)
  | runResume (f : Frame)
  | runAbort (f : Frame)
  | runClear (f : Frame)
  | runReport (f : Frame)
  | zoneRail (f : Frame)
  | zoneThermal (f : Frame)
  | socketThermal (f : Frame)
  | setpoint (f : Frame)
  | zoneBudget (f : Frame)
  | zoneProgram (f : Frame)
  | zoneReport (f : Frame)
  | pageOpen (f : Frame)
  | pageData (f : Frame)
  | pageClose (f : Frame)
  | pageFree (f : Frame)
  | pageList (f : Frame)
  | programDefine (f : Frame)
  | programDelete (f : Frame)
  | programList (f : Frame)
  | socketRetire (f : Frame)
  | socketReport (f : Frame)
  | failLog (f : Frame)
  /-- A frame whose kind byte names no request (R174). -/
  | unknownKind (kind : Byte) (f : Frame)
  /-- A completed frame that R172 discards. -/
  | frameDiscard (kind : Byte) (f : Frame)
  /-- A framing error or an impossible length in the frame in progress (R171). -/
  | frameAbandon
  /-- A gap of more than two character times in the frame in progress (R171). -/
  | frameGapExpiry
  | replyBegin
  | replyEnd
  | replyAbandon
  | ovenPermitEdge
  | permitTimerExpiry
  /-- A sample of one socket's rail: current in mA and voltage in mV as the front end reports them (R26). -/
  | railSample (i : SocketId) (mA mV : Nat)
  | phase1TimerExpiry (i : SocketId)
  | rampTimeout (i : SocketId)
  | stableTimerExpiry (i : SocketId)
  | offTimeExpiry (i : SocketId)
  | sensorRequest (i : SocketId)
  /-- The sensor's answer, in 0.1 °C (R50). -/
  | sensorAnswer (i : SocketId) (reading : Int)
  | sensorTimeout (i : SocketId)
  | stagingWriteDone
  /-- The operand lists the vectors of the page that the port reads wrong, each with the bits it reads inverted
  (R98; DESIGN CHOICE, log entry 6). -/
  | fetchBurstDone (wrong : List (Nat × Slot))
  /-- The operand holds RESP of the zone's eight sockets at the end of the period (R129). -/
  | vectorPeriodEnd (z : ZoneId) (resp : Vector Byte 8)
  | gapTimerExpiry (z : ZoneId)
  /-- A rising edge of HEARTBEAT, with the reading of the monitor's time base in ms at which it comes (R137). -/
  | heartbeatEdge (i : SocketId) (atMs : Nat)
  | resetHeldExpiry (i : SocketId)
  | ignoreExpiry (i : SocketId)
  | heartbeatLate (i : SocketId)
  | accountingTimerExpiry
  /-- A character from the line, and whether its stop bit was read as 0 (R170, R171). -/
  | lineCharacter (ch : Byte) (framingError : Bool)
  deriving DecidableEq, Repr

end Sys2Proof
end

