-- ==== Sys2Proof/Decode.lean ====
section
/-! DEFINITION. Commands as words. The opcode table of this block gives no row any bits, so no word spells a command;
requests arrive as frames over the line (10 §10.2). -/

namespace Sys2Proof

/-- The command a word spells by the table's bits: none, as no row has bits. -/
def decodeTableWord (_nbits _w : Nat) : Option Instr := none

end Sys2Proof
end

