-- ==== Sys2Proof/Config.lean ====
section
/-! DEFINITION. What the part fixes once, and the one free value of the model. -/

namespace Sys2Proof.Config

/-- FREE VALUE (DESIGN CHOICE, log entry 8, safe): what SOCKET-REPORT sends as the target of a socket whose zone has no
thermal profile. R48 makes the target from the zone setpoint and R68 reports it in every state; for an unset zone no
setpoint exists and the manual states no value. Nothing constrains it; the argument is the draw's number. -/
opaque unsetTarget : Nat → BitVec 16

/-- Cycles of the 50 MHz base clock in one millisecond (00 §0.4). -/
abbrev cyclesPerMs : Nat := 50000

/-- The vendor code of IDENT (R179). -/
abbrev vendor : BitVec 8 := 0x0D

/-- The part code of IDENT (R179). -/
abbrev part : Nat := 0x3220

/-- The silicon revision of IDENT (R179). -/
abbrev revision : BitVec 8 := 3

end Sys2Proof.Config
end

