-- ==== Sys2Proof/Machine/State.lean ====
section
/-! DEFINITION. The state of the block, as plain data: everything the manual's chapters give it, its value right after
power-on, and the reasons a step can stop. Times are cycles of the 50 MHz clock since power-on; the fields of the
heartbeat monitor are readings of its millisecond time base (R137). -/

namespace Sys2Proof.Machine

/-! ## Sockets, zones and the run (chapter 1) -/

/-- The run states (01 §1.4). -/
inductive RunState where
  | idle | ready | active | held | finished | aborted
  deriving DecidableEq, Repr

/-- The hold-cause set, a subset of HOST and PERMIT (R7). -/
structure Holds where
  host   : Bool
  permit : Bool
  deriving DecidableEq, Repr

/-- The lifecycle states (01 §1.2). -/
inductive Lifecycle where
  | empty | waiting | stressing | complete | retired
  deriving DecidableEq, Repr

/-- The bins (R166); an absent bin is `none` of `Option Bin`. -/
inductive Bin where
  | empty | pass | passRecovered | failFunction | failPower | failThermal | failHost | incomplete
  deriving DecidableEq, Repr

/-- A program choice: a slot, or none (01 §1.3). -/
inductive ProgSel where
  | noProgram
  | slot (p : ProgId)
  deriving DecidableEq, Repr

/-- The dispositions of a fail (09 §9.1). -/
inductive Disp where
  | count | reset | retire
  deriving DecidableEq, Repr

/-- The kinds of fail record (09 §9.1). -/
inductive FailKind where
  | strobeMismatch | signatureMismatch | heartbeatEarly | heartbeatLate | heartbeatExhausted
  | railFast | railAverage | railRamp | railExhausted | thermalTrip | sensorFault
  deriving DecidableEq, Repr

/-- The classes of fail (09 §9.1). -/
inductive FailClass where
  | functional | power | thermal | board
  deriving DecidableEq, Repr

/-- The disposition table of the run record, as stored; `none` is DEFAULT (01 §1.3). -/
structure DispTable where
  strobe    : Option Disp
  signature : Option Disp
  early     : Option Disp
  late      : Option Disp
  fast      : Option Disp
  average   : Option Disp
  ramp      : Option Disp
  trip      : Option Disp
  deriving DecidableEq, Repr

/-- The run record (01 §1.3). -/
structure RunRecord where
  label       : List Byte
  declared    : BitVec 32
  target      : Nat
  progs       : Vector ProgSel 4
  disp        : DispTable
  retireLimit : Nat
  powerAtTemp : Bool
  deriving DecidableEq, Repr

/-- The run controller, the OVEN-PERMIT monitor (01 §1.8) and the accounting timer (R160). A timer is `none` when
stopped, else its expiry. -/
structure Run where
  state         : RunState
  record        : Option RunRecord
  holds         : Holds
  clock         : Nat
  permitTimeout : Nat
  permitValid   : Bool
  edgeTimer     : Option Nat
  edgeCount     : Nat
  acctTimer     : Option Nat
  deriving DecidableEq, Repr

/-! ## The socket table (01 §1.1) -/

/-- The rail states (02, opening table). -/
inductive RailState where
  | off | queued | ramp1 | ramp2 | on | rest
  deriving DecidableEq, Repr

/-- The inhibit causes (02 §2.3). -/
inductive Cause where
  | run | permit | cold | thermal | sensor | final
  deriving DecidableEq, Repr

/-- An inhibit-cause set (02 §2.3). -/
structure Inhibit where
  run     : Bool
  permit  : Bool
  cold    : Bool
  thermal : Bool
  sensor  : Bool
  final   : Bool
  deriving DecidableEq, Repr

/-- The rail part of a socket record (02). `window` holds the samples of the averaging window, oldest first. -/
structure Rail where
  state       : RailState
  inhibit     : Inhibit
  lastCurrent : Nat
  window      : List Nat
  voltage     : Nat
  power       : Nat
  trips       : Nat
  offTimer    : Option Nat
  stableTimer : Option Nat
  phase1Timer : Option Nat
  rampTimer   : Option Nat
  deriving DecidableEq, Repr

/-- The thermal states (03 §3.6). -/
inductive ThermalState where
  | off | approach | inband | outband | tripped | sensorFault | held
  deriving DecidableEq, Repr

/-- The saturation flag (R63). -/
inductive Saturation where
  | none | high | low
  deriving DecidableEq, Repr

/-- The thermal part of a socket record (03). `goodSince` says that a good reading came since the last reset, the four
resets of 00 §0.6.6 (R52). -/
structure Thermal where
  state       : ThermalState
  reading     : Option Int
  goodSince   : Bool
  teff        : Int
  integral    : Int
  sat         : Saturation
  duty        : Nat
  grant       : Nat
  trim        : Int
  rating      : Nat
  badRun      : Nat
  goodRun     : Nat
  firstInband : Bool
  answerTimer : Option Nat
  deriving DecidableEq, Repr

/-- The heartbeat states (08 §8.1). -/
inductive HbState where
  | idle | resetHeld | ignore | waitFirst | watch | paused
  deriving DecidableEq, Repr

/-- The liveness part of a socket record (08); times are readings of the ms time base. -/
structure Liveness where
  state    : HbState
  cycles   : Nat
  lastEdge : Option Nat
  timer    : Option Nat
  owed     : Bool
  deriving DecidableEq, Repr

/-- The first mismatch of a pass: its ordinal and the masked difference (R129). -/
structure Mismatch where
  ordinal : Nat
  bits    : Byte
  deriving DecidableEq, Repr

/-- The pass part of a socket record (07). -/
structure Pass where
  checked  : Bool
  count    : Nat
  first    : Option Mismatch
  crc      : BitVec 16
  lpc      : Byte
  nChecked : Nat
  nFailed  : Nat
  deriving DecidableEq, Repr

/-- The detail of a fail record, by kind (09 §9.2). -/
inductive Detail where
  | strobe (ordinal : Nat) (bits : Byte) (count : Nat)
  | signature (crc : BitVec 16) (lpc : Byte)
  | rail (current : Nat) (phase : RailState)
  | reading (t : Int)
  | lastReading (t : Option Int)
  | interval (ms : Nat)
  | elapsed (ms : Nat)
  | nothing
  deriving DecidableEq, Repr

/-- A fail record as the fail log holds it (09 §9.2). -/
structure FailRec where
  kind   : FailKind
  clock  : Nat
  credit : Nat
  pass   : Option Nat
  disp   : Disp
  detail : Detail
  deriving DecidableEq, Repr

/-- The record that retired a socket; its class follows from its kind (R157). -/
structure Deciding where
  kind : FailKind
  slot : Nat
  deriving DecidableEq, Repr

/-- The accounts part of a socket record (09). `log` holds the records of slots 1, 2, … in slot order. -/
structure Accounts where
  credit   : Nat
  log      : List FailRec
  total    : Nat
  counted  : Nat
  deciding : Option Deciding
  byHost   : Bool
  deriving DecidableEq, Repr

/-- One record of the socket table (01 §1.1). -/
structure Socket where
  life  : Lifecycle
  bin   : Option Bin
  rail  : Rail
  therm : Thermal
  live  : Liveness
  pass  : Pass
  acct  : Accounts
  deriving DecidableEq, Repr

/-! ## Vectors, pages and programs (chapter 5) -/

/-- A vector (05 §5.1). -/
structure Vec where
  drive    : BitVec 16
  expect   : Byte
  mask     : Byte
  strobe   : Bool
  loopMark : Bool
  loopBack : Bool
  last     : Bool
  deriving DecidableEq, Repr

/-- The states of a page (05 §5.2). -/
inductive PageState where
  | free | opened | sealed
  deriving DecidableEq, Repr

/-- An entry of the page table (05 §5.2). -/
structure Page where
  state  : PageState
  cursor : Nat
  crc    : BitVec 16
  count  : Option Nat
  refs   : Nat
  deriving DecidableEq, Repr

/-- The check modes (05 §5.4). -/
inductive CheckMode where
  | strobe | signature | both
  deriving DecidableEq, Repr

/-- An expected signature (05 §5.4). -/
structure Signature where
  crc : BitVec 16
  lpc : Byte
  deriving DecidableEq, Repr

/-- The heartbeat part of a program (05 §5.4); times in ms. -/
structure HbPart where
  tMin       : Nat
  tWin       : Nat
  tReset     : Nat
  tIgnore    : Nat
  cycleLimit : Nat
  deriving DecidableEq, Repr

/-- A program (05 §5.4). -/
structure Program where
  pages     : List PageId
  lastCount : Nat
  loopRep   : Nat
  divN      : Nat
  fracF     : Nat
  gap       : Nat
  idleWord  : BitVec 16
  mode      : CheckMode
  sig       : Option Signature
  hb        : Option HbPart
  deriving DecidableEq, Repr

/-- A chunk in the staging buffer (R82). -/
structure Chunk where
  page  : PageId
  first : Nat
  vecs  : List Vec
  deriving DecidableEq, Repr

/-- A transfer at the memory port (R95). -/
inductive Transfer where
  | staging
  | burst (z : ZoneId)
  deriving DecidableEq, Repr

/-- The pattern store (05). `mem` lists the slots that differ from `unlistedSlot` by page × 512 + index, rising. -/
structure Store where
  mem       : List (Nat × Slot)
  pages     : Vector Page 256
  staging   : Option Chunk
  programs  : Vector (Option Program) 16
  port      : Option Transfer
  portEnd   : Nat
  waitCount : Nat
  ptr1      : ZoneId
  ptr3      : ZoneId
  deriving DecidableEq, Repr

/-! ## Zones (chapters 2 to 4, 6 and 7) -/

/-- A rail profile (02 §2.1): mV, mA, ms, samples and s as the table gives them. -/
structure RailProfile where
  vbus       : Nat
  vok        : Nat
  i1         : Nat
  t1         : Nat
  i2         : Nat
  rampMs     : Nat
  iFast      : Nat
  iAvg       : Nat
  win        : Nat
  offCode    : Nat
  retryLimit : Nat
  stableS    : Nat
  deriving DecidableEq, Repr

/-- A thermal profile (03 §3.1). -/
structure ThermalProfile where
  setpoint : Int
  rampRate : Nat
  inner    : Nat
  outer    : Nat
  limit    : Int
  kp       : Nat
  ki       : Nat
  kff      : Nat
  base     : Nat
  deriving DecidableEq, Repr

/-- The sequencer states (06 §6.1). -/
inductive SeqState where
  | idle | static | priming | playing | stalled | gap | held | halted | done
  deriving DecidableEq, Repr

/-- The two page buffers. -/
inductive BufId where
  | A | B
  deriving DecidableEq, Repr

/-- What a buffer or a fetch holds: the slot, the position in its page list, the page there and the count of vectors
fetched from it (R105, 06 §6.3; that the tag holds and compares the page and the count DESIGN CHOICE, log entry 36). -/
structure PageTag where
  slot  : ProgId
  pos   : Nat
  page  : PageId
  count : Nat
  deriving DecidableEq, Repr

/-- A page buffer (06). -/
inductive Buffer where
  | empty
  | filling (tag : PageTag)
  | full (tag : PageTag) (vecs : List Vec)
  deriving DecidableEq, Repr

/-- A fetch in progress (R97): its tag names the page and the count; `burst` numbers the burst next granted or now at
the port. -/
structure Fetch where
  tag    : PageTag
  target : BufId
  burst  : Nat
  data   : List Vec
  deriving DecidableEq, Repr

/-- The play position (06). -/
structure Play where
  buf  : BufId
  idx  : Nat
  loop : Nat
  deriving DecidableEq, Repr

/-- Why a pass is void (06). -/
inductive VoidCause where
  | stall | hold
  deriving DecidableEq, Repr

/-- The sequencer record of a zone (06). `assigned` is `none` when absent; `staged` is `none` when empty; `next` is
the next page chosen by R105; `divN` and `fracF` are those taken at the pass start (R103). -/
structure Seq where
  state     : SeqState
  assigned  : Option ProgSel
  staged    : Option ProgSel
  bufA      : Buffer
  bufB      : Buffer
  fetch     : Option Fetch
  next      : Option PageTag
  play      : Play
  period    : Nat
  divN      : Nat
  fracF     : Nat
  periodEnd : Nat
  passNo    : Nat
  ordinal   : Nat
  void      : Option VoidCause
  voidCount : Nat
  gapTimer  : Option Nat
  halt      : Option (PageId × Nat)
  drive     : BitVec 16
  deriving DecidableEq, Repr

/-- The checker's record of a zone's pass (07). -/
structure CheckZone where
  opened : Bool
  passNo : Nat
  slot   : Option ProgId
  mode   : Option CheckMode
  expect : Option Signature
  deriving DecidableEq, Repr

/-- What the blocks hold for one zone. -/
structure Zone where
  railProf  : Option RailProfile
  rampQueue : List SocketId
  thermProf : Option ThermalProfile
  budget    : Nat
  armed     : Bool
  seq       : Seq
  chk       : CheckZone
  deriving DecidableEq, Repr

/-! ## The backplane link and the notice queue (chapter 10) -/

/-- The receiver states (R171). -/
inductive RxState where
  | hunt | header | payload | check
  deriving DecidableEq, Repr

/-- The reply states (R176). -/
inductive ReplyState where
  | none | pending | sending
  deriving DecidableEq, Repr

/-- A reply in the reply buffer (R176); `payload` is the status byte and the data. -/
structure Reply where
  addr    : Byte
  kind    : Byte
  tag     : Byte
  payload : List Byte
  crc     : BitVec 16
  deriving DecidableEq, Repr

/-- The link port (10). `rate` is the rate code 0 to 2; `rxBuf` holds the characters of the frame in progress after
its SYNC. -/
structure Link where
  slot       : BitVec 5
  rate       : BitVec 2
  rx         : RxState
  rxBuf      : List Byte
  reply      : Option Reply
  replyState : ReplyState
  inReset    : Bool
  deriving DecidableEq, Repr

/-- The subject of a notice (R180). -/
inductive Subject where
  | board
  | socket (i : SocketId)
  | zone (z : ZoneId)
  deriving DecidableEq, Repr

/-- The kind of a notice with its detail (R180, 11 §11.8). -/
inductive NoticeBody where
  | fail (kind : FailKind) (slot : Nat)
  | retired (kind : Option FailKind)
  | complete (credit total : Nat)
  | runState (st : RunState) (holds : Holds)
  | zoneHalt (page : PageId) (idx : Nat) (passNo : Nat) (cut : Bool)
  | passVoid (passNo : Nat) (cause : VoidCause)
  | budgetOver (sum budget : Nat)
  | sensorOk (reading : Int)
  deriving DecidableEq, Repr

/-- A notice (R180). -/
structure Notice where
  subject : Subject
  clock   : Nat
  body    : NoticeBody
  deriving DecidableEq, Repr

/-- The notice queue (10): two lanes, oldest first, and their overflow flags. -/
structure NoticeQueue where
  urgent      : List Notice
  routine     : List Notice
  urgentOver  : Bool
  routineOver : Bool
  deriving DecidableEq, Repr

/-- The levels of the strap pins. -/
structure Straps where
  slot : BitVec 5
  rate : BitVec 2
  deriving DecidableEq, Repr

/-! ## The whole state -/

/-- The state of the block and the queue of commands that wait for it. -/
structure State where
  run       : Run
  sockets   : Vector Socket 32
  zones     : Vector Zone 4
  store     : Store
  link      : Link
  notices   : NoticeQueue
  straps    : Straps
  now       : Nat
  freeDraws : Nat
  pending   : List Instr
  deriving DecidableEq, Repr

/-- Why a step stops with a fault: never. The manual gives every command an effect, a status or no effect at all, so
the type has no constructor (safe: nothing is hidden behind a stop). -/
inductive Fault where
  deriving DecidableEq, Repr

/-- Why a step is refused. -/
inductive Refusal where
  /-- Raised by `exec` alone, for a row that has no meaning yet; no row is left without one (safe). -/
  | notModelled (mnemonic : String)
  deriving DecidableEq, Repr

/-! ## Power-on values -/

/-- The run controller after power-on (R23, R169). -/
def Run.init : Run :=
  { state := .idle, record := none, holds := ⟨false, false⟩, clock := 0, permitTimeout := 200, permitValid := false,
    edgeTimer := none, edgeCount := 0, acctTimer := none }

/-- The inhibit set that holds RUN alone (R44). -/
def Inhibit.runOnly : Inhibit := ⟨true, false, false, false, false, false⟩

/-- A rail after power-on (R44). -/
def Rail.init : Rail :=
  { state := .off, inhibit := Inhibit.runOnly, lastCurrent := 0, window := [], voltage := 0, power := 0, trips := 0,
    offTimer := none, stableTimer := none, phase1Timer := none, rampTimer := none }

/-- A heater loop after power-on (R69). -/
def Thermal.init : Thermal :=
  { state := .off, reading := none, goodSince := false, teff := 0, integral := 0, sat := .none, duty := 0, grant := 0,
    trim := 0, rating := 300, badRun := 0, goodRun := 0, firstInband := false, answerTimer := none }

/-- A heartbeat after power-on (R150). -/
def Liveness.init : Liveness := { state := .idle, cycles := 0, lastEdge := none, timer := none, owed := false }

/-- A pass context after power-on (R136). -/
def Pass.init : Pass :=
  { checked := false, count := 0, first := none, crc := 0xFFFF, lpc := 0, nChecked := 0, nFailed := 0 }

/-- The accounts of a socket after power-on (R169). -/
def Accounts.init : Accounts :=
  { credit := 0, log := [], total := 0, counted := 0, deciding := none, byHost := false }

/-- A socket record after power-on. -/
def Socket.init : Socket :=
  { life := .empty, bin := none, rail := Rail.init, therm := Thermal.init, live := Liveness.init, pass := Pass.init,
    acct := Accounts.init }

/-- A sequencer record after power-on (R123). The play position, the period index, N and F have no meaning outside a
pass and the manual gives them no value; buffer B as the last played makes A the first filled (log entry 15). -/
def Seq.init : Seq :=
  { state := .idle, assigned := none, staged := none, bufA := .empty, bufB := .empty, fetch := none, next := none,
    play := ⟨.B, 0, 0⟩, period := 0, divN := 4, fracF := 0, periodEnd := 0, passNo := 0, ordinal := 0, void := none,
    voidCount := 0, gapTimer := none, halt := none, drive := 0 }

/-- The checker's zone record after power-on (R136). -/
def CheckZone.init : CheckZone := { opened := false, passNo := 0, slot := none, mode := none, expect := none }

/-- A zone after power-on (R44, R69, R77). -/
def Zone.init : Zone :=
  { railProf := none, rampQueue := [], thermProf := none, budget := 6000, armed := true, seq := Seq.init,
    chk := CheckZone.init }

/-- A FREE page with no reference (R87, R100). -/
def Page.init : Page := { state := .free, cursor := 0, crc := 0xFFFF, count := none, refs := 0 }

/-- The pattern store after power-on (R100). -/
def Store.init : Store :=
  { mem := [], pages := Vector.replicate 256 Page.init, staging := none, programs := Vector.replicate 16 none,
    port := none, portEnd := 0, waitCount := 0, ptr1 := 3, ptr3 := 3 }

/-- The notice queue after power-on (R185). -/
def NoticeQueue.init : NoticeQueue := { urgent := [], routine := [], urgentOver := false, routineOver := false }

/-- The link port after the straps were read as `slot` and `rate` (R170, R185): rate 3 is taken as code 0. -/
def Link.ofStraps (slot : BitVec 5) (rate : BitVec 2) : Link :=
  { slot := slot, rate := if rate = 3 then 0 else rate, rx := .hunt, rxBuf := [], reply := none, replyState := .none,
    inReset := false }

/-- The machine right after power-on with the straps at `slot` and `rate`, and nothing queued. -/
def State.poweredOn (slot : BitVec 5) (rate : BitVec 2) : State :=
  { run := Run.init, sockets := Vector.replicate 32 Socket.init, zones := Vector.replicate 4 Zone.init,
    store := Store.init, link := Link.ofStraps slot rate, notices := NoticeQueue.init, straps := ⟨slot, rate⟩,
    now := 0, freeDraws := 0, pending := [] }

/-- The machine right after reset: every field at its power-on value (R23, R44, R69, R77, R100, R123, R136, R150,
R169, R185). DESIGN CHOICE (log entry 4, unsafe): the straps are read as slot 1, rate 0. -/
def State.reset : State := State.poweredOn 1 0

end Sys2Proof.Machine
end

