-- ==== Sys2Proof/Machine/Ops.lean ====
section
/-! DEFINITION. The named operations over the state that every block uses: the parts of the socket table and of the
zones, time, the pattern memory, the two notice lanes, and the tests the blocks share. -/

namespace Sys2Proof.Machine

/-! ## Sockets and zones -/

/-- The zone of a socket: zone z holds sockets 8z to 8z+7 (00 §0.3). -/
def zoneOf (i : SocketId) : ZoneId := ⟨i.val / 8, by omega⟩

/-- Socket k of zone z (00 §0.3). -/
def socketOf (z : ZoneId) (k : Fin 8) : SocketId := ⟨8 * z.val + k.val, by omega⟩

/-- The place of a socket in its zone. -/
def placeOf (i : SocketId) : Fin 8 := ⟨i.val % 8, by omega⟩

/-- The sockets of a zone, ascending. -/
def zoneSockets (z : ZoneId) : List SocketId := (List.finRange 8).map (socketOf z)

/-- All sockets, ascending. -/
def allSockets : List SocketId := List.finRange 32

/-- All zones, ascending. -/
def allZones : List ZoneId := List.finRange 4

/-- The record of socket `i` in the socket table. -/
def State.sock (s : State) (i : SocketId) : Socket := s.sockets[i]

/-- The settings and records of zone `z`. -/
def State.zone (s : State) (z : ZoneId) : Zone := s.zones[z]

/-- Change the record of one socket. -/
def modSock (i : SocketId) (f : Socket → Socket) (s : State) : State :=
  { s with sockets := s.sockets.set i (f (s.sock i)) }

/-- Change one zone. -/
def modZone (z : ZoneId) (f : Zone → Zone) (s : State) : State :=
  { s with zones := s.zones.set z (f (s.zone z)) }

/-- Change the rail part of a socket record. -/
def modRail (i : SocketId) (f : Rail → Rail) : State → State := modSock i fun k => { k with rail := f k.rail }

/-- Change the thermal part of a socket record. -/
def modTherm (i : SocketId) (f : Thermal → Thermal) : State → State := modSock i fun k => { k with therm := f k.therm }

/-- Change the liveness part of a socket record. -/
def modLive (i : SocketId) (f : Liveness → Liveness) : State → State := modSock i fun k => { k with live := f k.live }

/-- Change the pass part of a socket record. -/
def modPass (i : SocketId) (f : Pass → Pass) : State → State := modSock i fun k => { k with pass := f k.pass }

/-- Change the accounts part of a socket record. -/
def modAcct (i : SocketId) (f : Accounts → Accounts) : State → State := modSock i fun k => { k with acct := f k.acct }

/-- Change the sequencer record of a zone. -/
def modSeq (z : ZoneId) (f : Seq → Seq) : State → State := modZone z fun k => { k with seq := f k.seq }

/-- Change the checker's record of a zone. -/
def modChk (z : ZoneId) (f : CheckZone → CheckZone) : State → State := modZone z fun k => { k with chk := f k.chk }

/-- Change the run controller. -/
def modRun (f : Run → Run) (s : State) : State := { s with run := f s.run }

/-- Change the pattern store. -/
def modStore (f : Store → Store) (s : State) : State := { s with store := f s.store }

/-- Change the link port. -/
def modLink (f : Link → Link) (s : State) : State := { s with link := f s.link }

/-- Change the notice queue. -/
def modNotices (f : NoticeQueue → NoticeQueue) (s : State) : State := { s with notices := f s.notices }

/-- Change one entry of the page table. -/
def modPage (p : PageId) (f : Page → Page) : State → State :=
  modStore fun st => { st with pages := st.pages.set p (f st.pages[p]) }

/-- Do `f` for each member of a list, in its order, in one change. -/
def forEach {α : Type} (l : List α) (f : α → State → State) (s : State) : State :=
  l.foldl (fun t a => f a t) s

/-- The page table's entry for a page. -/
def State.page (s : State) (p : PageId) : Page := s.store.pages[p]

/-- The definition in a program slot, if there is one. -/
def State.program (s : State) (p : ProgId) : Option Program := s.store.programs[p]

/-! ## Numbers and time -/

/-- The nearest value of the range from `lo` to `hi` (00 §0.6.5). -/
def clampNat (lo hi n : Nat) : Nat := max lo (min hi n)

/-- The nearest value of the range from `lo` to `hi` (00 §0.6.5). -/
def clampInt (lo hi n : Int) : Int := max lo (min hi n)

/-- The top of a 32-bit count (R9, R112, R131). -/
def top32 : Nat := 4294967295

/-- One more, holding at `top`. -/
def incTo (top n : Nat) : Nat := min top (n + 1)

/-- The expiry of a timer of `n` ms started now. -/
def afterMs (n : Nat) (s : State) : Nat := s.now + n * Config.cyclesPerMs

/-- The reading of the monitor's millisecond time base (R137). -/
def State.nowMs (s : State) : Nat := s.now / Config.cyclesPerMs

/-- Time has come to `t` at least (log entry 2). -/
def advanceTo (t : Nat) (s : State) : State := { s with now := max s.now t }

/-! ## The pattern memory -/

/-- What a slot that nothing has written reads as. DESIGN CHOICE (log entry 5, unsafe; no rule reads such a slot). -/
def unlistedSlot : Slot := 0

/-- The address of a vector slot. -/
def slotAddr (p : PageId) (idx : Nat) : Nat := p.val * 512 + idx

/-- The slot at an address. -/
def memRead : List (Nat × Slot) → Nat → Slot
  | [], _ => unlistedSlot
  | (a, v) :: m, k => if k = a then v else if k < a then unlistedSlot else memRead m k

/-- Store a slot at an address, keeping the canonical form. -/
def memWrite : List (Nat × Slot) → Nat → Slot → List (Nat × Slot)
  | [], k, w => if w = unlistedSlot then [] else [(k, w)]
  | (a, v) :: m, k, w =>
    if k < a then if w = unlistedSlot then (a, v) :: m else (k, w) :: (a, v) :: m
    else if k = a then if w = unlistedSlot then m else (k, w) :: m
    else (a, v) :: memWrite m k w

/-- Store a run of slots from an address on. -/
def memWriteRun (m : List (Nat × Slot)) (k : Nat) : List Slot → List (Nat × Slot)
  | [] => m
  | w :: ws => memWriteRun (memWrite m k w) (k + 1) ws

/-- The canonical form: addresses strictly rising from `lo` on, and no entry equal to what an unlisted slot reads as. -/
def Memory.wfFrom : Nat → List (Nat × Slot) → Bool
  | _, [] => true
  | lo, (a, v) :: m => decide (lo ≤ a) && decide (v ≠ unlistedSlot) && Memory.wfFrom (a + 1) m

/-- The canonical form of the pattern memory. -/
def Memory.wf (m : List (Nat × Slot)) : Bool := Memory.wfFrom 0 m

/-! ## Notices -/

/-- A notice joins the tail of the urgent lane, or is discarded at a full lane with the overflow flag set (R181). -/
def pushUrgent (n : Notice) : State → State := modNotices fun q =>
  if q.urgent.length < 16 then { q with urgent := q.urgent ++ [n] } else { q with urgentOver := true }

/-- A notice joins the tail of the routine lane, or is discarded at a full lane with the overflow flag set (R181). -/
def pushRoutine (n : Notice) : State → State := modNotices fun q =>
  if q.routine.length < 32 then { q with routine := q.routine ++ [n] } else { q with routineOver := true }

/-- A notice made now: it carries the run clock as it stands (R180). -/
def State.notice (s : State) (subject : Subject) (body : NoticeBody) : Notice := ⟨subject, s.run.clock, body⟩

/-- Send an urgent notice. -/
def sendUrgent (subject : Subject) (body : NoticeBody) (s : State) : State := pushUrgent (s.notice subject body) s

/-- Send a routine notice. -/
def sendRoutine (subject : Subject) (body : NoticeBody) (s : State) : State := pushRoutine (s.notice subject body) s

/-- The RUN-STATE notice of the run controller: the run state and hold causes as they stand (R8). -/
def runStateNotice (urgent : Bool) (s : State) : State :=
  if urgent then sendUrgent .board (.runState s.run.state s.run.holds) s
  else sendRoutine .board (.runState s.run.state s.run.holds) s

/-! ## Tests the blocks share -/

/-- The run has started and not ended: ACTIVE or HELD. -/
def State.started (s : State) : Bool := s.run.state == .active || s.run.state == .held

/-- The run is HELD with PERMIT among its causes. -/
def State.permitHold (s : State) : Bool := s.run.state == .held && s.run.holds.permit

/-- The run record declares the socket. -/
def State.declared (s : State) (i : SocketId) : Bool :=
  match s.run.record with
  | some r => r.declared.getLsbD i.val
  | none => false

/-- A zone holds a socket of a declared set. -/
def zoneDeclared (d : BitVec 32) (z : ZoneId) : Bool := (zoneSockets z).any fun i => d.getLsbD i.val

/-- A socket is final: COMPLETE or RETIRED (01 §1.2). -/
def Lifecycle.final (l : Lifecycle) : Bool := l == .complete || l == .retired

/-- The program slot the zone plays, if its assigned program is a slot. -/
def State.assignedSlot (s : State) (z : ZoneId) : Option ProgId :=
  match (s.zone z).seq.assigned with
  | some (.slot p) => some p
  | _ => none

/-- The definition of the zone's assigned program, if it is a slot. -/
def State.zoneProgram (s : State) (z : ZoneId) : Option Program := (s.assignedSlot z).bind s.program

/-- The heartbeat part of the zone's assigned program (R138). -/
def State.hbPart (s : State) (z : ZoneId) : Option HbPart := (s.zoneProgram z).bind (·.hb)

/-- A program slot is in use (R90). -/
def State.inUse (s : State) (p : ProgId) : Bool :=
  (s.run.state == .ready || s.started) &&
    ((match s.run.record with
      | some r => r.progs.toList.contains (.slot p)
      | none => false) ||
     allZones.any fun z => (s.zone z).seq.assigned == some (.slot p) || (s.zone z).seq.staged == some (.slot p))

/-- The sum of the DUT power figures of a zone (R75). -/
def State.dutSum (s : State) (z : ZoneId) : Nat := ((zoneSockets z).map fun i => (s.sock i).rail.power).sum

/-- The sum of the heater grants of a zone (R73). -/
def State.grantSum (s : State) (z : ZoneId) : Nat := ((zoneSockets z).map fun i => (s.sock i).therm.grant).sum

/-! ## Inhibit-cause sets -/

/-- The set holds the cause. -/
def Inhibit.has (c : Cause) (h : Inhibit) : Bool :=
  match c with
  | .run => h.run | .permit => h.permit | .cold => h.cold | .thermal => h.thermal | .sensor => h.sensor
  | .final => h.final

/-- The set with the cause put in (`true`) or taken out (`false`). -/
def Inhibit.put (c : Cause) (b : Bool) (h : Inhibit) : Inhibit :=
  match c with
  | .run => { h with run := b }
  | .permit => { h with permit := b }
  | .cold => { h with cold := b }
  | .thermal => { h with thermal := b }
  | .sensor => { h with sensor := b }
  | .final => { h with final := b }

/-- The set is empty: the socket demands power (02 §2.3). -/
def Inhibit.isEmpty (h : Inhibit) : Bool :=
  !(h.run || h.permit || h.cold || h.thermal || h.sensor || h.final)

/-- `new` holds a cause that `old` does not. -/
def Inhibit.adds (old new : Inhibit) : Bool :=
  (new.run && !old.run) || (new.permit && !old.permit) || (new.cold && !old.cold) ||
    (new.thermal && !old.thermal) || (new.sensor && !old.sensor) || (new.final && !old.final)

end Sys2Proof.Machine
end

