-- ==== Sys2Proof/Machine/Flags.lean ====
section
/-! DEFINITION. The pure computations over bits and flags: the part's CRC, a vector's slot and its parity, the flag
structure of a page, the vector clock, and the arithmetic of a heater step. -/

namespace Sys2Proof.Machine

/-! ## The part's CRC (R124) -/

/-- One bit fed into the CRC register. -/
def crcBit (r : BitVec 16) (b : Bool) : BitVec 16 :=
  if r.msb ^^ b then (r <<< 1) ^^^ 0x1021 else r <<< 1

/-- One byte fed, most significant bit first. -/
def crcByte (r : BitVec 16) (b : Byte) : BitVec 16 :=
  [7, 6, 5, 4, 3, 2, 1, 0].foldl (fun r k => crcBit r (b.getLsbD k)) r

/-- Bytes fed into a running CRC. -/
def crcFeed (r : BitVec 16) (bytes : List Byte) : BitVec 16 := bytes.foldl crcByte r

/-- The CRC of a list of bytes, from the initial value. -/
def crcOf (bytes : List Byte) : BitVec 16 := crcFeed 0xFFFF bytes

/-! ## Slots and parity (R79) -/

/-- The four flags as the record's flags byte orders them: bit 0 STROBE, 1 LOOP-MARK, 2 LOOP-BACK, 3 END (11 §11.3). -/
def Vec.flagBits (v : Vec) : BitVec 4 :=
  BitVec.ofBool v.last ++ BitVec.ofBool v.loopBack ++ BitVec.ofBool v.loopMark ++ BitVec.ofBool v.strobe

/-- The 36 bits of content: drive, expect, mask and flags. -/
def Vec.content (v : Vec) : BitVec 36 := v.drive ++ v.expect ++ v.mask ++ v.flagBits

/-- The number of ones is odd. -/
def oddOnes {n : Nat} (b : BitVec n) : Bool := (List.range n).foldl (fun p k => p ^^ b.getLsbD k) false

/-- The slot the staging writer stores: the content and its even parity bit (R79). -/
def slotOf (v : Vec) : Slot := v.content ++ BitVec.ofBool (oddOnes v.content)

/-- The vector in a slot. -/
def vecOf (w : Slot) : Vec :=
  { drive := w.extractLsb' 21 16, expect := w.extractLsb' 13 8, mask := w.extractLsb' 5 8, strobe := w.getLsbD 1,
    loopMark := w.getLsbD 2, loopBack := w.getLsbD 3, last := w.getLsbD 4 }

/-- The stored parity does not match the content: the 37 bits hold an odd number of ones (R79, R98). -/
def parityBad (w : Slot) : Bool := oddOnes w

/-! ## The flag structure of a page (R85) -/

/-- The scan of R85 from vector `i` on: `mark` is the index of the LOOP-MARK seen, `back` and `fin` say whether a
LOOP-BACK and an END were seen. It answers the first failing index. A vector that carries LOOP-MARK and END with no
LOOP-BACK yet fails at its own index (DESIGN CHOICE, log entry 39). -/
def scanFlags : List Vec → Nat → Option Nat → Bool → Bool → Option Nat
  | [], _, mark, back, _ => if back then none else mark
  | v :: vs, i, mark, back, fin =>
    if (v.loopMark && mark.isSome) || (v.loopBack && back) || (v.last && fin) || (v.loopBack && mark.isNone) ||
        (v.last && (mark.isSome || v.loopMark) && !(back || v.loopBack)) || ((v.loopMark || v.loopBack) && fin) then
      some i
    else scanFlags vs (i + 1) (if v.loopMark then some i else mark) (back || v.loopBack) (fin || v.last)

/-- The first vector at which the flag structure of a page fails (R85); none when it is correct. -/
def firstBadFlag (vs : List Vec) : Option Nat := scanFlags vs 0 none false false

/-- The index of the page's LOOP-MARK vector. -/
def loopMarkIdx (vs : List Vec) : Option Nat := vs.findIdx? (·.loopMark)

/-! ## The vector clock (R103) -/

/-- The length of vector period `k` in base-clock cycles under divisor `n` and fraction `f`. -/
def periodCycles (n f k : Nat) : Nat := if (k + 1) * f / 16 > k * f / 16 then n + 1 else n

/-! ## The heater step (R60 to R64, R72) -/

/-- The error: Teff minus the reading, clamped (R60). -/
def stepError (teff reading : Int) : Int := clampInt (-500) 500 (teff - reading)

/-- The proportional term (R60). -/
def stepProp (kp : Nat) (e : Int) : Int := ((kp : Int) * e).tdiv 10

/-- The integral increment (R61). -/
def stepInc (ki : Nat) (e : Int) : Int := ((ki : Int) * e).tdiv 10

/-- The integral after the step, under the guard of the saturation flag (R61). -/
def stepIntegral (sat : Saturation) (i inc : Int) : Int :=
  if (sat = .high ∧ inc > 0) ∨ (sat = .low ∧ inc < 0) then i else clampInt 0 16000 (i + inc)

/-- The feed-forward term (R62). -/
def stepFeed (kff power : Nat) : Int := ((kff * power / 10 : Nat) : Int)

/-- The duty cap from the headroom and the heater rating (R72). -/
def dutyCap (h : Int) (rating : Nat) : Nat := if h ≤ 0 then 0 else min 1000 (h.toNat * 1000 / rating)

/-- The duty: the raw duty clamped to 0 and the cap (R63). -/
def stepDuty (raw : Int) (cap : Nat) : Nat := (clampInt 0 cap raw).toNat

/-- The saturation flag of the step, NONE for a raw duty of exactly 0 against a cap of 0, as R63 has it and not R74
(DESIGN CHOICE, log entry 33). -/
def stepSat (raw : Int) (cap : Nat) : Saturation :=
  if raw > (cap : Int) then .high else if raw < 0 then .low else .none

/-- Teff moved toward the target by at most `r`, without passing it (R56). -/
def moveTeff (teff target : Int) (r : Nat) : Int :=
  if teff < target then teff + min (r : Int) (target - teff) else teff - min (r : Int) (teff - target)

/-! ## Eligibility and classes -/

/-- A socket's responses are worth judging (R125). -/
def Socket.eligible (k : Socket) : Bool :=
  k.life == .stressing && k.rail.state == .on && k.live.state != .resetHeld && k.live.state != .ignore

/-- The class of a fail kind (09 §9.1). -/
def FailKind.cls : FailKind → FailClass
  | .strobeMismatch | .signatureMismatch | .heartbeatEarly | .heartbeatLate | .heartbeatExhausted => .functional
  | .railFast | .railAverage | .railRamp | .railExhausted => .power
  | .thermalTrip => .thermal
  | .sensorFault => .board

/-- The default disposition of a fail kind (09 §9.1). -/
def FailKind.default : FailKind → Disp
  | .strobeMismatch | .signatureMismatch => .count
  | .heartbeatEarly | .heartbeatLate => .reset
  | .heartbeatExhausted => .retire
  | .railFast | .railAverage | .railRamp => .count
  | .railExhausted => .retire
  | .thermalTrip => .retire
  | .sensorFault => .count

/-- The entry of the disposition table for a kind; the kinds with a fixed disposition have none (01 §1.3). -/
def DispTable.entry (t : DispTable) : FailKind → Option Disp
  | .strobeMismatch => t.strobe
  | .signatureMismatch => t.signature
  | .heartbeatEarly => t.early
  | .heartbeatLate => t.late
  | .railFast => t.fast
  | .railAverage => t.average
  | .railRamp => t.ramp
  | .thermalTrip => t.trip
  | .heartbeatExhausted | .railExhausted | .sensorFault => none

/-- The disposition a table gives a kind, DEFAULT resolved (R151). -/
def DispTable.resolve (t : DispTable) (k : FailKind) : Disp := (t.entry k).getD k.default

/-- The disposition the run gives a kind (R143, R151). -/
def State.disposition (s : State) (k : FailKind) : Disp :=
  match s.run.record with
  | some r => r.disp.resolve k
  | none => k.default

/-- A rail draws or could draw power: QUEUED, RAMP-1, RAMP-2 or ON (R30). -/
def RailState.live (r : RailState) : Bool := r == .queued || r == .ramp1 || r == .ramp2 || r == .on

/-- A rail holds a ramp slot: RAMP-1 or RAMP-2 (law 1, R33). -/
def RailState.ramping (r : RailState) : Bool := r == .ramp1 || r == .ramp2

/-- A heater loop is under control: APPROACH, INBAND or OUTBAND (R59). -/
def ThermalState.control (t : ThermalState) : Bool := t == .approach || t == .inband || t == .outband

/-- A sequencer has a pass in progress: PLAYING or STALLED (06 §6.4). -/
def SeqState.inPass (q : SeqState) : Bool := q == .playing || q == .stalled

end Sys2Proof.Machine
end

