-- ==== Sys2Proof/Machine/Checker.lean ====
section
/-! DEFINITION. The response checker without its verdicts: joining a pass, dropping from it, the strobe sample and the
closing of a pass (chapter 7). -/

namespace Sys2Proof.Machine

/-- A socket is dropped from its pass: the checked flag clears and nothing else changes (R127). -/
def dropPass (i : SocketId) : State → State := modPass i fun p => { p with checked := false }

/-- A zone's pass closes and the checked flags of its sockets clear (R131, R133, R134). -/
def closePass (z : ZoneId) (s : State) : State :=
  forEach (zoneSockets z) dropPass (modChk z (fun c => { c with opened := false }) s)

/-- What the pass start does to one socket: an eligible one joins with its context cleared, another's flag clears and
its context stays (R126). -/
def joinOne (i : SocketId) (s : State) : State :=
  if (s.sock i).eligible then
    modPass i (fun p => { p with checked := true, count := 0, first := none, crc := 0xFFFF, lpc := 0 }) s
  else dropPass i s

/-- A pass start of the zone under a program slot reaches the checker (R126). -/
def joinPass (z : ZoneId) (passNo : Nat) (p : ProgId) (s : State) : State :=
  forEach (zoneSockets z) joinOne
    (modChk z (fun _ => { opened := true, passNo := passNo, slot := some p, mode := (s.program p).map (·.mode),
                          expect := (s.program p).bind (·.sig) }) s)

/-- The strobe of a vector on one checked socket's pass context (R129, R130). -/
def strobePass (mode : Option CheckMode) (ordinal : Nat) (v : Vec) (resp : Byte) (p : Pass) : Pass :=
  let masked := resp &&& v.mask
  let diff := (resp ^^^ v.expect) &&& v.mask
  let p := if diff = 0 then p
    else { p with first := if p.count = 0 then some ⟨ordinal, diff⟩ else p.first, count := incTo 65535 p.count }
  if mode = some .signature ∨ mode = some .both then
    { p with crc := crcByte p.crc masked, lpc := p.lpc ^^^ masked }
  else p

/-- The strobe sample of one socket: a socket whose flag is clear is not read (R129). -/
def strobeOne (mode : Option CheckMode) (ordinal : Nat) (v : Vec) (resp : Vector Byte 8) (i : SocketId) : State → State :=
  modPass i fun p => if p.checked then strobePass mode ordinal v resp[placeOf i] p else p

/-- The strobe sample of a zone at the end of the period of a STROBE vector (R129). -/
def strobeSample (z : ZoneId) (v : Vec) (resp : Vector Byte 8) (s : State) : State :=
  forEach (zoneSockets z) (strobeOne (s.zone z).chk.mode (s.zone z).seq.ordinal v resp) s

end Sys2Proof.Machine
end

