-- ==== Sys2Proof/Machine/Liveness.lean ====
section
/-! DEFINITION. The heartbeat monitor's moves that make no fail record: reset cycles, holds, the resume, program
changes and the ways into IDLE (chapter 8). -/

namespace Sys2Proof.Machine

/-- Enter a heartbeat state with the timer started at `n` ms (R137). -/
def startHb (i : SocketId) (st : HbState) (n : Nat) (s : State) : State :=
  modLive i (fun l => { l with state := st, timer := some (s.nowMs + n) }) s

/-- Enter a heartbeat state with the timer stopped (R137). -/
def stopHb (i : SocketId) (st : HbState) : State → State :=
  modLive i fun l => { l with state := st, timer := none }

/-- Set or clear the reset owed flag. -/
def setOwed (i : SocketId) (b : Bool) : State → State := modLive i fun l => { l with owed := b }

/-- The socket becomes IDLE with no reset owed: its rail left ON, it is final, or the run ended (R146, R147). -/
def hbToIdle (i : SocketId) (s : State) : State := setOwed i false (stopHb i .idle s)

/-- Treset of the zone's assigned program, 10 ms when it has no heartbeat part (R138). -/
def State.tReset (s : State) (z : ZoneId) : Nat := ((s.hbPart z).map (·.tReset)).getD 10

/-- Tignore of the zone's assigned program, 100 ms when it has no heartbeat part (R138). -/
def State.tIgnore (s : State) (z : ZoneId) : Nat := ((s.hbPart z).map (·.tIgnore)).getD 100

/-- The cycle limit of the zone's assigned program, 0 when it has no heartbeat part (R138). -/
def State.cycleLimit (s : State) (z : ZoneId) : Nat := ((s.hbPart z).map (·.cycleLimit)).getD 0

/-- The socket enters RESET-HELD with the timer at Treset, and is dropped from its pass (R127, R138, R139). -/
def enterResetHeld (i : SocketId) (s : State) : State := dropPass i (startHb i .resetHeld (s.tReset (zoneOf i)) s)

/-- A power-up cycle begins; the reset owed flag is cleared (R139, R147). -/
def powerUpCycle (i : SocketId) (s : State) : State := enterResetHeld i (setOwed i false s)

/-- The socket waits for a first heartbeat if its zone's program has a heartbeat part, and is IDLE otherwise
(R140, R147, R148). -/
def waitOrIdle (i : SocketId) (s : State) : State :=
  match s.hbPart (zoneOf i) with
  | some h => startHb i .waitFirst (h.tMin + h.tWin) s
  | none => stopHb i .idle s

/-- A rail entered ON (R139). -/
def hbRailOn (i : SocketId) (s : State) : State :=
  if (s.sock i).life = .stressing ∧ s.run.state = .active then powerUpCycle i s
  else if (s.sock i).life = .stressing ∧ s.run.state = .held then setOwed i true (stopHb i .paused s)
  else s

/-- The end of RESET-HELD: IGNORE for Tignore, or the end of the cycle at once when Tignore is 0 (R140). -/
def hbReleaseReset (i : SocketId) (s : State) : State :=
  if s.tIgnore (zoneOf i) = 0 then waitOrIdle i s else startHb i .ignore (s.tIgnore (zoneOf i)) s

/-- The run became HELD (R147). -/
def hbHold (i : SocketId) (s : State) : State :=
  match (s.sock i).live.state with
  | .resetHeld => setOwed i true (stopHb i .paused s)
  | .ignore | .waitFirst | .watch => stopHb i .paused s
  | .idle | .paused => s

/-- The run became ACTIVE from HELD (R147). A STRESSING socket that is IDLE with its rail ON stays IDLE, also where its
zone was given a program with a heartbeat part in the hold: R147 acts on PAUSED sockets alone (R138 would supervise it;
DESIGN CHOICE, log entry 44). -/
def hbResume (i : SocketId) (s : State) : State :=
  if (s.sock i).live.state = .paused then
    if (s.sock i).live.owed then powerUpCycle i s else waitOrIdle i s
  else s

/-- The zone's assigned program changed (R148); the new program is the one assigned now. An IDLE socket in a HELD run
stays IDLE, and the resume leaves it so (DESIGN CHOICE, log entry 44). -/
def hbProgramChange (i : SocketId) (s : State) : State :=
  match (s.sock i).live.state with
  | .waitFirst | .watch => waitOrIdle i s
  | .idle =>
    if (s.sock i).rail.state = .on ∧ (s.sock i).life = .stressing ∧ s.run.state = .active then waitOrIdle i s else s
  | .resetHeld | .ignore | .paused => s

/-- The sequencer reports a change of the zone's assigned program (R112, R119, R148). -/
def hbZoneProgramChange (z : ZoneId) (s : State) : State := forEach (zoneSockets z) hbProgramChange s

end Sys2Proof.Machine
end

