-- ==== Sys2Proof/Machine/Rail.lean ====
section
/-! DEFINITION. The rail controller without its trips: the DUT power figure and the over-budget test that watches it,
opening a rail, the ramp queue and its two slots, and changes of the inhibit-cause set (chapter 2, R75 to R77). -/

namespace Sys2Proof.Machine

/-! ## The DUT power figure and the over-budget test -/

/-- The re-arm level of a budget (R76). -/
def rearmLevel (budget : Nat) : Nat := budget * 95 / 100

/-- The two over-budget tests of a zone, made at a change of a DUT power figure or of the budget (R75 to R77). -/
def budgetTest (z : ZoneId) (s : State) : State :=
  if (s.zone z).armed then
    if s.dutSum z > (s.zone z).budget then
      modZone z (fun k => { k with armed := false })
        (sendRoutine (.zone z) (.budgetOver (s.dutSum z) (s.zone z).budget) s)
    else s
  else if s.dutSum z ≤ rearmLevel (s.zone z).budget then modZone z (fun k => { k with armed := true }) s
  else s

/-- The DUT power figure of a socket becomes `v`; only a change is an event for the budget (R28, R75). -/
def setPower (i : SocketId) (v : Nat) (s : State) : State :=
  if (s.sock i).rail.power = v then s else budgetTest (zoneOf i) (modRail i (fun r => { r with power := v }) s)

/-! ## Opening a rail -/

/-- The off-time in ms of an off-time code (R42). -/
def offTimeMs (n : Nat) : Nat := if n = 0 then 0 else if n ≤ 2 then 20 else n * 10

/-- The off-time timer as it stands when it starts now: stopped when the zone's off-time is none (R42). -/
def State.offTimerNow (s : State) (i : SocketId) : Option Nat :=
  match (s.zone (zoneOf i)).railProf with
  | some p => if offTimeMs p.offCode = 0 then none else some (afterMs (offTimeMs p.offCode) s)
  | none => none

/-- A socket leaves its zone's ramp queue, from any place (R30, R32). -/
def leaveQueue (i : SocketId) : State → State :=
  modZone (zoneOf i) fun k => { k with rampQueue := k.rampQueue.filter (· != i) }

/-- A rail that is QUEUED, ramping or ON opens into `dest`: timers stop, the off-time starts, the DUT power figure is 0,
the heartbeat monitor and the checker stop their work (R28, R30, R40, R127, R146). Any ramp slot is released, as it is
held by being in RAMP-1 or RAMP-2; who takes it is `grantSlots`. -/
def openRail (dest : RailState) (i : SocketId) (s : State) : State :=
  let s1 := leaveQueue i (modRail i (fun r =>
    { r with state := dest, offTimer := s.offTimerNow i, stableTimer := none, phase1Timer := none, rampTimer := none }) s)
  if (s.sock i).rail.state = .on then dropPass i (hbToIdle i (setPower i 0 s1)) else s1

/-! ## The ramp queue and the ramp slots -/

/-- The sockets of a zone that hold a ramp slot, ascending (R33, R43). -/
def State.slotHolders (s : State) (z : ZoneId) : List SocketId :=
  (zoneSockets z).filter fun i => (s.sock i).rail.state.ramping

/-- A socket granted a slot begins its ramp (R34). -/
def startRamp (p : RailProfile) (i : SocketId) (s : State) : State :=
  if p.i1 = 0 then modRail i (fun r => { r with state := .ramp2, rampTimer := some (afterMs p.rampMs s) }) s
  else modRail i (fun r => { r with state := .ramp1, rampTimer := some (afterMs p.rampMs s),
                                    phase1Timer := some (afterMs p.t1 s) }) s

/-- One grant: the head of a zone's queue takes a free slot and begins its ramp (R33). -/
def grantOne (z : ZoneId) (s : State) : State :=
  match (s.zone z).rampQueue, (s.zone z).railProf with
  | i :: rest, some p =>
    if (s.slotHolders z).length < 2 then startRamp p i (modZone z (fun k => { k with rampQueue := rest }) s) else s
  | _, _ => s

/-- Grants while the zone has a free slot and a waiting socket: two slots, so at most two grants (R33). -/
def grantSlots (z : ZoneId) (s : State) : State := grantOne z (grantOne z s)

/-- A socket enters QUEUED by joining the tail of its zone's ramp queue (R32). -/
def joinQueue (i : SocketId) (s : State) : State :=
  modZone (zoneOf i) (fun k => { k with rampQueue := k.rampQueue ++ [i] })
    (modRail i (fun r => { r with state := .queued }) s)

/-! ## Changes of the inhibit-cause set -/

/-- The set became empty: the socket demands power (R29). -/
def demand (i : SocketId) (s : State) : State :=
  if (s.sock i).rail.state = .off then
    if (s.sock i).rail.offTimer = none then joinQueue i s
    else modRail i (fun r => { r with state := .rest }) s
  else s

/-- One change of a socket's inhibit-cause set, judged once after the whole change, without the grant of a slot: an
added cause opens the rail (R30), a set left empty demands (R29). -/
def changeInhibitNoGrant (f : Inhibit → Inhibit) (i : SocketId) (s : State) : State :=
  let old := (s.sock i).rail.inhibit
  let new := f old
  let s1 := modRail i (fun r => { r with inhibit := new }) s
  if old.adds new then if (s.sock i).rail.state.live then openRail .off i s1 else s1
  else if new.isEmpty && !old.isEmpty then demand i s1
  else s1

/-- One change of the inhibit-cause sets of several sockets, in ascending number, then the grants (R29, R32, R33). -/
def changeInhibits (l : List SocketId) (f : SocketId → Inhibit → Inhibit) (s : State) : State :=
  forEach allZones grantSlots (forEach l (fun i => changeInhibitNoGrant (f i) i) s)

/-- A cause is added to a socket's set (R30). -/
def addCause (c : Cause) (i : SocketId) (s : State) : State :=
  grantSlots (zoneOf i) (changeInhibitNoGrant (Inhibit.put c true) i s)

/-- A cause is removed from a socket's set (R29). -/
def removeCause (c : Cause) (i : SocketId) (s : State) : State :=
  grantSlots (zoneOf i) (changeInhibitNoGrant (Inhibit.put c false) i s)

/-- The off-time ran out: a rail in REST queues when its set is empty and enters OFF when it is not; a rail in OFF
stays there (R42). -/
def leaveRest (i : SocketId) (s : State) : State :=
  if (s.sock i).rail.state = .rest then
    if (s.sock i).rail.inhibit.isEmpty then grantSlots (zoneOf i) (joinQueue i s)
    else modRail i (fun r => { r with state := .off }) s
  else s

/-! ## The averaging window -/

/-- The averaging window of a zone in samples, 8 while it is unset (R27). -/
def State.windowLen (s : State) (z : ZoneId) : Nat := ((s.zone z).railProf.map (·.win)).getD 8

/-- The last `w` members of a list. -/
def lastN {α : Type} (w : Nat) (l : List α) : List α := l.drop (l.length - w)

/-- The average current: the truncated mean of the window, 0 while it is empty (R27). -/
def Rail.average (r : Rail) : Nat := if r.window.length = 0 then 0 else r.window.sum / r.window.length

/-- The DUT power figure of a rail in ON (R28). -/
def Rail.powerNow (r : Rail) : Nat := min 600 (r.voltage * r.average / 100000)

/-! ## Heater loops into OFF -/

/-- Duty and grant 0 and the saturation flag NONE. -/
def Thermal.cut (t : Thermal) : Thermal := { t with duty := 0, grant := 0, sat := .none }

/-- The thermal state of a socket becomes OFF; COLD and SENSOR leave its inhibit set (R54). -/
def thermOff (i : SocketId) (s : State) : State :=
  grantSlots (zoneOf i) (changeInhibitNoGrant (fun h => { h with cold := false, sensor := false }) i
    (modTherm i (fun t => { t.cut with state := .off, integral := 0 }) s))

end Sys2Proof.Machine
end

