-- ==== Sys2Proof/Machine/Port.lean ====
section
/-! DEFINITION. The memory port and its arbiter: waiting requests, grants, transfers and the withdrawal of a fetch
(05 §5.5). -/

namespace Sys2Proof.Machine

/-- The staging writer's request waits at the port (R82, R96). -/
def State.stagingWaits (s : State) : Bool := s.store.staging.isSome && s.store.port != some .staging

/-- A fetch request of the zone waits at the port (R97). -/
def State.fetchWaits (s : State) (z : ZoneId) : Bool :=
  (s.zone z).seq.fetch.isSome && s.store.port != some (.burst z)

/-- The zone's requests are of the first class: its sequencer is STALLED or PRIMING (R96). -/
def State.urgentZone (s : State) (z : ZoneId) : Bool :=
  (s.zone z).seq.state == .stalled || (s.zone z).seq.state == .priming

/-- The first zone after `ptr`, in the cyclic order, that satisfies `p` (R96). -/
def nextZone (ptr : ZoneId) (p : ZoneId → Bool) : Option ZoneId := [ptr + 1, ptr + 2, ptr + 3, ptr].find? p

/-- The vectors of burst `k` of a fetch of `count` (R97). -/
def burstLen (count k : Nat) : Nat := min 64 (count - 64 * k)

/-- The port is granted to a zone's fetcher; a waiting staging request counts the grant (R95, R96). -/
def grantFetch (z : ZoneId) (s : State) : State :=
  let n := ((s.zone z).seq.fetch.map fun f => burstLen f.tag.count f.burst).getD 0
  let w := if s.stagingWaits then incTo 255 s.store.waitCount else s.store.waitCount
  modStore (fun st => { st with port := some (.burst z), portEnd := s.now + n, waitCount := w }) s

/-- The port is granted to the staging writer, which ends its request: the wait count is 0 (R83, R95, R96, 05 §5.6). -/
def grantStaging (s : State) : State :=
  let n := (s.store.staging.map (·.vecs.length)).getD 0
  modStore (fun st => { st with port := some .staging, portEnd := s.now + n, waitCount := 0 }) s

/-- The grant decision at an idle port, by the four classes (R95, R96). -/
def arbitrate (s : State) : State :=
  if s.store.port.isSome then s else
  match nextZone s.store.ptr1 (fun z => s.fetchWaits z && s.urgentZone z) with
  | some z => modStore (fun st => { st with ptr1 := z }) (grantFetch z s)
  | none =>
    if s.stagingWaits && decide (4 ≤ s.store.waitCount) then grantStaging s else
    match nextZone s.store.ptr3 (fun z => s.fetchWaits z && !s.urgentZone z) with
    | some z => modStore (fun st => { st with ptr3 := z }) (grantFetch z s)
    | none => if s.stagingWaits then grantStaging s else s

/-- A transfer ends: the port falls free and the waiting requests are decided among (R95). -/
def releasePort (s : State) : State := arbitrate (modStore (fun st => { st with port := none }) s)

/-- A zone's fetch is withdrawn: its request goes, and a burst of it at the port is abandoned (R99). The port's next
grant is `arbitrate`. -/
def withdrawFetch (z : ZoneId) (s : State) : State :=
  modStore (fun st => if st.port = some (.burst z) then { st with port := none } else st)
    (modSeq z (fun q => { q with fetch := none }) s)

end Sys2Proof.Machine
end

