-- ==== Sys2Proof/Machine/Zone.lean ====
section
/-! DEFINITION. The zone sequencers without the end of a pass: buffers, fetches, pass starts, holds, the resume,
halts, and the ways into DONE and IDLE (chapter 6). -/

namespace Sys2Proof.Machine

/-! ## Buffers and tags -/

/-- The buffer that is not `b`. -/
def BufId.other : BufId → BufId
  | .A => .B
  | .B => .A

/-- A buffer of the sequencer. -/
def Seq.buf (q : Seq) : BufId → Buffer
  | .A => q.bufA
  | .B => q.bufB

/-- Set a buffer of the sequencer. -/
def Seq.setBuf (q : Seq) (b : BufId) (x : Buffer) : Seq :=
  match b with
  | .A => { q with bufA := x }
  | .B => { q with bufB := x }

/-- The vectors a buffer holds. -/
def Buffer.vecs : Buffer → List Vec
  | .full _ vs => vs
  | _ => []

/-- The tag of a non-empty buffer. -/
def Buffer.tag? : Buffer → Option PageTag
  | .empty => none
  | .filling t | .full t _ => some t

/-- The buffer is full with the page of the tag. -/
def Buffer.holds (t : PageTag) : Buffer → Bool
  | .full t' _ => t' == t
  | _ => false

/-- The current vector: the one at the play position. -/
def Seq.current (q : Seq) : Option Vec := (q.buf q.play.buf).vecs[q.play.idx]?

/-- The vectors a fetch of list position `pos` carries: the page's sealed count, or the last-page vector count at the
last position (R97, R105). -/
def State.playedCount (s : State) (d : Program) (pos : Nat) (pg : PageId) : Nat :=
  if pos + 1 = d.pages.length then d.lastCount else ((s.page pg).count).getD 0

/-- The tag of list position `pos` of a program slot: slot, position, the page there and its count, as the slot is
defined now (R105; page and count in the tag DESIGN CHOICE, log entry 36). A next page keeps the tag it was chosen with
(DESIGN CHOICE, log entry 42). -/
def State.tagAt (s : State) (p : ProgId) (pos : Nat) : Option PageTag :=
  (s.program p).bind fun d => (d.pages[pos]?).map fun pg => ⟨p, pos, pg, s.playedCount d pos pg⟩

/-- Position 0 of the zone's assigned program. -/
def State.firstTag (s : State) (z : ZoneId) : Option PageTag := (s.assignedSlot z).bind fun p => s.tagAt p 0

/-- The idle word of the zone's assigned program, 0x0000 when it is none (R101). -/
def State.idleWord (s : State) (z : ZoneId) : BitVec 16 := ((s.zoneProgram z).map (·.idleWord)).getD 0

/-- Both buffers are marked empty, and no next page is chosen. -/
def Seq.emptied (q : Seq) : Seq := { q with bufA := .empty, bufB := .empty, next := none }

/-! ## Fetches -/

/-- A fetch of the page, of the count in its tag, starts into the buffer other than the one that plays or played last;
its first burst is requested at the port (R97, R105). -/
def startFetch (z : ZoneId) (t : PageTag) (s : State) : State :=
  arbitrate (modSeq z (fun q =>
    { q.setBuf q.play.buf.other (.filling t) with
      fetch := some { tag := t, target := q.play.buf.other, burst := 0, data := [] } }) s)

/-- The page wanted at this moment, by the sequencer's state (R106). -/
def State.wanted (s : State) (z : ZoneId) : Option PageTag :=
  match (s.zone z).seq.state with
  | .playing | .stalled => (s.zone z).seq.next
  | .priming | .gap => s.firstTag z
  | .idle | .static | .held | .halted | .done => none

/-- A buffer already holds the wanted page: the other buffer in play, either one in PRIMING and GAP, the one just played
among them (R106; the last DESIGN CHOICE, log entry 35). -/
def State.held (s : State) (z : ZoneId) (t : PageTag) : Bool :=
  let q := (s.zone z).seq
  (q.buf q.play.buf.other).holds t || (!q.state.inPass && (q.buf q.play.buf).holds t)

/-- The wanted page's fetch starts when no buffer holds it and the fetcher is free; a fetch in progress is waited for,
and when it is of the wanted page its buffer is receiving it, one that a hold had emptied too, from this moment and not
only at the completion (R105, R106, R107, R115, R116; the last DESIGN CHOICE, log entry 38). A next page whose fetch had
to wait is fetched with the page and count it was chosen with, also where its slot was un-staged and defined anew
meanwhile (DESIGN CHOICE, log entry 42) or its page freed (R105 against R87; DESIGN CHOICE, log entry 40). -/
def fetchWanted (z : ZoneId) (s : State) : State :=
  match s.wanted z with
  | some t =>
    if s.held z t then s else
    match (s.zone z).seq.fetch with
    | some f => if f.tag = t then modSeq z (fun q => q.setBuf f.target (.filling t)) s else s
    | none => startFetch z t s
  | none => s

/-- The page that should follow the one now playing is chosen, the other buffer is marked empty, and its fetch
starts, after any fetch in progress (R105). With no next page there is no fetch, and the other buffer's mark stays as it
is (DESIGN CHOICE, log entry 43). -/
def chooseNext (z : ZoneId) (s : State) : State :=
  let q := (s.zone z).seq
  let next : Option PageTag :=
    match (q.buf q.play.buf).tag? with
    | none => none
    | some t =>
      match s.program t.slot with
      | none => none
      | some d =>
        if t.pos + 1 < d.pages.length then s.tagAt t.slot (t.pos + 1)
        else
          match q.staged with
          | some (.slot p) => s.tagAt p 0
          | some .noProgram => none
          | none => s.firstTag z
  match next with
  | none => modSeq z (fun q => { q with next := none }) s
  | some t => fetchWanted z (modSeq z (fun q => { q.setBuf q.play.buf.other .empty with next := some t }) s)

/-! ## Playing -/

/-- Vector `idx` of buffer `b` is applied: it is on the lines for its period (R101, R103, R108). -/
def applyVec (b : BufId) (idx loop : Nat) (now : Nat) (q : Seq) : Seq :=
  { q with
    play := ⟨b, idx, loop⟩
    drive := (((q.buf b).vecs[idx]?).map (·.drive)).getD 0
    periodEnd := now + periodCycles q.divN q.fracF q.period }

/-- A pass start from buffer `b` (R107). -/
def passStart (z : ZoneId) (b : BufId) (s : State) : State :=
  match s.assignedSlot z with
  | none => s
  | some p =>
    let n := ((s.program p).map (·.divN)).getD 4
    let f := ((s.program p).map (·.fracF)).getD 0
    let s1 := modSeq z (fun q => applyVec b 0 0 s.now
      { q with state := .playing, passNo := (q.passNo + 1) % (top32 + 1), void := none, period := 0, ordinal := 0,
               divN := n, fracF := f, gapTimer := none }) s
    chooseNext z (joinPass z (s1.zone z).seq.passNo p s1)

/-- The buffer from which a pass of the tagged page would start: the one not played last when both hold it
(R107, R113, R114; DESIGN CHOICE, log entry 15), and else the one just played, where the end of the pass left
its page in it (R113; DESIGN CHOICE, log entry 35). -/
def Seq.readyBuf (q : Seq) (t : PageTag) : Option BufId :=
  if (q.buf q.play.buf.other).holds t then some q.play.buf.other
  else if (q.buf q.play.buf).holds t then some q.play.buf else none

/-- The buffer in which position 0 of the assigned program is full. -/
def State.ready (s : State) (z : ZoneId) : Option BufId := (s.firstTag z).bind (s.zone z).seq.readyBuf

/-- The zone enters PRIMING; a page already buffered starts the pass in the same change (R107). -/
def enterPriming (z : ZoneId) (s : State) : State :=
  let s := modSeq z (fun q => { q with state := .priming, gapTimer := none, next := none, drive := s.idleWord z }) s
  match s.ready z with
  | some b => passStart z b s
  | none => fetchWanted z s

/-- The zone enters STATIC: no stimulus, buffers empty, its fetch withdrawn (R99, R101, R113). -/
def enterStatic (z : ZoneId) (s : State) : State :=
  arbitrate (withdrawFetch z (modSeq z (fun q =>
    { q.emptied with state := .static, gapTimer := none, drive := 0 }) s))

/-- The zone enters HELD: buffers empty, the gap timer stopped, the idle word on the lines (R101, R115). -/
def enterHeld (z : ZoneId) (s : State) : State :=
  modSeq z (fun q => { q.emptied with state := .held, gapTimer := none, drive := s.idleWord z }) s

/-! ## Holds and the resume -/

/-- One void pass more (R112). -/
def Seq.countVoid (q : Seq) : Seq := { q with voidCount := incTo top32 q.voidCount }

/-- The PASS-VOID notice of the zone's pass (R112). -/
def passVoidNotice (z : ZoneId) (s : State) : State :=
  sendRoutine (.zone z) (.passVoid (s.zone z).seq.passNo ((s.zone z).seq.void.getD .hold)) s

/-- A pass in progress is cut by a hold: void, counted and told (R115). -/
def cutByHold (z : ZoneId) (s : State) : State :=
  closePass z (passVoidNotice z (modSeq z (fun q => { q.countVoid with void := some (q.void.getD .hold) }) s))

/-- The run controller reports a hold to the zone (R115). -/
def zoneHold (z : ZoneId) (s : State) : State :=
  match (s.zone z).seq.state with
  | .playing | .stalled => enterHeld z (cutByHold z s)
  | .priming | .gap => enterHeld z s
  | .idle | .static | .held | .halted | .done => s

/-- The run controller reports the resume to the zone (R116). -/
def zoneResume (z : ZoneId) (s : State) : State :=
  if (s.zone z).seq.state = .held then
    match s.assignedSlot z with
    | some _ => enterPriming z s
    | none => enterStatic z s
  else s

/-! ## The end of the zone's part and of the run -/

/-- The zone enters DONE (R120, R134). -/
def zoneDone (z : ZoneId) (s : State) : State :=
  arbitrate (withdrawFetch z (closePass z (modSeq z (fun q =>
    { q.emptied with state := .done, gapTimer := none, staged := none, drive := s.idleWord z }) s)))

/-- A socket of the zone became final: with none left STRESSING in a started run the zone enters DONE (R120). -/
def zoneTold (z : ZoneId) (s : State) : State :=
  if s.started && !((zoneSockets z).any fun i => (s.sock i).life == .stressing) && (s.zone z).seq.state != .done then
    zoneDone z s
  else s

/-- The zone enters IDLE at the end of the run (R121, R134). -/
def zoneToIdle (z : ZoneId) (s : State) : State :=
  withdrawFetch z (closePass z (modSeq z (fun q =>
    { q.emptied with state := .idle, gapTimer := none, staged := none, drive := 0 }) s))

/-! ## Halts and fetch completions -/

/-- A fetch ended with outcome PARITY: the zone halts (R117). Where its assignment is none, as in HELD after a
ZONE-PROGRAM that names none, it drives 0 (DESIGN CHOICE, log entry 41). -/
def zoneHalt (z : ZoneId) (page : PageId) (idx : Nat) (s : State) : State :=
  let cut := (s.zone z).seq.state.inPass
  let s1 := modSeq z (fun q =>
    { (if cut then q.countVoid else q).emptied with
      state := .halted, gapTimer := none, halt := some (page, idx), fetch := none, drive := s.idleWord z }) s
  let s2 := if cut then closePass z s1 else s1
  sendUrgent (.zone z) (.zoneHalt page idx (s.zone z).seq.passNo cut) s2

/-- The zone plays on in buffer `b` after a page change: vector 0 at once, the ordinal and the period index carried
on, the next page chosen (R104, R110, R111). -/
def changePage (z : ZoneId) (b : BufId) (s : State) : State :=
  chooseNext z (modSeq z (fun q => applyVec b 0 0 s.now
    { q with state := .playing, ordinal := q.ordinal + 1, period := (q.period + 1) % 16 }) s)

/-- A fetch of the zone ended with outcome GOOD (R106). -/
def fetchGood (z : ZoneId) (f : Fetch) (vecs : List Vec) (s : State) : State :=
  let want := s.wanted z
  let s := modSeq z (fun q => { q with fetch := none }) s
  if want = some f.tag then
    let s := modSeq z (fun q => q.setBuf f.target (.full f.tag vecs)) s
    match (s.zone z).seq.state with
    | .stalled => changePage z f.target s
    | .priming => passStart z f.target s
    | _ => s
  else
    fetchWanted z (modSeq z (fun q =>
      if q.buf f.target = .filling f.tag then q.setBuf f.target .empty else q) s)

/-- What the port reads of a slot: the stored bits, with the listed bits inverted (log entry 6). -/
def readSlot (wrong : List (Nat × Slot)) (m : List (Nat × Slot)) (p : PageId) (idx : Nat) : Slot :=
  memRead m (slotAddr p idx) ^^^ (wrong.lookup idx).getD 0

/-- The first vector of a burst that fails its parity test (R98). -/
def firstParityError (slots : List Slot) (start : Nat) : Option Nat := (slots.findIdx? parityBad).map (· + start)

/-- A burst of the zone's fetch has been read from the memory: the fetch goes on, ends GOOD, or ends PARITY
(R97, R98). A fetch in progress reads on where its page was freed meanwhile (R99 against R87; DESIGN CHOICE, log entry
40). -/
def burstRead (z : ZoneId) (f : Fetch) (wrong : List (Nat × Slot)) (s : State) : State :=
  let start := 64 * f.burst
  let slots := (List.range (burstLen f.tag.count f.burst)).map fun k => readSlot wrong s.store.mem f.tag.page (start + k)
  match firstParityError slots start with
  | some idx => zoneHalt z f.tag.page idx s
  | none =>
    let data := f.data ++ slots.map vecOf
    if f.tag.count ≤ start + 64 then fetchGood z f data s
    else modSeq z (fun q => { q with fetch := some { f with burst := f.burst + 1, data := data } }) s

end Sys2Proof.Machine
end

