-- ==== Sys2Proof/Machine/RunEnd.lean ====
section
/-! DEFINITION. The end of a run, shared by RUN-ABORT and the entry into FINISHED (R16, R17), and the bins (R166). -/

namespace Sys2Proof.Machine

/-- The bin of a socket at the end of a run, from its lifecycle state and accounts (R166). -/
def Socket.binNow (k : Socket) : Bin :=
  match k.life with
  | .empty => .empty
  | .waiting | .stressing => .incomplete
  | .complete => if k.acct.total = 0 then .pass else .passRecovered
  | .retired =>
    match k.acct.deciding with
    | none => .failHost
    | some d =>
      match d.kind.cls with
      | .functional => .failFunction
      | .power => .failPower
      | .thermal => .failThermal
      | .board => .failHost

/-- Every socket is given its bin (R166). -/
def assignBins (s : State) : State := forEach allSockets (fun i => modSock i fun k => { k with bin := some k.binNow }) s

/-- RUN joins the set of every declared socket and PERMIT leaves every set, as one change of each set (R16). -/
def endInhibit (s : State) (i : SocketId) (h : Inhibit) : Inhibit :=
  { h with run := h.run || s.declared i, permit := false }

/-- The run ends in `st`: hold causes empty, rails open, heaters OFF, zones IDLE, heartbeats IDLE, the accounting timer
stops, the bins are assigned, and the RUN-STATE notice is sent, urgent for ABORTED (R8, R16, R17). -/
def endRun (st : RunState) (s : State) : State :=
  let s := modRun (fun r => { r with state := st, holds := ⟨false, false⟩, acctTimer := none }) s
  let s := changeInhibits allSockets (endInhibit s) s
  let s := forEach allSockets thermOff s
  let s := arbitrate (forEach allZones zoneToIdle s)
  let s := forEach allSockets hbToIdle s
  runStateNotice (st == .aborted) (assignBins s)

/-- The run finish test: no socket is WAITING or STRESSING in a started run (R165); only declared sockets can be
(R2). -/
def State.finishDue (s : State) : Bool :=
  s.started && allSockets.all fun i => (s.sock i).life != .waiting && (s.sock i).life != .stressing

/-- The run finish test and, when it finds the run at its end, the entry into FINISHED (R17, R165). -/
def finishTest (s : State) : State := if s.finishDue then endRun .finished s else s

end Sys2Proof.Machine
end

