-- ==== Sys2Proof/Machine/Account.lean ====
section
/-! DEFINITION. Failure accounting: the arrival of a fail record, the fail log, dispositions, retirement, reset requests
to the heartbeat monitor, completion, and the accounting timer (chapter 9, R144, R145). -/

namespace Sys2Proof.Machine

/-! ## Final sockets -/

/-- What the other blocks do for a socket that became final: FINAL, the heater OFF, the heartbeat IDLE, the pass
dropped, the zone told (R157 steps 3 to 7, R163). -/
def finalEffects (i : SocketId) (s : State) : State :=
  zoneTold (zoneOf i) (dropPass i (hbToIdle i (thermOff i (addCause .final i s))))

/-- A socket is retired, on a record or by the host when there is none (R157). -/
def retire (i : SocketId) (deciding : Option Deciding) (s : State) : State :=
  let s := modSock i (fun k =>
    { k with life := .retired, acct := { k.acct with deciding := deciding, byHost := deciding.isNone } }) s
  let s := finalEffects i s
  finishTest (sendUrgent (.socket i) (.retired (deciding.map (·.kind))) s)

/-! ## Fail records -/

/-- The slot of the fail log that the next record takes (R155). -/
def logSlot (log : List FailRec) : Nat := min 6 (log.length + 1)

/-- The log with a record stored: in the lowest empty slot of 1 to 5, else in slot 6 (R155). -/
def logStore (log : List FailRec) (r : FailRec) : List FailRec := log.take 5 ++ [r]

/-- A fail record that arrives for the socket is accepted (R153). -/
def State.accepts (s : State) (i : SocketId) : Bool := s.started && (s.sock i).life == .stressing

/-- The zone pass number stamped on a record of any kind but the checker's (R152). -/
def State.passStamp (s : State) (z : ZoneId) : Option Nat :=
  if (s.zone z).seq.state = .static ∨ (s.zone z).seq.assigned = some .noProgram then none
  else some (s.zone z).seq.passNo

/-- The disposition taken of a record that failure accounting decides itself (R151). -/
def State.dispTaken (s : State) (k : FailKind) : Disp :=
  match k with
  | .heartbeatExhausted | .railExhausted => .retire
  | .sensorFault => .count
  | k => s.disposition k

/-- The accounts after an accepted record: total, log and counted fails (R154 steps 1 to 3). -/
def Accounts.record (a : Accounts) (r : FailRec) : Accounts :=
  { a with total := incTo 65535 a.total, log := logStore a.log r,
           counted := if r.kind = .sensorFault then a.counted else a.counted + 1 }

/-- The counted fails have reached the run's retire limit with this record (R156). -/
def State.limitReached (s : State) (i : SocketId) (k : FailKind) : Bool :=
  match s.run.record with
  | some r => k != .sensorFault && (s.sock i).acct.counted == r.retireLimit
  | none => false

/-- An accepted record: counted, logged, noticed, and the socket retired when its disposition or the limit says so
(R154, R156). Any reset request is the caller's. -/
def acceptRecord (i : SocketId) (r : FailRec) (s : State) : State :=
  let slot := logSlot (s.sock i).acct.log
  let s := sendUrgent (.socket i) (.fail r.kind slot) (modAcct i (fun a => a.record r) s)
  if r.disp = .retire ∨ s.limitReached i r.kind = true then retire i (some ⟨r.kind, slot⟩) s else s

/-- A fail record of kind `k` arrives with its detail, its zone pass number and its disposition; it is accepted or
discarded (R152, R153). -/
def recordWith (i : SocketId) (k : FailKind) (d : Detail) (pass : Option Nat) (disp : Disp) (s : State) : State :=
  if s.accepts i then
    acceptRecord i { kind := k, clock := s.run.clock, credit := (s.sock i).acct.credit, pass := pass, disp := disp,
                     detail := d } s
  else s

/-- A fail record from the rail controller, the thermal controller, or an EXHAUSTED record (R151, R152). -/
def failRecord (i : SocketId) (k : FailKind) (d : Detail) (s : State) : State :=
  recordWith i k d (s.passStamp (zoneOf i)) (s.dispTaken k) s

/-! ## Reset requests (R144, R145) -/

/-- The monitor's part of a reset request: the count rises; the socket is exhausted and IDLE, owes a reset, or starts a
failure cycle. A request for an unpowered rail is dropped. -/
def resetCycle (i : SocketId) (s : State) : State :=
  if (s.sock i).rail.state ≠ .on then s else
  let s := modLive i (fun l => { l with cycles := incTo 255 l.cycles }) s
  let limit := s.cycleLimit (zoneOf i)
  if limit ≠ 0 ∧ (s.sock i).live.cycles > limit then stopHb i .idle s
  else if (s.sock i).live.state = .paused then setOwed i true s
  else enterResetHeld i s

/-- A reset request now would exhaust the socket (R144 step 3). -/
def State.exhausts (s : State) (i : SocketId) : Bool :=
  (s.sock i).rail.state == .on && s.cycleLimit (zoneOf i) != 0 &&
    decide (s.cycleLimit (zoneOf i) < incTo 255 (s.sock i).live.cycles)

/-- A reset request from failure accounting (R144, R145, R156). -/
def resetRequest (i : SocketId) (s : State) : State :=
  if s.exhausts i then failRecord i .heartbeatExhausted .nothing (resetCycle i s) else resetCycle i s

/-- A fail record from the response checker; RESET asks for a reset cycle when the record did not retire the socket
(R132, R156). A request that exhausts the socket sends its HEARTBEAT-EXHAUSTED record at once, before any other record of
the same verdict (R144; DESIGN CHOICE, log entry 37). -/
def mismatchRecord (i : SocketId) (k : FailKind) (d : Detail) (pass : Nat) (s : State) : State :=
  let disp := s.dispTaken k
  let s1 := recordWith i k d (some pass) disp s
  if s.accepts i && disp == .reset && (s1.sock i).life == .stressing then resetRequest i s1 else s1

/-! ## Stress credit, completion and the accounting timer -/

/-- The socket gains a credited second at an expiry (R161). -/
def State.creditDue (s : State) (i : SocketId) : Bool :=
  s.run.state == .active && (s.sock i).rail.state == .on && (s.sock i).therm.state == .inband &&
    ((s.zone (zoneOf i)).seq.state == .playing || (s.zone (zoneOf i)).seq.state == .gap ||
      (s.zone (zoneOf i)).seq.state == .static) &&
    (s.sock i).live.state != .resetHeld && (s.sock i).live.state != .ignore

/-- A socket completes (R163). -/
def complete (i : SocketId) (s : State) : State :=
  let s := finalEffects i (modSock i (fun k => { k with life := .complete }) s)
  sendRoutine (.socket i) (.complete (s.sock i).acct.credit (s.sock i).acct.total) s

/-- The run's stress target is reached (R163). -/
def State.targetReached (s : State) (i : SocketId) : Bool :=
  match s.run.record with
  | some r => decide (r.target ≤ (s.sock i).acct.credit)
  | none => false

/-- One STRESSING socket examined at an expiry: credited, and completed at the target (R160 step 2). -/
def creditOne (i : SocketId) (s : State) : State :=
  if (s.sock i).life = .stressing ∧ s.creditDue i = true then
    let s := modAcct i (fun a => { a with credit := a.credit + 1 }) s
    if s.targetReached i then complete i s else s
  else s

/-- ACCOUNTING_TIMER_EXPIRY: the clock rises, the next expiry is set, sockets are credited and completed, and the
run finish test is made (R160). -/
def execAccountingTimerExpiry (s : State) : Host.Outcome State Fault Refusal :=
  match s.run.acctTimer with
  | none => .next s
  | some e =>
    let s := modRun (fun r => { r with clock := incTo top32 r.clock, acctTimer := some (e + 1000 * Config.cyclesPerMs) })
      (advanceTo e s)
    .next (finishTest (forEach allSockets creditOne s))

end Sys2Proof.Machine
end

