-- ==== Sys2Proof/Machine/Trips.lean ====
section
/-! DEFINITION. The rail controller's events: samples, trips and the expiries of its timers (chapter 2). -/

namespace Sys2Proof.Machine

/-! ## Trips -/

/-- A trip: the rail opens into REST and releases its slot, trips-in-a-row rises, the record is sent, then
RAIL-EXHAUSTED when the count passed the retry limit; with no off-time the rail leaves REST in the same change
(R40, R41, R42; the last DEDUCED, log entry 14). -/
def railTrip (p : RailProfile) (i : SocketId) (k : FailKind) (current : Nat) (phase : RailState) (s : State) : State :=
  let s := grantSlots (zoneOf i) (openRail .rest i s)
  let s := modRail i (fun r => { r with trips := incTo 16 r.trips }) s
  let n := (s.sock i).rail.trips
  let s := failRecord i k (.rail current phase) s
  let s := if p.retryLimit < n then failRecord i .railExhausted .nothing s else s
  if (s.sock i).rail.offTimer = none then leaveRest i s else s

/-! ## Samples -/

/-- A sample is stored, and its current joins the averaging window, which keeps the most recent `w` (R26, R27). -/
def Rail.takeSample (w mA mV : Nat) (r : Rail) : Rail :=
  { r with lastCurrent := mA, voltage := mV, window := lastN w (r.window ++ [mA]) }

/-- The voltage test passed: the rail enters ON with this sample as the first of its window (R27, R28, R35, R39). -/
def enterOn (p : RailProfile) (i : SocketId) (mA : Nat) (s : State) : State :=
  let s := modRail i (fun r =>
    { r with state := .on, rampTimer := none, phase1Timer := none, window := [mA],
             stableTimer := some (afterMs (1000 * p.stableS) s) }) s
  grantSlots (zoneOf i) (hbRailOn i (setPower i (s.sock i).rail.powerNow s))

/-- A sample taken in ON: the power figure, then the fast trip, then the average trip (R28, R37, R38). -/
def sampleOn (p : RailProfile) (i : SocketId) (mA : Nat) (s : State) : State :=
  let s := setPower i (s.sock i).rail.powerNow s
  let r := (s.sock i).rail
  if p.iFast ≤ mA then railTrip p i .railFast mA .on s
  else if r.window.length = p.win ∧ p.iAvg ≤ r.average then railTrip p i .railAverage r.average .on s
  else s

/-- RAIL_SAMPLE: stored and averaged in every rail state; tested in RAMP-2 and ON (R26). -/
def execRailSample (i : SocketId) (mA mV : Nat) (s : State) : Host.Outcome State Fault Refusal :=
  let mA := min 20000 mA
  let mV := min 6000 mV
  let s1 := modRail i (Rail.takeSample (s.windowLen (zoneOf i)) mA mV) s
  match (s.sock i).rail.state, (s.zone (zoneOf i)).railProf with
  | .ramp2, some p => .next (if p.vbus ≤ mV + p.vok then enterOn p i mA s1 else s1)
  | .on, some p => .next (sampleOn p i mA s1)
  | _, _ => .next s1

/-! ## Timers -/

/-- PHASE1_TIMER_EXPIRY: a rail in RAMP-1 moves to RAMP-2 (R34). -/
def execPhase1TimerExpiry (i : SocketId) (s : State) : Host.Outcome State Fault Refusal :=
  match (s.sock i).rail.state, (s.sock i).rail.phase1Timer with
  | .ramp1, some e => .next (modRail i (fun r => { r with state := .ramp2, phase1Timer := none }) (advanceTo e s))
  | _, _ => .next s

/-- RAMP_TIMEOUT: a RAIL-RAMP trip in RAMP-1 or RAMP-2, with the phase and the last current sample (R36). -/
def execRampTimeout (i : SocketId) (s : State) : Host.Outcome State Fault Refusal :=
  match (s.sock i).rail.rampTimer, (s.zone (zoneOf i)).railProf with
  | some e, some p =>
    if (s.sock i).rail.state.ramping then
      .next (railTrip p i .railRamp (s.sock i).rail.lastCurrent (s.sock i).rail.state (advanceTo e s))
    else .next s
  | _, _ => .next s

/-- STABLE_TIMER_EXPIRY: trips-in-a-row becomes 0 and the timer stops (R39). -/
def execStableTimerExpiry (i : SocketId) (s : State) : Host.Outcome State Fault Refusal :=
  match (s.sock i).rail.stableTimer with
  | some e => .next (modRail i (fun r => { r with trips := 0, stableTimer := none }) (advanceTo e s))
  | none => .next s

/-- OFF_TIME_EXPIRY: the timer stops; REST is left for QUEUED or OFF (R42). -/
def execOffTimeExpiry (i : SocketId) (s : State) : Host.Outcome State Fault Refusal :=
  match (s.sock i).rail.offTimer with
  | some e => .next (leaveRest i (modRail i (fun r => { r with offTimer := none }) (advanceTo e s)))
  | none => .next s

end Sys2Proof.Machine
end

