-- ==== Sys2Proof/Machine/Thermal.lean ====
section
/-! DEFINITION. The thermal controller: readings, sensor faults, the heater step, trips and cool-down (chapter 3), and
the zone headroom (R72). -/

namespace Sys2Proof.Machine

/-! ## Targets and headroom -/

/-- A socket's target under a profile and a trim (R48). -/
def targetOf (p : ThermalProfile) (trim : Int) : Int := clampInt 250 1800 (p.setpoint + trim)

/-- The headroom of a step of socket `i`: the budget less the zone's DUT figures and the other sockets' grants (R72). -/
def State.headroom (s : State) (i : SocketId) : Int :=
  let z := zoneOf i
  ((s.zone z).budget : Int) - (s.dutSum z : Int) -
    ((((zoneSockets z).filter (· != i)).map fun j => (s.sock j).therm.grant).sum : Int)

/-! ## Entries to states -/

/-- Enter APPROACH with Teff at a reading (R53, R66). -/
def approachFrom (t : Int) (i : SocketId) : State → State :=
  modTherm i fun k => { k with state := .approach, teff := t }

/-- Enter APPROACH with Teff at the last reading, or at the target when there is none (R55, R58). -/
def approachFromLast (i : SocketId) (s : State) : State :=
  let target := ((s.zone (zoneOf i)).thermProf.map fun p => targetOf p (s.sock i).therm.trim).getD (s.sock i).therm.teff
  approachFrom ((s.sock i).therm.reading.getD target) i s

/-- A state with the heater off and the integral 0: TRIPPED and SENSOR-FAULT (R52, R65). -/
def heaterDown (st : ThermalState) (i : SocketId) : State → State :=
  modTherm i fun t => { t.cut with state := st, integral := 0 }

/-- Where a socket goes when it leaves TRIPPED or SENSOR-FAULT for control: HELD under a PERMIT hold, else APPROACH
from this reading (R53, R58, R66). -/
def backToControl (t : Int) (i : SocketId) (s : State) : State :=
  if s.permitHold then modTherm i (fun k => { k with state := .held }) s else approachFrom t i s

/-- The run controller reports a PERMIT hold: a STRESSING socket under control enters HELD (R58). -/
def thermHold (i : SocketId) (s : State) : State :=
  if (s.sock i).life = .stressing ∧ (s.sock i).therm.state.control = true then
    modTherm i (fun t => { t.cut with state := .held }) s
  else s

/-- The PERMIT hold ended: a HELD socket enters APPROACH from its last reading (R15, R58). -/
def thermResume (i : SocketId) (s : State) : State :=
  if (s.sock i).therm.state = .held then approachFromLast i s else s

/-! ## Sensor faults -/

/-- The reading of a SENSOR-FAULT record: the last one, absent when no good reading came since the last reset (R52). A
reading that BOARD-RESET RUN keeps (R69) is absent from the record until the next good one. -/
def Thermal.faultReading (t : Thermal) : Option Int := if t.goodSince then t.reading else none

/-- The sensor fault test of a bad reading (R51, R52, R67). -/
def sensorFaultTest (i : SocketId) (s : State) : State :=
  let t := (s.sock i).therm
  if (t.state.control = true ∨ t.state = .held ∨ t.state = .tripped) ∧ 2 ≤ t.badRun then
    failRecord i .sensorFault (.lastReading t.faultReading) (addCause .sensor i (heaterDown .sensorFault i s))
  else s

/-- A bad reading: out of range, or a timeout (R51). -/
def badReading (i : SocketId) (s : State) : State :=
  sensorFaultTest i (modTherm i (fun t => { t with badRun := incTo 255 t.badRun, goodRun := 0 }) s)

/-! ## Trips and cool-down -/

/-- A thermal trip in a controlling state or in HELD (R65). -/
def thermalTrip (i : SocketId) (t : Int) (s : State) : State :=
  failRecord i .thermalTrip (.reading t) (addCause .thermal i (heaterDown .tripped i s))

/-- The cool-down test of a good reading in TRIPPED or in OFF (R66). -/
def coolDown (p : ThermalProfile) (i : SocketId) (t : Int) (s : State) : State :=
  if t ≤ p.limit - 100 then
    if (s.sock i).therm.state = .tripped then removeCause .thermal i (backToControl t i s)
    else removeCause .thermal i s
  else s

/-- A good reading in SENSOR-FAULT at or above the trip limit, THERMAL absent: THERMAL and a record (R67). -/
def faultTrip (p : ThermalProfile) (i : SocketId) (t : Int) (s : State) : State :=
  if p.limit ≤ t ∧ (s.sock i).rail.inhibit.thermal = false then
    failRecord i .thermalTrip (.reading t) (addCause .thermal i s)
  else s

/-- The recovery test of a good reading in SENSOR-FAULT (R53, R67). -/
def recoveryTest (i : SocketId) (t : Int) (s : State) : State :=
  if (s.sock i).therm.state = .sensorFault ∧ (s.sock i).therm.goodRun = 4 then
    let s := sendRoutine (.socket i) (.sensorOk t)
      (if (s.sock i).rail.inhibit.thermal then modTherm i (fun k => { k with state := .tripped }) s
       else backToControl t i s)
    removeCause .sensor i s
  else s

/-! ## The heater step -/

/-- The movement of Teff and the band tracking of a step, on the thermal part (R56, R57). -/
def Thermal.track (p : ThermalProfile) (reading : Int) (t : Thermal) : Thermal :=
  let target := targetOf p t.trim
  let t := if t.state ≠ .approach ∧ t.teff ≠ target then { t with state := .approach } else t
  let t := if t.state = .approach then { t with teff := moveTeff t.teff target p.rampRate } else t
  let diff := (reading - target).natAbs
  match t.state with
  | .approach => if t.teff = target ∧ diff ≤ p.inner then { t with state := .inband } else t
  | .inband => if p.outer < diff then { t with state := .outband } else t
  | .outband => if diff ≤ p.inner then { t with state := .inband } else t
  | _ => t

/-- The raw duty of a step (R60 to R62). -/
def rawDuty (p : ThermalProfile) (teff reading integral : Int) (power : Nat) : Int :=
  let e := stepError teff reading
  (p.base : Int) + stepProp p.kp e + integral.tdiv 16 - stepFeed p.kff power

/-- The heater computation of a step: error, integral, raw duty, duty, flag and grant (R60 to R64). -/
def Thermal.heat (p : ThermalProfile) (reading : Int) (power : Nat) (headroom : Int) (t : Thermal) : Thermal :=
  let i := stepIntegral t.sat t.integral (stepInc p.ki (stepError t.teff reading))
  let raw := rawDuty p t.teff reading i power
  let cap := dutyCap headroom t.rating
  let d := stepDuty raw cap
  { t with integral := i, sat := stepSat raw cap, duty := d, grant := d * t.rating / 1000 }

/-- The step's tracking enters INBAND: it ends there and did not start there with Teff at the target (R56, R57). -/
def Thermal.entersBand (p : ThermalProfile) (reading : Int) (t : Thermal) : Bool :=
  (t.track p reading).state == .inband && (t.state != .inband || t.teff != targetOf p t.trim)

/-- A heater step, whole in one change (R59): tracking, the first-inband flag and COLD at an entry to INBAND, then the
heater computation. -/
def heaterStep (p : ThermalProfile) (i : SocketId) (reading : Int) (s : State) : State :=
  let s1 := modTherm i (Thermal.track p reading) s
  let s2 := if (s.sock i).therm.entersBand p reading then
      removeCause .cold i (modTherm i (fun t => { t with firstInband := true }) s1)
    else s1
  modTherm i (Thermal.heat p reading (s2.sock i).rail.power (s2.headroom i)) s2

/-! ## Readings -/

/-- A good reading, handled by the thermal state (R51). In a zone with no profile it is only stored (R46). -/
def goodReading (i : SocketId) (t : Int) (s : State) : State :=
  let s := modTherm i (fun k => { k with reading := some t, goodSince := true, goodRun := incTo 255 k.goodRun, badRun := 0 }) s
  match (s.zone (zoneOf i)).thermProf with
  | none => s
  | some p =>
    match (s.sock i).therm.state with
    | .off | .tripped => coolDown p i t s
    | .approach | .inband | .outband => if p.limit ≤ t then thermalTrip i t s else heaterStep p i t s
    | .held => if p.limit ≤ t then thermalTrip i t s else s
    | .sensorFault => recoveryTest i t (faultTrip p i t s)

/-- SENSOR_REQUEST: the sensor is asked and the answer timer starts at 50 ms (R50). -/
def execSensorRequest (i : SocketId) (s : State) : Host.Outcome State Fault Refusal :=
  .next (modTherm i (fun t => { t with answerTimer := some (afterMs 50 s) }) s)

/-- SENSOR_ANSWER: within its timer a reading-completion, judged good or bad; after the timeout it is discarded
(R50, R51). -/
def execSensorAnswer (i : SocketId) (reading : Int) (s : State) : Host.Outcome State Fault Refusal :=
  match (s.sock i).therm.answerTimer with
  | none => .next s
  | some _ =>
    let s := modTherm i (fun t => { t with answerTimer := none }) s
    .next (if -400 ≤ reading ∧ reading ≤ 2000 then goodReading i reading s else badReading i s)

/-- SENSOR_TIMEOUT: the answer timer ran out, a bad reading (R50, R51). -/
def execSensorTimeout (i : SocketId) (s : State) : Host.Outcome State Fault Refusal :=
  match (s.sock i).therm.answerTimer with
  | none => .next s
  | some e => .next (badReading i (modTherm i (fun t => { t with answerTimer := none }) (advanceTo e s)))

/-! ## The start of a run (R55) -/

/-- The inhibit set of a declared socket after RUN-START: RUN out, COLD under power-at-temperature, THERMAL for a hot
case, SENSOR for a dead sensor, in one change (R11, R29, R55). -/
def startInhibit (pat hot dead : Bool) (h : Inhibit) : Inhibit :=
  { h with run := false, cold := h.cold || pat, thermal := h.thermal || hot, sensor := h.sensor || dead }

/-- The last reading of the socket is at or above its zone's trip limit (R55). -/
def State.hot (s : State) (i : SocketId) : Bool :=
  match (s.zone (zoneOf i)).thermProf, (s.sock i).therm.reading with
  | some p, some t => decide (p.limit ≤ t)
  | _, _ => false

/-- RUN-START places the socket in TRIPPED (R55). -/
def State.startTripped (s : State) (i : SocketId) : Bool := (s.sock i).rail.inhibit.thermal || s.hot i

/-- RUN-START places the socket in SENSOR-FAULT (R55). Where the case of TRIPPED holds too the socket is TRIPPED, with no
SENSOR and no SENSOR-FAULT record (DESIGN CHOICE, log entry 32). -/
def State.startDead (s : State) (i : SocketId) : Bool := !s.startTripped i && decide (2 ≤ (s.sock i).therm.badRun)

/-- The thermal placing of a declared socket at RUN-START, records aside (R55); TRIPPED before SENSOR-FAULT (DESIGN
CHOICE, log entry 32). -/
def thermStart (i : SocketId) (s : State) : State :=
  let dead := s.startDead i
  let trip := s.startTripped i
  let s := modTherm i (fun t => { t with firstInband := false, integral := 0 }) s
  if trip then heaterDown .tripped i s
  else if dead then heaterDown .sensorFault i s
  else approachFromLast i s

end Sys2Proof.Machine
end

