-- ==== Sys2Proof/Machine/Heartbeat.lean ====
section
/-! DEFINITION. The heartbeat monitor's events: edges, the phases of a reset cycle, and heartbeat failures
(chapter 8). -/

namespace Sys2Proof.Machine

/-- A valid heartbeat: its time is recorded, the count clears, and the window restarts in WATCH (R141, R142). -/
def validEdge (i : SocketId) (h : HbPart) (s : State) : State :=
  startHb i .watch (h.tMin + h.tWin) (modLive i (fun l => { l with lastEdge := some s.nowMs, cycles := 0 }) s)

/-- What the monitor does at once under the disposition of a failure (R143 step 2). -/
def hbApply (d : Disp) (i : SocketId) (s : State) : State :=
  match d with
  | .count => waitOrIdle i s
  | .reset => resetCycle i s
  | .retire => stopHb i .idle s

/-- A heartbeat failure: the monitor's own move, then the failure's record, then HEARTBEAT-EXHAUSTED when the reset
request exhausted the socket (R143, R144; the order DESIGN CHOICE, log entry 13). -/
def hbFailure (i : SocketId) (k : FailKind) (d : Detail) (s : State) : State :=
  let disp := s.disposition k
  let exhausted := disp == .reset && s.exhausts i
  let pass := s.passStamp (zoneOf i)
  let s := recordWith i k d pass disp (hbApply disp i s)
  if exhausted then failRecord i .heartbeatExhausted .nothing s else s

/-- HEARTBEAT_EDGE: judged in WAIT-FIRST and WATCH, disregarded elsewhere (R137, R141, R142). -/
def execHeartbeatEdge (i : SocketId) (atMs : Nat) (s : State) : Host.Outcome State Fault Refusal :=
  let s := advanceTo (atMs * Config.cyclesPerMs) s
  match (s.sock i).live.state, s.hbPart (zoneOf i) with
  | .waitFirst, some h => .next (validEdge i h s)
  | .watch, some h =>
    let interval := s.nowMs - (s.sock i).live.lastEdge.getD 0
    .next (if h.tMin ≤ interval then validEdge i h s else hbFailure i .heartbeatEarly (.interval interval) s)
  | _, _ => .next s

/-- RESET_HELD_EXPIRY: DUT-RESET is released and the socket moves to IGNORE (R140). -/
def execResetHeldExpiry (i : SocketId) (s : State) : Host.Outcome State Fault Refusal :=
  match (s.sock i).live.state, (s.sock i).live.timer with
  | .resetHeld, some e => .next (hbReleaseReset i (advanceTo (e * Config.cyclesPerMs) s))
  | _, _ => .next s

/-- IGNORE_EXPIRY: the reset cycle ends in WAIT-FIRST, or in IDLE with no heartbeat part (R140). -/
def execIgnoreExpiry (i : SocketId) (s : State) : Host.Outcome State Fault Refusal :=
  match (s.sock i).live.state, (s.sock i).live.timer with
  | .ignore, some e => .next (waitOrIdle i (advanceTo (e * Config.cyclesPerMs) s))
  | _, _ => .next s

/-- HEARTBEAT_LATE: the window ran out with no valid edge (R141, R142). -/
def execHeartbeatLate (i : SocketId) (s : State) : Host.Outcome State Fault Refusal :=
  match (s.sock i).live.state, (s.sock i).live.timer, s.hbPart (zoneOf i) with
  | .waitFirst, some e, some h =>
    .next (hbFailure i .heartbeatLate (.elapsed (h.tMin + h.tWin)) (advanceTo (e * Config.cyclesPerMs) s))
  | .watch, some e, some h =>
    .next (hbFailure i .heartbeatLate (.elapsed (h.tMin + h.tWin)) (advanceTo (e * Config.cyclesPerMs) s))
  | _, _, _ => .next s

end Sys2Proof.Machine
end

