-- ==== Sys2Proof/Machine/Playback.lean ====
section
/-! DEFINITION. The events of playback: the end of a vector period with the verdicts at the end of a pass, the gap, and
the completions of transfers at the memory port (chapters 5 to 7). -/

namespace Sys2Proof.Machine

/-! ## Verdicts (R131, R132) -/

/-- The pass judged a strobe mismatch of the socket (R131 step 2). -/
def strobeFailed (mode : Option CheckMode) (p : Pass) : Bool :=
  (mode == some .strobe || mode == some .both) && decide (0 < p.count)

/-- The pass judged a signature mismatch of the socket (R131 step 3). -/
def signatureFailed (mode : Option CheckMode) (expect : Option Signature) (p : Pass) : Bool :=
  (mode == some .signature || mode == some .both) && expect != some ⟨p.crc, p.lpc⟩

/-- The verdict of one checked socket at a judged end of pass: its counts, and its records, STROBE-MISMATCH first
(R131, R132). A reset request of the first record that exhausts the socket is carried out before the second record comes,
which is then discarded (R144, R153; DESIGN CHOICE, log entry 37). -/
def judgeOne (chk : CheckZone) (i : SocketId) (s : State) : State :=
  let p := (s.sock i).pass
  let bad1 := strobeFailed chk.mode p
  let bad2 := signatureFailed chk.mode chk.expect p
  let s := modPass i (fun p => { p with nChecked := incTo top32 p.nChecked,
                                        nFailed := if bad1 || bad2 then incTo top32 p.nFailed else p.nFailed }) s
  let first := p.first.getD ⟨0, 0⟩
  let s := if bad1 then mismatchRecord i .strobeMismatch (.strobe first.ordinal first.bits p.count) chk.passNo s else s
  if bad2 then mismatchRecord i .signatureMismatch (.signature p.crc p.lpc) chk.passNo s else s

/-- The judged end of a pass: the checked sockets are taken in ascending number, the pass closes, and the records
follow (R131, R132). All that a socket's records lead to, its HEARTBEAT-EXHAUSTED record and notices among it, comes
before the records of a higher-numbered socket (R144; DESIGN CHOICE, log entry 37). -/
def judgePass (z : ZoneId) (s : State) : State :=
  let l := (zoneSockets z).filter fun i => (s.sock i).pass.checked
  forEach l (judgeOne (s.zone z).chk) (closePass z s)

/-! ## The end of a pass -/

/-- The buffers at the end of a pass, by the tag of position 0 of the assigned program: a buffer that holds or is
receiving another page is marked empty (R113). Where the buffer not just played neither holds nor is receiving
position 0, the one just played is emptied with it, so that the fetch of position 0 starts as the last sentence of R113
orders (DESIGN CHOICE, log entry 35). -/
def Seq.keepFirst (t : Option PageTag) (q : Seq) : Seq :=
  if (q.buf q.play.buf.other).tag? ≠ t then { q with bufA := .empty, bufB := .empty }
  else if (q.buf q.play.buf).tag? ≠ t then q.setBuf q.play.buf .empty
  else q

/-- The zone enters GAP with the gap timer started, the idle word on the lines and position 0 wanted (R113). -/
def enterGap (z : ZoneId) (gapMs : Nat) (s : State) : State :=
  fetchWanted z (modSeq z (fun q =>
    { q with state := .gap, gapTimer := some (afterMs gapMs s), next := none, drive := s.idleWord z }) s)

/-- The place of the zone after the end of a pass, by its assigned program as it stands after the swap (R113). -/
def placeZone (z : ZoneId) (s : State) : State :=
  match s.zoneProgram z with
  | none => enterStatic z s
  | some d =>
    let s := modSeq z (Seq.keepFirst (s.firstTag z)) s
    if 0 < d.gap then enterGap z d.gap s else enterPriming z s

/-- A staged program becomes the assigned program, and the heartbeat monitor is told (R112, R148). -/
def swapProgram (z : ZoneId) (s : State) : State :=
  match (s.zone z).seq.staged with
  | some p => hbZoneProgramChange z (modSeq z (fun q => { q with assigned := some p, staged := none }) s)
  | none => s

/-- A void end of pass: no verdict, the void count, the PASS-VOID notice (R112, R133). -/
def voidEnd (z : ZoneId) (s : State) : State := passVoidNotice z (modSeq z Seq.countVoid (closePass z s))

/-- The end of a pass (R112): the checker, the void count, the swap and the next place. A zone that the verdicts have
taken out of play stays where they put it (log entry 12). -/
def endPass (z : ZoneId) (s : State) : State :=
  let s := if (s.zone z).seq.void = none then judgePass z s else voidEnd z s
  if (s.zone z).seq.state = .playing then placeZone z (swapProgram z s) else s

/-! ## The end of a vector period -/

/-- The zone stalls: the clock stops and a clear void flag is set with cause STALL (R104, R111). -/
def enterStalled (z : ZoneId) : State → State :=
  modSeq z fun q => { q with state := .stalled, void := some (q.void.getD .stall) }

/-- The vector at `idx` of the playing buffer is applied next (R108, R109). -/
def stepVec (z : ZoneId) (idx loop : Nat) (s : State) : State :=
  modSeq z (fun q => applyVec q.play.buf idx loop s.now
    { q with ordinal := q.ordinal + 1, period := (q.period + 1) % 16 }) s

/-- A page change: the other buffer plays when it is full with the next page, else the zone stalls (R110, R111). -/
def pageChange (z : ZoneId) (s : State) : State :=
  let q := (s.zone z).seq
  match q.next with
  | some t => if (q.buf q.play.buf.other).holds t then changePage z q.play.buf.other s else enterStalled z s
  | none => enterStalled z s

/-- Where a LOOP-BACK vector loops to: the LOOP-MARK of its page, while repeats remain (R109). -/
def loopTarget (repeats : Nat) (vs : List Vec) (v : Vec) (loop : Nat) : Option Nat :=
  if v.loopBack && decide (loop + 1 < repeats) then loopMarkIdx vs else none

/-- The position is the last of its program's page list (R110). -/
def State.lastPosition (s : State) (t : PageTag) : Bool :=
  match s.program t.slot with
  | some d => t.pos + 1 == d.pages.length
  | none => true

/-- The vector after the current one, in the order of R110: the loop, the end of the pass, the next vector, a page
change. -/
def nextVector (z : ZoneId) (t : PageTag) (vs : List Vec) (v : Vec) (s : State) : State :=
  let pl := (s.zone z).seq.play
  let repeats := ((s.program t.slot).map (·.loopRep)).getD 1
  match loopTarget repeats vs v pl.loop with
  | some m => stepVec z m (pl.loop + 1) s
  | none =>
    if v.last || (s.lastPosition t && decide (vs.length ≤ pl.idx + 1)) then endPass z s
    else if pl.idx + 1 < vs.length then stepVec z (pl.idx + 1) pl.loop s
    else pageChange z s

/-- VECTOR_PERIOD_END: a strobe is sampled, then play moves on (R108, R110, R129). -/
def execVectorPeriodEnd (z : ZoneId) (resp : Vector Byte 8) (s : State) : Host.Outcome State Fault Refusal :=
  let q := (s.zone z).seq
  match q.state, q.buf q.play.buf, q.current with
  | .playing, .full t vs, some v =>
    let s := advanceTo q.periodEnd s
    .next (nextVector z t vs v (if v.strobe then strobeSample z v resp s else s))
  | _, _, _ => .next s

/-- GAP_TIMER_EXPIRY: a new pass when position 0 is buffered, else PRIMING (R114). -/
def execGapTimerExpiry (z : ZoneId) (s : State) : Host.Outcome State Fault Refusal :=
  match (s.zone z).seq.state, (s.zone z).seq.gapTimer with
  | .gap, some e => .next (enterPriming z (advanceTo e s))
  | _, _ => .next s

/-! ## Transfers at the memory port -/

/-- FETCH_BURST_DONE: the burst at the port has been read; the fetch goes on or ends, and the port is granted anew
(R95, R97, R98). -/
def execFetchBurstDone (wrong : List (Nat × Slot)) (s : State) : Host.Outcome State Fault Refusal :=
  match s.store.port with
  | some (.burst z) =>
    let s := advanceTo s.store.portEnd s
    match (s.zone z).seq.fetch with
    | some f => .next (releasePort (burstRead z f wrong s))
    | none => .next (releasePort s)
  | _ => .next s

/-- The first `n` vectors of a chunk stand in their page's slots, from the first index on, each with its parity bit
(R79, R83). -/
def copyChunk (n : Nat) (c : Chunk) (m : List (Nat × Slot)) : List (Nat × Slot) :=
  memWriteRun m (slotAddr c.page c.first) ((c.vecs.take n).map slotOf)

/-- The staged vectors stand in the memory, and the staging buffer is empty (R83). -/
def writeChunk (c : Chunk) (st : Store) : Store :=
  { st with mem := copyChunk c.vecs.length c st.mem, staging := none }

/-- STAGING_WRITE_DONE: the chunk is in memory, staging is empty, and the port is granted anew (R83, R95). -/
def execStagingWriteDone (s : State) : Host.Outcome State Fault Refusal :=
  match s.store.port, s.store.staging with
  | some .staging, some c => .next (releasePort (modStore (writeChunk c) (advanceTo s.store.portEnd s)))
  | _, _ => .next s

end Sys2Proof.Machine
end

