-- ==== Sys2Proof/Machine/Bytes.lean ====
section
/-! DEFINITION. How values become bytes and bytes become values: numbers, codes, and the records that several messages
share (chapter 11). -/

namespace Sys2Proof.Machine

/-! ## Numbers (R186) -/

/-- An unsigned field of one byte. -/
def be1 (n : Nat) : List Byte := [BitVec.ofNat 8 n]

/-- An unsigned field of two bytes, most significant first. -/
def be2 (n : Nat) : List Byte := [BitVec.ofNat 8 (n / 256), BitVec.ofNat 8 n]

/-- An unsigned field of four bytes, most significant first. -/
def be4 (n : Nat) : List Byte :=
  [BitVec.ofNat 8 (n / 16777216), BitVec.ofNat 8 (n / 65536), BitVec.ofNat 8 (n / 256), BitVec.ofNat 8 n]

/-- A signed field of one byte, in two's complement. -/
def sbe1 (i : Int) : List Byte := [BitVec.ofInt 8 i]

/-- A signed field of two bytes, in two's complement. -/
def sbe2 (i : Int) : List Byte := be2 (BitVec.ofInt 16 i).toNat

/-- A yes/no field. -/
def flag1 (b : Bool) : List Byte := [if b then 1 else 0]

/-- The unsigned byte at place `k` of a payload. -/
def u8At (p : List Byte) (k : Nat) : Nat := (p.getD k 0).toNat

/-- The unsigned two-byte field at place `k`. -/
def u16At (p : List Byte) (k : Nat) : Nat := u8At p k * 256 + u8At p (k + 1)

/-- The unsigned four-byte field at place `k`. -/
def u32At (p : List Byte) (k : Nat) : Nat := u16At p k * 65536 + u16At p (k + 2)

/-- The signed byte at place `k`. -/
def s8At (p : List Byte) (k : Nat) : Int := (p.getD k 0).toInt

/-- The signed two-byte field at place `k`. -/
def s16At (p : List Byte) (k : Nat) : Int := (BitVec.ofNat 16 (u16At p k)).toInt

/-- A set of flags as one byte, bit 0 first in the list (R186). -/
def bits1 : List Bool → Nat
  | [] => 0
  | b :: bs => (if b then 1 else 0) + 2 * bits1 bs

/-! ## Statuses and answers (R175) -/

/-- The reply statuses. -/
inductive Status where
  | ok | clamped | permitAbsent | unknownKind | badLength | badValue | wrongState | busy | inUse | notFound
  | badCheck | badContent | notConfigured | outOfOrder
  deriving DecidableEq, Repr

/-- The status codes (11 §11.2). -/
def Status.code : Status → Byte
  | .ok => 0x00 | .clamped => 0x01 | .permitAbsent => 0x02 | .unknownKind => 0x10 | .badLength => 0x11
  | .badValue => 0x12 | .wrongState => 0x13 | .busy => 0x14 | .inUse => 0x15 | .notFound => 0x16
  | .badCheck => 0x17 | .badContent => 0x18 | .notConfigured => 0x19 | .outOfOrder => 0x1A

/-- What the owner of a request returns to the link port: the status and the reply data. -/
structure Answer where
  status : Status
  data   : List Byte
  deriving DecidableEq, Repr

/-- A request as its owner takes it: from the payload and the state, the state after it and the answer. -/
abbrev Op := List Byte → State → State × Answer

/-- A refusal: the state is as it was, and the reply carries the status alone, or the data its rule names (R175). -/
def refuse (st : Status) (s : State) (data : List Byte := []) : State × Answer := (s, ⟨st, data⟩)

/-- Done: OK, or CLAMPED when a value was changed in the taking (R175). -/
def done (changed : Bool) (s : State) (data : List Byte) : State × Answer :=
  (s, ⟨if changed then .clamped else .ok, data⟩)

/-- The link port's check of a fixed payload length (R174). -/
def fixedLen (n : Nat) (op : Op) : Op := fun p s => if p.length = n then op p s else refuse .badLength s

/-! ## Codes (11 §11.2) -/

def RunState.code : RunState → Byte
  | .idle => 0 | .ready => 1 | .active => 2 | .held => 3 | .finished => 4 | .aborted => 5

def Holds.code (h : Holds) : Byte := BitVec.ofNat 8 (bits1 [h.host, h.permit])

def Lifecycle.code : Lifecycle → Byte
  | .empty => 0 | .waiting => 1 | .stressing => 2 | .complete => 3 | .retired => 4

def Bin.code : Bin → Byte
  | .empty => 0 | .pass => 1 | .passRecovered => 2 | .failFunction => 3 | .failPower => 4 | .failThermal => 5
  | .failHost => 6 | .incomplete => 7

def RailState.code : RailState → Byte
  | .off => 0 | .queued => 1 | .ramp1 => 2 | .ramp2 => 3 | .on => 4 | .rest => 5

def Inhibit.code (h : Inhibit) : Byte :=
  BitVec.ofNat 8 (bits1 [h.run, h.permit, h.cold, h.thermal, h.sensor, h.final])

def ThermalState.code : ThermalState → Byte
  | .off => 0 | .approach => 1 | .inband => 2 | .outband => 3 | .tripped => 4 | .sensorFault => 5 | .held => 6

def Saturation.code : Saturation → Byte
  | .none => 0 | .high => 1 | .low => 2

def HbState.code : HbState → Byte
  | .idle => 0 | .resetHeld => 1 | .ignore => 2 | .waitFirst => 3 | .watch => 4 | .paused => 5

def SeqState.code : SeqState → Byte
  | .idle => 0 | .static => 1 | .priming => 2 | .playing => 3 | .stalled => 4 | .gap => 5 | .held => 6 | .halted => 7
  | .done => 8

def VoidCause.code : VoidCause → Byte
  | .stall => 1 | .hold => 2

def PageState.code : PageState → Byte
  | .free => 0 | .opened => 1 | .sealed => 2

/-- A program slot, or 0xFE for none (R187). -/
def ProgSel.code : ProgSel → Byte
  | .noProgram => 0xFE
  | .slot p => BitVec.ofNat 8 p.val

/-- A field that names a program, 0xFF when absent or empty (R187). -/
def progCode : Option ProgSel → Byte
  | none => 0xFF
  | some p => p.code

def CheckMode.code : CheckMode → Byte
  | .strobe => 0 | .signature => 1 | .both => 2

def Disp.code : Disp → Byte
  | .count => 0 | .reset => 1 | .retire => 2

def FailKind.code : FailKind → Byte
  | .strobeMismatch => 1 | .signatureMismatch => 2 | .heartbeatEarly => 3 | .heartbeatLate => 4
  | .heartbeatExhausted => 5 | .railFast => 6 | .railAverage => 7 | .railRamp => 8 | .railExhausted => 9
  | .thermalTrip => 10 | .sensorFault => 11

def FailClass.code : FailClass → Byte
  | .functional => 0 | .power => 1 | .thermal => 2 | .board => 3

def NoticeBody.code : NoticeBody → Byte
  | .fail _ _ => 1 | .retired _ => 2 | .complete _ _ => 3 | .runState _ _ => 4 | .zoneHalt _ _ _ _ => 5
  | .passVoid _ _ => 6 | .budgetOver _ _ => 7 | .sensorOk _ => 8

/-- A code, or 0xFF when absent (R187). -/
def codeOr {α : Type} (f : α → Byte) : Option α → Byte
  | none => 0xFF
  | some a => f a

/-! ## Notices (11 §11.8) -/

def Subject.code : Subject → Byte
  | .board => 0xFF
  | .socket i => BitVec.ofNat 8 i.val
  | .zone z => BitVec.ofNat 8 z.val

/-- The detail bytes of a notice. -/
def NoticeBody.detail : NoticeBody → List Byte
  | .fail k slot => k.code :: be1 slot
  | .retired k => [codeOr FailKind.code k]
  | .complete credit total => be4 credit ++ be2 total
  | .runState st h => [st.code, h.code]
  | .zoneHalt page idx passNo cut => be1 page.val ++ be2 idx ++ be4 passNo ++ flag1 cut
  | .passVoid passNo c => be4 passNo ++ [c.code]
  | .budgetOver sum budget => be2 sum ++ be2 budget
  | .sensorOk t => sbe2 t

/-- A notice record: 7 bytes and the detail. -/
def Notice.bytes (n : Notice) : List Byte :=
  [n.body.code, n.subject.code] ++ be4 n.clock ++ be1 n.body.detail.length ++ n.body.detail

/-! ## Fail records (11 §11.8) -/

/-- The detail bytes of a fail record, before the padding. -/
def Detail.bytes : Detail → List Byte
  | .strobe ordinal bits count => be4 ordinal ++ [bits] ++ be2 count
  | .signature crc lpc => be2 crc.toNat ++ [lpc]
  | .rail current phase => be2 current ++ [phase.code]
  | .reading t => sbe2 t
  | .lastReading t => sbe2 (t.getD 0)
  | .interval ms => be2 ms
  | .elapsed ms => be4 ms
  | .nothing => []

/-- The presence bit of a reading, used by SENSOR-FAULT alone. -/
def Detail.hasReading : Detail → Bool
  | .lastReading t => t.isSome
  | _ => false

/-- The detail padded with zeros to its 7 bytes. -/
def padTo (n : Nat) (l : List Byte) : List Byte := l.take n ++ List.replicate (n - l.length) 0

/-- A fail record of FAIL-LOG under its log slot. -/
def FailRec.bytes (slot : Nat) (r : FailRec) : List Byte :=
  be1 slot ++ [r.kind.code] ++ be1 (bits1 [r.pass.isSome, r.detail.hasReading]) ++ be4 r.clock ++ be4 r.credit ++
    be4 (r.pass.getD 0) ++ [r.disp.code] ++ padTo 7 r.detail.bytes

/-! ## Profiles, the run record and the program record (11 §11.5, §11.6) -/

def RailProfile.bytes (p : RailProfile) : List Byte :=
  be2 p.vbus ++ be2 p.vok ++ be2 p.i1 ++ be1 p.t1 ++ be2 p.i2 ++ be2 p.rampMs ++ be2 p.iFast ++ be2 p.iAvg ++
    be1 p.win ++ be1 p.offCode ++ be1 p.retryLimit ++ be2 p.stableS

def ThermalProfile.bytes (p : ThermalProfile) : List Byte :=
  sbe2 p.setpoint ++ be1 p.rampRate ++ be1 p.inner ++ be1 p.outer ++ sbe2 p.limit ++ be1 p.kp ++ be1 p.ki ++
    be1 p.kff ++ be2 p.base

/-- The disposition table with DEFAULT resolved, in the order of the run record (R21, 11 §11.5). -/
def DispTable.resolved (t : DispTable) : List Byte :=
  ([.strobeMismatch, .signatureMismatch, .heartbeatEarly, .heartbeatLate, .railFast, .railAverage, .railRamp,
    .thermalTrip] : List FailKind).map fun k => (t.resolve k).code

/-- The run record as RUN-REPORT carries it: 23 bytes and the label. -/
def RunRecord.bytes (r : RunRecord) : List Byte :=
  be1 r.label.length ++ r.label ++ be4 r.declared.toNat ++ be4 r.target ++ r.progs.toList.map ProgSel.code ++
    r.disp.resolved ++ be1 r.retireLimit ++ flag1 r.powerAtTemp

/-- An expected signature of a program record; an absent part is left out (R187). -/
def sigBytes : Option Signature → List Byte
  | none => []
  | some g => be2 g.crc.toNat ++ [g.lpc]

/-- A heartbeat part of a program record; an absent part is left out (R187). -/
def hbBytes : Option HbPart → List Byte
  | none => []
  | some h => be2 h.tMin ++ be2 h.tWin ++ be2 h.tReset ++ be2 h.tIgnore ++ be1 h.cycleLimit

/-- A program record (11 §11.5). -/
def Program.bytes (d : Program) : List Byte :=
  be1 d.pages.length ++ d.pages.map (fun pg => BitVec.ofNat 8 pg.val) ++ be2 d.lastCount ++ be2 d.loopRep ++
    be2 d.divN ++ be1 d.fracF ++ be2 d.gap ++ be2 d.idleWord.toNat ++ [d.mode.code] ++
    be1 (bits1 [d.sig.isSome, d.hb.isSome]) ++ sigBytes d.sig ++ hbBytes d.hb

/-! ## Vector records (R79, 11 §11.3) -/

/-- The five bytes of a vector record. -/
def Vec.bytes (v : Vec) : List Byte := be2 v.drive.toNat ++ [v.expect, v.mask, v.flagBits.zeroExtend 8]

/-- The vector record at place `k` of a payload. -/
def vecAt (p : List Byte) (k : Nat) : Vec :=
  let f := p.getD (k + 4) 0
  { drive := BitVec.ofNat 16 (u16At p k), expect := p.getD (k + 2) 0, mask := p.getD (k + 3) 0, strobe := f.getLsbD 0,
    loopMark := f.getLsbD 1, loopBack := f.getLsbD 2, last := f.getLsbD 3 }

/-- The flags byte of the record at place `k` carries no value outside the four flags (R79). -/
def vecValidAt (p : List Byte) (k : Nat) : Bool := (p.getD (k + 4) 0).toNat < 16

end Sys2Proof.Machine
end

