-- ==== Sys2Proof/Machine/Settings.lean ====
section
/-! DEFINITION. The settings requests of the zones and sockets: rail and thermal profiles, trims and ratings, the
setpoint and the budget (chapters 2 to 4). -/

namespace Sys2Proof.Machine

/-- The zone a byte names, if it is 0 to 3. -/
def zoneArg (p : List Byte) (k : Nat) : Option ZoneId := if h : u8At p k < 4 then some ⟨u8At p k, h⟩ else none

/-- The socket a byte names, if it is 0 to 31. -/
def socketArg (p : List Byte) (k : Nat) : Option SocketId := if h : u8At p k < 32 then some ⟨u8At p k, h⟩ else none

/-! ## ZONE-RAIL (R24, R25) -/

/-- The rail profile as sent. -/
def railSent (p : List Byte) : RailProfile :=
  { vbus := u16At p 1, vok := u16At p 3, i1 := u16At p 5, t1 := u8At p 7, i2 := u16At p 8, rampMs := u16At p 10,
    iFast := u16At p 12, iAvg := u16At p 14, win := u8At p 16, offCode := u8At p 17, retryLimit := u8At p 18,
    stableS := u16At p 19 }

/-- The rail profile as taken (02 §2.1, R24). -/
def RailProfile.taken (p : RailProfile) : RailProfile :=
  { vbus := clampNat 600 5000 p.vbus / 10 * 10, vok := clampNat 10 500 p.vok, i1 := clampNat 0 12000 p.i1,
    t1 := clampNat 1 255 p.t1, i2 := clampNat 0 12000 p.i2, rampMs := clampNat 5 2000 p.rampMs,
    iFast := clampNat 100 12000 p.iFast, iAvg := min (clampNat 100 12000 p.iAvg) (clampNat 100 12000 p.iFast),
    win := p.win, offCode := clampNat 0 63 p.offCode, retryLimit := clampNat 0 15 p.retryLimit,
    stableS := clampNat 1 3600 p.stableS }

/-- A new profile is stored; each window of the zone keeps its most recent samples, up to the new W (R24, R25). -/
def storeRail (z : ZoneId) (p : RailProfile) (s : State) : State :=
  forEach (zoneSockets z) (fun i => modRail i fun r => { r with window := lastN p.win r.window })
    (modZone z (fun k => { k with railProf := some p }) s)

/-- ZONE-RAIL (R24). -/
def opZoneRail : Op := fixedLen 21 fun p s =>
  if s.started then refuse .wrongState s else
  match zoneArg p 0 with
  | none => refuse .badValue s
  | some z =>
    let sent := railSent p
    if sent.win = 8 ∨ sent.win = 16 ∨ sent.win = 32 ∨ sent.win = 64 then
      done (sent.taken != sent) (storeRail z sent.taken s) (be1 z.val ++ sent.taken.bytes)
    else refuse .badValue s

/-! ## ZONE-THERMAL (R45, R46) -/

/-- The thermal profile as sent. -/
def thermalSent (p : List Byte) : ThermalProfile :=
  { setpoint := s16At p 1, rampRate := u8At p 3, inner := u8At p 4, outer := u8At p 5, limit := s16At p 6,
    kp := u8At p 8, ki := u8At p 9, kff := u8At p 10, base := u16At p 11 }

/-- The thermal profile as taken; the trip limit is never changed (03 §3.1, R45). -/
def ThermalProfile.taken (p : ThermalProfile) : ThermalProfile :=
  { setpoint := clampInt 250 1800 p.setpoint, rampRate := clampNat 1 50 p.rampRate, inner := clampNat 5 100 p.inner,
    outer := clampNat (clampNat 5 100 p.inner) 200 p.outer, limit := p.limit, kp := clampNat 0 200 p.kp,
    ki := clampNat 0 100 p.ki, kff := clampNat 0 255 p.kff, base := clampNat 0 1000 p.base }

/-- The trip limit is allowed: within 300 to 2000 and at least the setpoint plus 50 (R45). -/
def ThermalProfile.limitOk (p : ThermalProfile) : Bool :=
  decide (300 ≤ p.limit ∧ p.limit ≤ 2000 ∧ p.setpoint + 50 ≤ p.limit)

/-- ZONE-THERMAL (R45). -/
def opZoneThermal : Op := fixedLen 13 fun p s =>
  if s.started then refuse .wrongState s else
  match zoneArg p 0 with
  | none => refuse .badValue s
  | some z =>
    let sent := thermalSent p
    if sent.taken.limitOk then
      done (sent.taken != sent) (modZone z (fun k => { k with thermProf := some sent.taken }) s)
        (be1 z.val ++ sent.taken.bytes)
    else refuse .badValue s

/-! ## SOCKET-THERMAL (R47) -/

/-- SOCKET-THERMAL: the trim and the heater rating, clamped. -/
def opSocketThermal : Op := fixedLen 4 fun p s =>
  match socketArg p 0 with
  | none => refuse .badValue s
  | some i =>
    let trim := clampInt (-50) 50 (s8At p 1)
    let rating := clampNat 50 400 (u16At p 2)
    done (trim != s8At p 1 || rating != u16At p 2)
      (modTherm i (fun t => { t with trim := trim, rating := rating }) s) (be1 i.val ++ sbe1 trim ++ be2 rating)

/-! ## SETPOINT (R49) -/

/-- A changed setpoint returns a socket in band to APPROACH; everything else keeps its value. -/
def toApproach (i : SocketId) : State → State := modTherm i fun t =>
  if t.state = .inband ∨ t.state = .outband then { t with state := .approach } else t

/-- The zone setpoint becomes `sp`. -/
def storeSetpoint (z : ZoneId) (p : ThermalProfile) (sp : Int) (s : State) : State :=
  let s1 := modZone z (fun k => { k with thermProf := some { p with setpoint := sp } }) s
  if p.setpoint = sp then s1 else forEach (zoneSockets z) toApproach s1

/-- SETPOINT. -/
def opSetpoint : Op := fixedLen 3 fun p s =>
  match zoneArg p 0 with
  | none => refuse .badValue s
  | some z =>
    match (s.zone z).thermProf with
    | none => refuse .notConfigured s
    | some prof =>
      let sp := clampInt 250 1800 (s16At p 1)
      if prof.limit - 50 < sp then refuse .badValue s
      else done (sp != s16At p 1) (storeSetpoint z prof sp s) (be1 z.val ++ sbe2 sp)

/-! ## ZONE-BUDGET (R70, R71, R77) -/

/-- The budget becomes `b`: a lowered one zeroes the zone's duties and grants; then the two over-budget tests. -/
def storeBudget (z : ZoneId) (b : Nat) (s : State) : State :=
  let s1 := modZone z (fun k => { k with budget := b }) s
  budgetTest z
    (if b < (s.zone z).budget then forEach (zoneSockets z) (fun i => modTherm i Thermal.cut) s1 else s1)

/-- ZONE-BUDGET. -/
def opZoneBudget : Op := fixedLen 3 fun p s =>
  match zoneArg p 0 with
  | none => refuse .badValue s
  | some z =>
    let b := clampNat 500 6000 (u16At p 1)
    done (b != u16At p 1) (storeBudget z b s) (be1 z.val ++ be2 b)

end Sys2Proof.Machine
end

