-- ==== Sys2Proof/Machine/Pattern.lean ====
section
/-! DEFINITION. The requests of the pattern store: pages, their loading and sealing, and the program directory
(chapter 5). -/

namespace Sys2Proof.Machine

/-- The page a byte of the payload names; every byte names one (05 §5.2). -/
def pageArg (p : List Byte) (k : Nat) : PageId := (p.getD k 0).toFin

/-- The staging buffer holds a chunk for the page. -/
def State.stagedFor (s : State) (pg : PageId) : Bool :=
  match s.store.staging with
  | some c => c.page == pg
  | none => false

/-! ## PAGE-OPEN and PAGE-FREE (R80, R87) -/

/-- The page is OPEN with cursor 0 and running CRC 0xFFFF (R80). -/
def openPage (pg : PageId) : State → State :=
  modPage pg fun e => { e with state := .opened, cursor := 0, crc := 0xFFFF, count := none }

/-- PAGE-OPEN. -/
def opPageOpen : Op := fixedLen 1 fun p s =>
  let pg := pageArg p 0
  match (s.page pg).state with
  | .free => done false (openPage pg s) (be2 0 ++ be2 0xFFFF)
  | .opened => if s.stagedFor pg then refuse .busy s else done false (openPage pg s) (be2 0 ++ be2 0xFFFF)
  | .sealed => if 0 < (s.page pg).refs then refuse .inUse s else refuse .wrongState s

/-- The page is FREE with cursor 0, running CRC 0xFFFF and its count absent (R87, R100). -/
def Page.freed (e : Page) : Page := { e with state := .free, cursor := 0, crc := 0xFFFF, count := none }

/-- PAGE-FREE. -/
def opPageFree : Op := fixedLen 1 fun p s =>
  let pg := pageArg p 0
  match (s.page pg).state with
  | .free => done false s []
  | .opened => if s.stagedFor pg then refuse .busy s else done false (modPage pg Page.freed s) []
  | .sealed => if 0 < (s.page pg).refs then refuse .inUse s else done false (modPage pg Page.freed s) []

/-! ## PAGE-DATA (R81, R82) -/

/-- The vector records of a PAGE-DATA payload. -/
def vecsAt (p : List Byte) (n : Nat) : List Vec := (List.range n).map fun k => vecAt p (4 + 5 * k)

/-- A chunk is accepted in one change: staged, fed into the CRC, the cursor advanced, and its write requested at the
port with the wait count at 0 (R82, R95). -/
def acceptChunk (c : Chunk) (bytes : List Byte) (s : State) : State :=
  arbitrate (modStore (fun st => { st with staging := some c, waitCount := 0 })
    (modPage c.page (fun e => { e with crc := crcFeed e.crc bytes, cursor := e.cursor + c.vecs.length }) s))

/-- PAGE-DATA. -/
def opPageData : Op := fun p s =>
  let pg := pageArg p 0
  let first := u16At p 1
  let n := u8At p 3
  let e := s.page pg
  if p.length ≠ 4 + 5 * n then refuse .badLength s
  else if n = 0 ∨ 48 < n ∨ ((List.range n).all fun k => vecValidAt p (4 + 5 * k)) = false then refuse .badValue s
  else if e.state ≠ .opened then refuse .wrongState s
  else if first ≠ e.cursor then refuse .outOfOrder s (be2 e.cursor)
  else if 512 < first + n then refuse .badValue s
  else if s.store.staging.isSome then refuse .busy s (be2 e.cursor)
  else done false (acceptChunk ⟨pg, first, vecsAt p n⟩ (p.drop 4) s) (be2 (e.cursor + n))

/-! ## PAGE-CLOSE (R84 to R86) -/

/-- The vectors 0 to n − 1 of a page as they stand in the pattern memory. -/
def State.pageVecs (s : State) (pg : PageId) (n : Nat) : List Vec :=
  (List.range n).map fun k => vecOf (memRead s.store.mem (slotAddr pg k))

/-- PAGE-CLOSE. -/
def opPageClose : Op := fixedLen 5 fun p s =>
  let pg := pageArg p 0
  let n := u16At p 1
  let e := s.page pg
  if s.stagedFor pg then refuse .busy s
  else if e.state ≠ .opened then refuse .wrongState s
  else if n = 0 ∨ n ≠ e.cursor ∨ u16At p 3 ≠ e.crc.toNat then
    refuse .badCheck s (be2 e.cursor ++ be2 e.crc.toNat)
  else
    match firstBadFlag (s.pageVecs pg n) with
    | some i => refuse .badContent s (be2 i)
    | none => done false (modPage pg (fun e => { e with state := .sealed, count := some n }) s) (be2 n)

/-! ## PAGE-LIST (R89) -/

/-- An entry of the PAGE-LIST reply. -/
def pageEntry (s : State) (pg : PageId) : List Byte :=
  let e := s.page pg
  be1 pg.val ++ [e.state.code] ++ be2 e.cursor ++ be2 (e.count.getD 0) ++ be2 e.refs ++ be2 e.crc.toNat

/-- The pages from `first` onward, at most `n`, stopping at page 255. -/
def pageRange (first : PageId) (n : Nat) : List PageId := ((List.finRange 256).drop first.val).take n

/-- PAGE-LIST. -/
def opPageList : Op := fixedLen 2 fun p s =>
  let n := u8At p 1
  if n = 0 ∨ 24 < n then refuse .badValue s
  else
    let l := pageRange (pageArg p 0) n
    done false s (be1 l.length ++ (l.map (pageEntry s)).flatten)

/-! ## PROGRAM-DEFINE (R91, R92) -/

/-- The check mode of a code (11 §11.2). -/
def checkModeOf (b : Byte) : Option CheckMode :=
  if b = 0 then some .strobe else if b = 1 then some .signature else if b = 2 then some .both else none

/-- The payload holds the page list and the optional parts it declares (R91 step 1). -/
def programLengthOk (p : List Byte) : Bool :=
  let m := u8At p 1
  let parts := p.getD (14 + m) 0
  decide (15 + m ≤ p.length) &&
    decide (p.length = 15 + m + (if parts.getLsbD 0 then 3 else 0) + (if parts.getLsbD 1 then 9 else 0))

/-- The program record of a payload as sent, under a check mode. -/
def programSent (p : List Byte) (mode : CheckMode) : Program :=
  let m := u8At p 1
  let parts := p.getD (14 + m) 0
  let h := if parts.getLsbD 0 then 18 + m else 15 + m
  { pages := (List.range m).map fun k => pageArg p (2 + k)
    lastCount := u16At p (2 + m)
    loopRep := u16At p (4 + m)
    divN := u16At p (6 + m)
    fracF := u8At p (8 + m)
    gap := u16At p (9 + m)
    idleWord := BitVec.ofNat 16 (u16At p (11 + m))
    mode := mode
    sig := if parts.getLsbD 0 then some ⟨BitVec.ofNat 16 (u16At p (15 + m)), p.getD (17 + m) 0⟩ else none
    hb := if parts.getLsbD 1 then
        some ⟨u16At p h, u16At p (h + 2), u16At p (h + 4), u16At p (h + 6), u8At p (h + 8)⟩
      else none }

/-- A heartbeat part as taken (05 §5.4). -/
def HbPart.taken (h : HbPart) : HbPart :=
  { tMin := clampNat 1 60000 h.tMin, tWin := clampNat 1 60000 h.tWin, tReset := clampNat 1 1000 h.tReset,
    tIgnore := clampNat 0 60000 h.tIgnore, cycleLimit := clampNat 0 15 h.cycleLimit }

/-- A program as taken (05 §5.4). -/
def Program.taken (d : Program) : Program :=
  { d with loopRep := clampNat 1 65535 d.loopRep, divN := clampNat 4 65535 d.divN, fracF := clampNat 0 15 d.fracF,
           gap := clampNat 0 60000 d.gap, hb := d.hb.map HbPart.taken }

/-- How often a list names the page (R88). -/
def timesNamed (l : List PageId) (pg : PageId) : Nat := l.count pg

/-- The pages of a program slot, none when it is empty. -/
def State.slotPages (s : State) (k : ProgId) : List PageId := ((s.program k).map (·.pages)).getD []

/-- A slot's definition is replaced or emptied, and the reference counts follow the two page lists (R92, R93). -/
def setProgram (k : ProgId) (d : Option Program) (s : State) : State :=
  let old := s.slotPages k
  let new := (d.map (·.pages)).getD []
  modStore (fun st =>
    { st with programs := st.programs.set k d,
              pages := Vector.ofFn fun pg : Fin 256 =>
                { st.pages[pg] with refs := st.pages[pg].refs + timesNamed new pg - timesNamed old pg } }) s

/-- A program slot a byte names, if it is 0 to 15. -/
def progArg (p : List Byte) (k : Nat) : Option ProgId := if h : u8At p k < 16 then some ⟨u8At p k, h⟩ else none

/-- The first listed page that is not SEALED (R91 step 4). -/
def State.firstUnsealed (s : State) (l : List PageId) : Option PageId := l.find? fun pg => (s.page pg).state != .sealed

/-- The vector count of the last page of a list. -/
def State.lastPageCount (s : State) (l : List PageId) : Nat :=
  match l.getLast? with
  | some pg => ((s.page pg).count).getD 0
  | none => 0

/-- A program's own fields are ones that can be taken (R91 step 2). -/
def Program.fieldsOk (d : Program) : Bool :=
  decide (1 ≤ d.pages.length ∧ d.pages.length ≤ 32 ∧ 1 ≤ d.lastCount ∧ d.lastCount ≤ 512) &&
    (d.mode == .strobe || d.sig.isSome)

/-- PROGRAM-DEFINE. -/
def opProgramDefine : Op := fun p s =>
  if programLengthOk p = false then refuse .badLength s else
  match progArg p 0, checkModeOf (p.getD (13 + u8At p 1) 0) with
  | some k, some mode =>
    let d := programSent p mode
    if d.fieldsOk = false then refuse .badValue s
    else if s.inUse k then refuse .inUse s
    else
      match s.firstUnsealed d.pages with
      | some pg => refuse .notFound s (be1 pg.val)
      | none =>
        if s.lastPageCount d.pages < d.lastCount then refuse .badValue s
        else done (d.taken != d) (setProgram k (some d.taken) s) (be1 k.val ++ d.taken.bytes)
  | _, _ => refuse .badValue s

/-! ## PROGRAM-DELETE and PROGRAM-LIST (R93, R94) -/

/-- PROGRAM-DELETE. -/
def opProgramDelete : Op := fixedLen 1 fun p s =>
  match progArg p 0 with
  | none => refuse .badValue s
  | some k =>
    if (s.program k).isNone then refuse .notFound s
    else if s.inUse k then refuse .inUse s
    else done false (setProgram k none s) []

/-- The five bytes of a slot in the PROGRAM-LIST reply to all; an empty slot sends zeros (DESIGN CHOICE, log entry
23). -/
def programSummary (s : State) (k : ProgId) : List Byte :=
  match s.program k with
  | none => List.replicate 5 0
  | some d => [1] ++ be1 d.pages.length ++ [d.mode.code] ++ flag1 d.hb.isSome ++ flag1 (s.inUse k)

/-- The reply data of PROGRAM-LIST for one slot. -/
def programEntry (s : State) (k : ProgId) : List Byte :=
  match s.program k with
  | none => be1 k.val ++ flag1 false
  | some d => be1 k.val ++ flag1 true ++ d.bytes

/-- PROGRAM-LIST. -/
def opProgramList : Op := fixedLen 1 fun p s =>
  if u8At p 0 = 255 then done false s (((List.finRange 16).map (programSummary s)).flatten)
  else
    match progArg p 0 with
    | none => refuse .badValue s
    | some k => done false s (programEntry s k)

end Sys2Proof.Machine
end

