-- ==== Sys2Proof/Machine/Runs.lean ====
section
/-! DEFINITION. The run controller's requests and events: defining, starting, holding, resuming, aborting and clearing
a run, the OVEN-PERMIT monitor, assigning a program to a zone, and retiring a socket (chapters 1, 6 and 9). -/

namespace Sys2Proof.Machine

/-! ## BOARD-SETUP (R20) -/

/-- A permit timeout as taken: 0, or clamped to 20 to 2000 (R20). -/
def timeoutTaken (t : Nat) : Nat := if t = 0 then 0 else clampNat 20 2000 t

/-- A changed timeout restarts the permit monitor; with 0 the permit is valid, else invalid (R20). -/
def setTimeout (t : Nat) (r : Run) : Run :=
  if r.permitTimeout = t then r
  else { r with permitTimeout := t, permitValid := t == 0, edgeTimer := none, edgeCount := 0 }

/-- BOARD-SETUP. -/
def opBoardSetup : Op := fixedLen 2 fun p s =>
  if s.started then refuse .wrongState s
  else
    let t := timeoutTaken (u16At p 0)
    done (t != u16At p 0) (modRun (setTimeout t) s) (be2 t)

/-! ## RUN-DEFINE (R4, R5) -/

/-- A program entry of a code, if it names a slot or none. -/
def progOf (b : Byte) : Option ProgSel :=
  if b = 0xFE then some .noProgram else if h : b.toNat < 16 then some (.slot ⟨b.toNat, h⟩) else none

/-- An entry of the disposition table of a code: DEFAULT is stored as such (11 §11.2). -/
def dispOf (b : Byte) : Option (Option Disp) :=
  if b = 0 then some (some .count) else if b = 1 then some (some .reset) else if b = 2 then some (some .retire)
  else if b = 3 then some none else none

/-- An entry for a kind of the power or thermal class, which has no RESET (R4). -/
def dispNoReset (b : Byte) : Option (Option Disp) := if b = 1 then none else dispOf b

/-- Entry `j` of the disposition table at byte `k`: the kinds follow the table of R4 in order, and RESET is refused for
the last four, the power and thermal kinds (R4). -/
def dispEntry (p : List Byte) (k j : Nat) : Option (Option Disp) :=
  if j < 4 then dispOf (p.getD (k + j) 0) else dispNoReset (p.getD (k + j) 0)

/-- The disposition table of eight bytes, when every entry is allowed (R4). -/
def dispTableAt (p : List Byte) (k : Nat) : Option DispTable :=
  let stored := fun j => (dispEntry p k j).join
  if (List.range 8).all fun j => (dispEntry p k j).isSome then
    some { strobe := stored 0, signature := stored 1, early := stored 2, late := stored 3,
           fast := stored 4, average := stored 5, ramp := stored 6, trip := stored 7 }
  else none

/-- The label's characters are all in 0x20 to 0x7E, and there are at most 16 (R4). -/
def labelOk (l : List Byte) : Bool := decide (l.length ≤ 16) && l.all fun c => decide (0x20 ≤ c.toNat ∧ c.toNat ≤ 0x7E)

/-- The declared set of a RUN-DEFINE payload. -/
def declaredAt (p : List Byte) : BitVec 32 := BitVec.ofNat 32 (u32At p (1 + u8At p 0))

/-- The program entry of a zone as recorded: none for a zone with no declared socket (R4). -/
def entryAt (p : List Byte) (z : ZoneId) : Option ProgSel :=
  if zoneDeclared (declaredAt p) z then progOf (p.getD (9 + u8At p 0 + z.val) 0) else some .noProgram

/-- The program entries of the four zones as recorded, when none of them is refused (R4). -/
def entriesAt (p : List Byte) : Option (Vector ProgSel 4) :=
  if allZones.all fun z => (entryAt p z).isSome then some (Vector.ofFn fun z => (entryAt p z).getD .noProgram) else none

/-- The run record of a payload with its target and limit clamped, when no field is refused BAD-VALUE (R4 step 1). -/
def runRecordAt (p : List Byte) : Option RunRecord :=
  let n := u8At p 0
  let label := (p.drop 1).take n
  if labelOk label && declaredAt p != 0 then
    (entriesAt p).bind fun progs => (dispTableAt p (13 + n)).map fun disp =>
      { label := label, declared := declaredAt p, target := clampNat 60 4000000 (u32At p (5 + n)), progs := progs,
        disp := disp, retireLimit := clampNat 1 255 (u8At p (21 + n)), powerAtTemp := p.getD (22 + n) 0 != 0 }
  else none

/-- Every zone that holds a declared socket has both its profiles (R4 step 2). -/
def State.configured (s : State) (d : BitVec 32) : Bool :=
  allZones.all fun z => !zoneDeclared d z || ((s.zone z).railProf.isSome && (s.zone z).thermProf.isSome)

/-- Every slot the record names holds a definition (R4 step 3). -/
def State.progsDefined (s : State) (r : RunRecord) : Bool :=
  r.progs.toList.all fun e =>
    match e with
    | .noProgram => true
    | .slot k => (s.program k).isSome

/-- The lifecycle state after an accepted RUN-DEFINE (R2). -/
def lifeDefined (declared : Bool) (l : Lifecycle) : Lifecycle :=
  match l, declared with
  | .empty, true => .waiting
  | .waiting, false => .empty
  | l, _ => l

/-- An accepted RUN-DEFINE: the record is stored, sockets and zones follow it, and the form taken in IDLE moves the run
to READY with a routine RUN-STATE notice (R2, R5, R102). -/
def storeRecord (r : RunRecord) (s : State) : State :=
  let s1 := modRun (fun k => { k with state := .ready, record := some r }) s
  let s2 := forEach allSockets (fun i => modSock i fun k => { k with life := lifeDefined (r.declared.getLsbD i.val) k.life }) s1
  let s3 := forEach allZones (fun z => modSeq z fun q => { q with assigned := some r.progs[z] }) s2
  if s.run.state = .idle then runStateNotice false s3 else s3

/-- RUN-DEFINE (R4). -/
def opRunDefine : Op := fun p s =>
  let n := u8At p 0
  if p.length ≠ 23 + n then refuse .badLength s
  else if s.run.state ≠ .idle ∧ s.run.state ≠ .ready then refuse .wrongState s
  else
    match runRecordAt p with
    | none => refuse .badValue s
    | some r =>
      if s.configured r.declared = false then refuse .notConfigured s
      else if s.progsDefined r = false then refuse .notFound s
      else if r.target = u32At p (5 + n) ∧ r.retireLimit = u8At p (21 + n) then done false (storeRecord r s) []
      else done true (storeRecord r s) (be4 r.target ++ be1 r.retireLimit)

/-! ## RUN-START (R10, R11) -/

/-- The fail record that RUN-START sends for a socket it found hot or with a dead sensor, judged on the state `s0`
before the request (R55). A socket that is hot with THERMAL standing in its set already sends none (DESIGN CHOICE, log
entry 31), and one of both cases has the record of TRIPPED alone (DESIGN CHOICE, log entry 32). -/
def startRecord (s0 : State) (i : SocketId) (s : State) : State :=
  let k := s0.sock i
  if s0.hot i && !k.rail.inhibit.thermal then
    failRecord i .thermalTrip (.reading (k.therm.reading.getD 0)) s
  else if s0.startDead i then failRecord i .sensorFault (.lastReading k.therm.faultReading) s
  else s

/-- A zone leaves IDLE at RUN-START, unless a retirement in the same change has ended its part or the run (R11,
R102). -/
def zoneStart (r : RunRecord) (z : ZoneId) (s : State) : State :=
  if s.run.state = .active ∧ (s.zone z).seq.state ≠ .done then
    let s := modSeq z (fun q => { q with assigned := some r.progs[z] }) s
    if zoneDeclared r.declared z then
      match r.progs[z] with
      | .slot _ => enterPriming z s
      | .noProgram => enterStatic z s
    else zoneDone z s
  else s

/-- The effects of an accepted RUN-START under a record (R11; their order DESIGN CHOICE, log entry 11). The zones start,
and request their first pages, in ascending number (R95, R116; DESIGN CHOICE, log entry 34). -/
def startRun (r : RunRecord) (s0 : State) : State :=
  let l := allSockets.filter s0.declared
  let s := modRun (fun k => { k with state := .active, clock := 0, acctTimer := some (afterMs 1000 s0) }) s0
  let s := forEach l (fun i => modSock i fun k => { k with life := .stressing }) s
  let s := runStateNotice false s
  let s := forEach l thermStart s
  let s := changeInhibits l (fun i => startInhibit r.powerAtTemp (s0.hot i) (s0.startDead i)) s
  let s := forEach l (startRecord s0) s
  forEach allZones (zoneStart r) s

/-- RUN-START. -/
def opRunStart : Op := fixedLen 0 fun _ s =>
  match s.run.state, s.run.record with
  | .ready, some r => if s.run.permitValid then done false (startRun r s) [] else refuse .permitAbsent s
  | _, _ => refuse .wrongState s

/-! ## Holds (R12 to R15) -/

/-- What a run that became HELD from ACTIVE tells the zones and the heartbeat monitor (R13, R115, R147). The zones cut by
the hold send their PASS-VOID notices in ascending number (R181; DESIGN CHOICE, log entry 18). -/
def holdBlocks (s : State) : State := forEach allSockets hbHold (forEach allZones zoneHold s)

/-- RUN-PAUSE (R12). -/
def opRunPause : Op := fixedLen 0 fun _ s =>
  match s.run.state with
  | .active =>
    done false (runStateNotice false
      (holdBlocks (modRun (fun r => { r with state := .held, holds := { r.holds with host := true } }) s))) []
  | .held =>
    if s.run.holds.host then done false s []
    else done false (runStateNotice false (modRun (fun r => { r with holds := { r.holds with host := true } }) s)) []
  | .idle | .ready | .finished | .aborted => refuse .wrongState s

/-- The permit was lost (R14): PERMIT joins the hold causes of a started run and the inhibit sets, the heaters are
held, the zones and heartbeats too when the run was ACTIVE, and the urgent notice is sent. -/
def permitLost (s : State) : State :=
  if s.run.state = .active ∨ (s.run.state = .held ∧ s.run.holds.permit = false) then
    let s1 := modRun (fun r => { r with state := .held, holds := { r.holds with permit := true } }) s
    let s2 := changeInhibits (allSockets.filter fun i => (s.sock i).life == .stressing)
      (fun _ => Inhibit.put .permit true) s1
    let s3 := forEach allSockets thermHold s2
    let s4 := if s.run.state = .active then holdBlocks s3 else s3
    runStateNotice true s4
  else s

/-- What RUN-RESUME removes from the hold causes: HOST, and PERMIT when the permit is valid (R15). -/
def Run.resumed (r : Run) : Holds := ⟨false, r.holds.permit && !r.permitValid⟩

/-- The effects of RUN-RESUME in HELD (R15). The held zones resume, and request their first pages, in ascending number
(R95, R116; DESIGN CHOICE, log entry 34). -/
def resumeRun (s : State) : State :=
  let h := s.run.resumed
  let freed := s.run.holds.permit && !h.permit
  let act := !h.permit
  let s1 := modRun (fun r => { r with state := if act then .active else .held, holds := h }) s
  let s2 := if freed then
      forEach allSockets thermResume (changeInhibits allSockets (fun _ => Inhibit.put .permit false) s1)
    else s1
  let s3 := if act then forEach allSockets hbResume (forEach allZones zoneResume s2) else s2
  if s.run.holds = h then s3 else runStateNotice false s3

/-- RUN-RESUME. -/
def opRunResume : Op := fixedLen 0 fun _ s =>
  if s.run.state = .held then
    (resumeRun s, ⟨if s.run.resumed.permit then .permitAbsent else .ok, []⟩)
  else refuse .wrongState s

/-! ## RUN-ABORT and RUN-CLEAR (R16, R18) -/

/-- RUN-ABORT. -/
def opRunAbort : Op := fixedLen 0 fun _ s =>
  if s.run.state = .ready ∨ s.started = true then done false (endRun .aborted s) [] else refuse .wrongState s

/-- A socket record after RUN-CLEAR, by the RUN-CLEAR columns of the blocks (R18, R44, R69, R136, R150, R169). -/
def Socket.cleared (k : Socket) : Socket :=
  { life := .empty
    bin := none
    rail := { k.rail with
      inhibit := { k.rail.inhibit with cold := false, sensor := false, final := false }, trips := 0, power := 0 }
    therm := { k.therm with firstInband := false }
    live := { k.live with cycles := 0, lastEdge := none, owed := false }
    pass := Pass.init
    acct := Accounts.init }

/-- A zone after RUN-CLEAR (R123, R136). -/
def Zone.cleared (k : Zone) : Zone := { k with seq := Seq.init, chk := CheckZone.init }

/-- The effects of RUN-CLEAR (R18). -/
def clearRun (s : State) : State :=
  runStateNotice false
    { s with
      run := { s.run with state := .idle, record := none, holds := ⟨false, false⟩, clock := 0, acctTimer := none }
      sockets := s.sockets.map Socket.cleared
      zones := s.zones.map Zone.cleared }

/-- RUN-CLEAR. -/
def opRunClear : Op := fixedLen 0 fun _ s =>
  if s.run.state = .finished ∨ s.run.state = .aborted then done false (clearRun s) [] else refuse .wrongState s

/-! ## The OVEN-PERMIT monitor (R19) -/

/-- OVEN_PERMIT_EDGE: the edge starts or restarts the timer; the second close edge makes the permit valid. -/
def execOvenPermitEdge (s : State) : Host.Outcome State Fault Refusal :=
  if s.run.permitTimeout = 0 then .next s
  else
    let e := some (afterMs s.run.permitTimeout s)
    match s.run.edgeTimer with
    | none => .next (modRun (fun r => { r with edgeTimer := e, edgeCount := 1 }) s)
    | some _ =>
      .next (modRun (fun r => { r with edgeTimer := e, edgeCount := min 2 (r.edgeCount + 1),
                                       permitValid := r.permitValid || decide (2 ≤ r.edgeCount + 1) }) s)

/-- PERMIT_TIMER_EXPIRY: the timer stops, the count clears, and a valid permit is lost. -/
def execPermitTimerExpiry (s : State) : Host.Outcome State Fault Refusal :=
  match s.run.edgeTimer with
  | none => .next s
  | some e =>
    let s1 := modRun (fun r => { r with edgeTimer := none, edgeCount := 0, permitValid := false }) (advanceTo e s)
    .next (if s.run.permitValid then permitLost s1 else s1)

/-! ## ZONE-PROGRAM (R118, R119) -/

/-- The program becomes the zone's assigned program at once, and the heartbeat monitor is told (R119; that the same
program named again is told too is DEDUCED, log entry 19). -/
def assignNow (z : ZoneId) (e : ProgSel) (s : State) : State :=
  hbZoneProgramChange z (modSeq z (fun q => { q with assigned := some e, staged := none }) s)

/-- The effect of an accepted ZONE-PROGRAM in READY: the record entry and the assignment change together (R6, R102). -/
def assignReady (z : ZoneId) (e : ProgSel) (s : State) : State :=
  modRun (fun r => { r with record := r.record.map fun k => { k with progs := k.progs.set z e } })
    (modSeq z (fun q => { q with assigned := some e }) s)

/-- The effect of an accepted ZONE-PROGRAM in ACTIVE and HELD, by the zone's state (R119). -/
def assignStarted (z : ZoneId) (e : ProgSel) (s : State) : State :=
  match (s.zone z).seq.state with
  | .priming | .playing | .stalled | .gap => modSeq z (fun q => { q with staged := some e }) s
  | .halted =>
    if s.run.state = .held then enterHeld z (assignNow z e s)
    else if e = .noProgram then enterStatic z (assignNow z e s) else enterPriming z (assignNow z e s)
  | .static =>
    if e = .noProgram then enterStatic z (assignNow z e s)
    else if s.run.state = .held then enterHeld z (assignNow z e s) else enterPriming z (assignNow z e s)
  | .held => enterHeld z (assignNow z e s)
  | .idle | .done => s

/-- The slot a program choice names holds a definition, or none is named (R118 step 3). -/
def State.selDefined (s : State) (e : ProgSel) : Bool :=
  match e with
  | .noProgram => true
  | .slot k => (s.program k).isSome

/-- The zone's declared sockets, as the run record has them. -/
def State.zoneInRun (s : State) (z : ZoneId) : Bool :=
  match s.run.record with
  | some r => zoneDeclared r.declared z
  | none => false

/-- The effect of an accepted ZONE-PROGRAM by the run state (R119). -/
def assignProgram (z : ZoneId) (e : ProgSel) (s : State) : State :=
  if s.run.state = .ready then assignReady z e s else assignStarted z e s

/-- ZONE-PROGRAM (R118). -/
def opZoneProgram : Op := fixedLen 2 fun p s =>
  if s.run.state ≠ .ready ∧ s.started = false then refuse .wrongState s else
  match zoneArg p 0, progOf (p.getD 1 0) with
  | some z, some e =>
    if s.zoneInRun z = false ∨ (s.zone z).seq.state = .done then refuse .wrongState s
    else if s.selDefined e = false then refuse .notFound s
    else
      let s1 := assignProgram z e s
      done false s1 [progCode (s1.zone z).seq.assigned, progCode (s1.zone z).seq.staged]
  | _, _ => refuse .badValue s

/-! ## SOCKET-RETIRE (R158) -/

/-- SOCKET-RETIRE. -/
def opSocketRetire : Op := fixedLen 1 fun p s =>
  match socketArg p 0 with
  | none => refuse .badValue s
  | some i =>
    if s.started = true ∧ (s.sock i).life = .stressing then done false (retire i none s) [] else refuse .wrongState s

end Sys2Proof.Machine
end

