-- ==== Sys2Proof/Machine/Reports.lean ====
section
/-! DEFINITION. The requests that report: RUN-REPORT, ZONE-REPORT, SOCKET-REPORT, FAIL-LOG, IDENT, and COLLECT, which
takes its notices with it (chapters 1, 6, 9 and 10, 11 §11.7). -/

namespace Sys2Proof.Machine

/-! ## RUN-REPORT (R21) -/

/-- The number of sockets in a lifecycle state. -/
def State.lifeCount (s : State) (l : Lifecycle) : Nat := (allSockets.filter fun i => (s.sock i).life == l).length

/-- The reply data of RUN-REPORT. -/
def runReport (s : State) : List Byte :=
  [s.run.state.code, s.run.holds.code] ++ be4 s.run.clock ++ flag1 s.run.permitValid ++ be2 s.run.permitTimeout ++
    (([.empty, .waiting, .stressing, .complete, .retired] : List Lifecycle).map fun l => be1 (s.lifeCount l)).flatten ++
    flag1 s.run.record.isSome ++
    (match s.run.record with
      | some r => r.bytes
      | none => [])

/-- RUN-REPORT. -/
def opRunReport : Op := fixedLen 0 fun _ s => done false s (runReport s)

/-! ## The parts of the reports -/

/-- The budget items of a zone (R78, 11 §11.7). -/
def budgetPart (s : State) (z : ZoneId) : List Byte :=
  be2 (s.zone z).budget ++ flag1 (s.zone z).armed ++ be2 (s.dutSum z) ++ be2 (s.grantSum z) ++
    sbe2 (((s.zone z).budget : Int) - s.dutSum z - s.grantSum z)

/-- The accounts part, under the run's stress target (R167). -/
def accountsPart (target : Option Nat) (a : Accounts) : List Byte :=
  be4 a.credit ++ be4 (target.getD 0) ++ be2 a.total ++ be1 a.counted ++ be1 a.log.length ++
    (match a.deciding with
      | some d => [d.kind.code, d.kind.cls.code, BitVec.ofNat 8 d.slot]
      | none => [0xFF, 0xFF, 0xFF]) ++ flag1 a.byHost

/-- The rail part (R43). -/
def railPart (r : Rail) : List Byte :=
  [r.state.code, r.inhibit.code] ++ be2 r.lastCurrent ++ be2 r.average ++ be1 r.window.length ++ be2 r.voltage ++
    be2 r.power ++ be1 r.trips

/-- The thermal part, with the target's two bytes (R68). -/
def thermalPart (target : List Byte) (t : Thermal) : List Byte :=
  [t.state.code] ++ sbe2 (t.reading.getD 0) ++ sbe2 t.teff ++ target ++ be2 t.integral.toNat ++ [t.sat.code] ++
    be2 t.duty ++ be2 t.grant ++ sbe1 t.trim ++ be2 t.rating ++ be1 t.badRun ++ be1 t.goodRun ++ flag1 t.firstInband

/-- The pass part (R135). -/
def passPart (p : Pass) : List Byte :=
  flag1 p.checked ++ be2 p.count ++ be4 ((p.first.map (·.ordinal)).getD 0) ++ [(p.first.map (·.bits)).getD 0] ++
    be2 p.crc.toNat ++ [p.lpc] ++ be4 p.nChecked ++ be4 p.nFailed

/-- The liveness part at a reading of the time base (R149). -/
def livenessPart (nowMs : Nat) (l : Liveness) : List Byte :=
  [l.state.code] ++ be1 l.cycles ++ flag1 l.owed ++ be4 ((l.lastEdge.map fun e => min top32 (nowMs - e)).getD 0) ++
    be4 ((l.timer.map fun e => e - nowMs).getD 0) ++ flag1 (l.state == .resetHeld)

/-! ## SOCKET-REPORT (R167) -/

/-- The presence byte of SOCKET-REPORT (11 §11.7). -/
def socketPresence (target : Option Nat) (k : Socket) : Nat :=
  bits1 [target.isSome, k.therm.reading.isSome, k.pass.first.isSome, k.live.lastEdge.isSome, k.live.timer.isSome]

/-- The target's two bytes: a free value while the zone has no thermal profile (R48, log entry 8). -/
def targetBytes (s : State) (i : SocketId) : List Byte :=
  match (s.zone (zoneOf i)).thermProf with
  | some p => sbe2 (targetOf p (s.sock i).therm.trim)
  | none => be2 (Config.unsetTarget s.freeDraws).toNat

/-- The 92 bytes of reply data of SOCKET-REPORT. -/
def socketReport (s : State) (i : SocketId) : List Byte :=
  let k := s.sock i
  let target := s.run.record.map (·.target)
  be1 i.val ++ [k.life.code, codeOr Bin.code k.bin] ++ be1 (socketPresence target k) ++ accountsPart target k.acct ++
    railPart k.rail ++ thermalPart (targetBytes s i) k.therm ++ budgetPart s (zoneOf i) ++ passPart k.pass ++
    livenessPart s.nowMs k.live

/-- SOCKET-REPORT; a target of an unset zone is one draw of the free value. -/
def opSocketReport : Op := fixedLen 1 fun p s =>
  match socketArg p 0 with
  | none => refuse .badValue s
  | some i =>
    done false
      (if (s.zone (zoneOf i)).thermProf.isNone then { s with freeDraws := s.freeDraws + 1 } else s)
      (socketReport s i)

/-! ## FAIL-LOG (R168) -/

/-- The records of a fail log in slot order. -/
def logBytes (log : List FailRec) : List Byte := (log.mapIdx fun k r => r.bytes (k + 1)).flatten

/-- FAIL-LOG. -/
def opFailLog : Op := fixedLen 1 fun p s =>
  match socketArg p 0 with
  | none => refuse .badValue s
  | some i =>
    let a := (s.sock i).acct
    done false s (be2 a.total ++ be1 a.log.length ++ logBytes a.log)

/-! ## ZONE-REPORT (R122) -/

/-- The play position is reported, in PLAYING and STALLED (R122). -/
def Seq.playShown (q : Seq) : Bool := q.state.inPass

/-- The play position's ten bytes: list position, page, vector index, loop count and ordinal. -/
def playPart (q : Seq) : List Byte :=
  if q.playShown then
    (match (q.buf q.play.buf).tag? with
      | some t => be1 t.pos ++ be1 t.page.val
      | none => [0, 0]) ++ be2 q.play.idx ++ be2 q.play.loop ++ be4 q.ordinal
  else List.replicate 10 0

/-- The four bytes of a buffer (11 §11.7). -/
def bufferPart : Buffer → List Byte
  | .empty => [0, 0xFF, 0xFF, 0xFF]
  | .filling t => [1, BitVec.ofNat 8 t.slot.val] ++ be1 t.pos ++ be1 t.page.val
  | .full t _ => [2, BitVec.ofNat 8 t.slot.val] ++ be1 t.pos ++ be1 t.page.val

/-- The halt location's three bytes. -/
def haltPart : Option (PageId × Nat) → List Byte
  | none => [0, 0, 0]
  | some h => be1 h.1.val ++ be2 h.2

/-- A list of sockets in `n` places, 0xFF after the last (R188). -/
def socketPlaces (n : Nat) (l : List SocketId) : List Byte :=
  (l.map fun i => BitVec.ofNat 8 i.val).take n ++ List.replicate (n - l.length) 0xFF

/-- The presence byte of ZONE-REPORT (11 §11.7). -/
def zonePresence (k : Zone) : Nat :=
  bits1 [k.seq.playShown, k.seq.halt.isSome, k.railProf.isSome, k.thermProf.isSome]

/-- The 87 bytes of reply data of ZONE-REPORT. -/
def zoneReport (s : State) (z : ZoneId) : List Byte :=
  let k := s.zone z
  let q := k.seq
  be1 z.val ++ [q.state.code, progCode q.assigned, progCode q.staged] ++ be1 (zonePresence k) ++ be4 q.passNo ++
    [((q.void).map VoidCause.code).getD 0] ++ be4 q.voidCount ++ playPart q ++ bufferPart q.bufA ++ bufferPart q.bufB ++
    haltPart q.halt ++ ((k.railProf.map RailProfile.bytes).getD (List.replicate 20 0)) ++
    be1 k.rampQueue.length ++ socketPlaces 8 k.rampQueue ++ socketPlaces 2 (s.slotHolders z) ++
    ((k.thermProf.map ThermalProfile.bytes).getD (List.replicate 12 0)) ++ budgetPart s z

/-- ZONE-REPORT. -/
def opZoneReport : Op := fixedLen 1 fun p s =>
  match zoneArg p 0 with
  | none => refuse .badValue s
  | some z => done false s (zoneReport s z)

/-! ## IDENT (R179) -/

/-- IDENT. -/
def opIdent : Op := fixedLen 0 fun _ s =>
  done false s ([Config.vendor] ++ be2 Config.part ++ [Config.revision] ++ be1 s.link.slot.toNat ++
    be1 s.link.rate.toNat ++ be1 32 ++ be2 256)

/-! ## COLLECT (R182, R183) -/

/-- The bytes of a notice on the link (R180). -/
def Notice.size (n : Notice) : Nat := 7 + n.body.detail.length

/-- The notices chosen from the head of a lane: at most `max`, and none past `room` bytes (R182). -/
def chooseFrom : Nat → Nat → List Notice → List Notice
  | _, _, [] => []
  | 0, _, _ => []
  | max + 1, room, n :: l => if n.size ≤ room then n :: chooseFrom max (room - n.size) l else []

/-- The notices chosen from the two lanes: the routine lane follows only when the urgent lane was taken whole (R182). -/
def chosen (max : Nat) (q : NoticeQueue) : List Notice × List Notice :=
  let u := chooseFrom max 246 q.urgent
  let used := (u.map Notice.size).sum
  (u, if u.length = q.urgent.length then chooseFrom (max - u.length) (246 - used) q.routine else [])

/-- The lanes after a COLLECT: the chosen notices go, and both flags are clear (R183). -/
def collected (max : Nat) (q : NoticeQueue) : NoticeQueue :=
  { urgent := q.urgent.drop (chosen max q).1.length, routine := q.routine.drop (chosen max q).2.length,
    urgentOver := false, routineOver := false }

/-- The reply data of COLLECT. -/
def collectData (max : Nat) (q : NoticeQueue) : List Byte :=
  be1 (bits1 [q.urgentOver, q.routineOver]) ++ be1 q.urgent.length ++ be1 q.routine.length ++
    (((chosen max q).1 ++ (chosen max q).2).map Notice.bytes).flatten

/-- COLLECT. -/
def opCollect : Op := fixedLen 1 fun p s =>
  let max := u8At p 0
  if max = 0 ∨ 20 < max then refuse .badValue s
  else done false (modNotices (collected max) s) (collectData max s.notices)

end Sys2Proof.Machine
end

