-- ==== Sys2Proof/Machine/Resets.lean ====
section
/-! DEFINITION. The resets: power-on, RESETN and its release, and the two scopes of BOARD-RESET, by the reset columns of
every block (R23, R44, R69, R77, R100, R123, R136, R150, R169, R178, R185). -/

namespace Sys2Proof.Machine

/-! ## The pattern store at RESETN and every BOARD-RESET (R100) -/

/-- A page at a reset: an OPEN page becomes FREE, others are kept. -/
def Page.atReset (e : Page) : Page := if e.state = .opened then e.freed else e

/-- How many vectors of a chunk of `n` the writer has copied by a moment: one for each cycle of its transfer (R83; log
entry 7). -/
def Store.copiedBy (now n : Nat) (st : Store) : Nat := min n (now + n - st.portEnd)

/-- The pattern memory as a reset leaves it: a transfer of the writer that it cuts has copied a part of the chunk (R83). -/
def Store.memAtReset (now : Nat) (st : Store) : List (Nat × Slot) :=
  match st.port, st.staging with
  | some .staging, some c => copyChunk (st.copiedBy now c.vecs.length) c st.mem
  | _, _ => st.mem

/-- The store after RESETN and every BOARD-RESET: staging emptied, the port idle, the arbiter as at power-on. -/
def Store.atReset (now : Nat) (st : Store) : Store :=
  { st with mem := st.memAtReset now, pages := st.pages.map Page.atReset, staging := none, port := none,
            waitCount := 0, ptr1 := 3, ptr3 := 3 }

/-! ## RESETN and BOARD-RESET FULL -/

/-- The state after RESETN or BOARD-RESET FULL, the link port aside: every block at its reset values, sealed pages and
programs kept, the time base running on. -/
def fullReset (s : State) : State :=
  { s with run := Run.init, sockets := Vector.replicate 32 Socket.init, zones := Vector.replicate 4 Zone.init,
           store := s.store.atReset s.now, notices := NoticeQueue.init }

/-! ## BOARD-RESET RUN -/

/-- The off-time timer after BOARD-RESET RUN (R44). -/
def State.offTimerKept (s : State) (i : SocketId) : Option Nat :=
  match (s.sock i).rail.state with
  | .ramp1 | .ramp2 | .on => s.offTimerNow i
  | .rest => (s.sock i).rail.offTimer
  | .off | .queued => none

/-- A socket record after BOARD-RESET RUN, under its off-time timer (R22, R44, R69, R136, R150, R169). -/
def Socket.runReset (offTimer : Option Nat) (k : Socket) : Socket :=
  { life := .empty
    bin := none
    rail := { Rail.init with lastCurrent := k.rail.lastCurrent, voltage := k.rail.voltage, offTimer := offTimer }
    therm := { k.therm.cut with
      state := .off, goodSince := false, integral := 0, firstInband := false, answerTimer := none }
    live := Liveness.init
    pass := Pass.init
    acct := Accounts.init }

/-- A zone after BOARD-RESET RUN: profiles and budget kept (R44, R69, R77, R123, R136). -/
def Zone.runReset (k : Zone) : Zone := { k with rampQueue := [], armed := true, seq := Seq.init, chk := CheckZone.init }

/-- The run controller after BOARD-RESET RUN: the permit monitor is kept (R22, R23). -/
def Run.runReset (r : Run) : Run :=
  { r with state := .idle, record := none, holds := ⟨false, false⟩, clock := 0, acctTimer := none }

/-- The state after BOARD-RESET RUN. -/
def runReset (s : State) : State :=
  { s with run := s.run.runReset
           sockets := Vector.ofFn fun i => (s.sock i).runReset (s.offTimerKept i)
           zones := s.zones.map Zone.runReset
           store := s.store.atReset s.now
           notices := NoticeQueue.init }

/-! ## BOARD-RESET (R22) -/

/-- BOARD-RESET: scope 0 is RUN, scope 1 is FULL, which reads the straps again (R22, R170, R178). -/
def opBoardReset : Op := fixedLen 1 fun p s =>
  if u8At p 0 = 0 then done false (runReset s) []
  else if u8At p 0 = 1 then
    done false { fullReset s with link := Link.ofStraps s.straps.slot s.straps.rate } []
  else refuse .badValue s

/-! ## The pins -/

/-- POWER_ON: every block in its power-on state, the straps read; what waits in the queue stays (R23). -/
def execPowerOn (slot : BitVec 5) (rate : BitVec 2) (s : State) : Host.Outcome State Fault Refusal :=
  .next { State.poweredOn slot rate with freeDraws := s.freeDraws, pending := s.pending }

/-- RESETN falls: every block is reset, the receiver takes nothing, and a reply is cut off (R178). -/
def execResetn (s : State) : Host.Outcome State Fault Refusal :=
  .next { fullReset s with
    link := { s.link with rx := .hunt, rxBuf := [], reply := none, replyState := .none, inReset := true } }

/-- RESETN rises: the straps are read, and the receiver starts in HUNT (R170, R178). -/
def execResetnRelease (slot : BitVec 5) (rate : BitVec 2) (s : State) : Host.Outcome State Fault Refusal :=
  if s.link.inReset then .next { s with straps := ⟨slot, rate⟩, link := Link.ofStraps slot rate } else .next s

end Sys2Proof.Machine
end

