-- ==== Sys2Proof/Machine/Link.lean ====
section
/-! DEFINITION. The link port: taking a frame, building its reply, the receiver's characters, and the commands that
arrive as frames or as events of the line (chapter 10). -/

namespace Sys2Proof.Machine

/-! ## Frames -/

/-- The receiver takes characters: RESETN is not asserted and the board is not sending (R176, R178). -/
def Link.isOpen (l : Link) : Bool := !l.inReset && l.replyState != .sending

/-- The start of a character: a PENDING reply is abandoned (R177). -/
def Link.dropPending (l : Link) : Link :=
  if l.replyState = .pending then { l with reply := none, replyState := .none } else l

/-- The receiver is in HUNT with the receive buffer empty. -/
def Link.hunt (l : Link) : Link := { l with rx := .hunt, rxBuf := [] }

/-- The bytes of a frame that its CRC covers: address, kind, tag, length and payload (10 §10.2). -/
def frameCovered (kind : Byte) (f : Frame) : List Byte :=
  [f.addr, kind, f.tag, BitVec.ofNat 8 f.payload.length] ++ f.payload

/-- The kinds a broadcast takes: RUN-PAUSE, RUN-RESUME, RUN-ABORT, BOARD-RESET (R173). -/
def broadcastKinds : List Byte := [0x12, 0x13, 0x14, 0x04]

/-- The judgement of a completed frame (R172, R173). -/
inductive Verdict where
  | discard | broadcast | addressed
  deriving DecidableEq, Repr

/-- How the link port judges a completed frame: its CRC, its address, and a broadcast's kind (R172, R173). -/
def judgeFrame (slot : BitVec 5) (kind : Byte) (f : Frame) : Verdict :=
  if crcOf (frameCovered kind f) ≠ f.crc then .discard
  else if f.addr = 0 then if broadcastKinds.contains kind then .broadcast else .discard
  else if f.addr = slot.zeroExtend 8 then .addressed
  else .discard

/-- The bytes of a reply that its CRC covers (R176). -/
def replyCovered (addr kind tag : Byte) (payload : List Byte) : List Byte :=
  [addr, kind, tag, BitVec.ofNat 8 payload.length] ++ payload

/-- The bytes of a reply in the order in which they are sent: SYNC, header, payload, and the CRC most significant byte
first (R176, R186, 10 §10.2). -/
def Reply.wire (r : Reply) : List Byte :=
  [0xC3] ++ replyCovered r.addr r.kind r.tag r.payload ++ be2 r.crc.toNat

/-- The reply to a request, under the slot address as it stands: status and data behind a header that repeats the
kind and the tag (R176, 11 §11.3). -/
def replyTo (slot : BitVec 5) (kind tag : Byte) (a : Answer) : Reply :=
  let addr : Byte := slot.zeroExtend 8 + 0x80
  let payload := a.status.code :: a.data
  { addr := addr, kind := kind, tag := tag, payload := payload, crc := crcOf (replyCovered addr kind tag payload) }

/-- The reply is built in the reply buffer and is PENDING (R176). -/
def buildReply (kind tag : Byte) (a : Answer) : State → State := modLink fun l =>
  { l with reply := some (replyTo l.slot kind tag a), replyState := .pending }

/-- A completed frame is judged, and its request taken by its owner (R172 to R176). -/
def judged (kind : Byte) (op : Op) (f : Frame) (s : State) : State :=
  match judgeFrame s.link.slot kind f with
  | .discard => s
  | .broadcast => (op f.payload s).1
  | .addressed => buildReply kind f.tag (op f.payload s).2 (op f.payload s).1

/-- A whole frame comes over the line: its first character abandons a PENDING reply, and the receiver ends in HUNT; a
length above 250 abandons the frame (R171, R177). -/
def takeFrame (kind : Byte) (op : Op) (f : Frame) (s : State) : State :=
  if s.link.isOpen then
    let s := modLink (fun l => l.dropPending.hunt) s
    if 250 < f.payload.length then s else judged kind op f s
  else s

/-- A command that a frame brings. -/
def execFrame (kind : Byte) (op : Op) (f : Frame) (s : State) : Host.Outcome State Fault Refusal :=
  .next (takeFrame kind op f s)

/-! ## Kinds (11 §11.3) -/

/-- A kind code that names no request (R174). -/
def opUnknown : Op := fun _ s => refuse .unknownKind s

/-- The owner of a kind code. -/
def kindOp (k : Byte) : Op :=
  if k = 0x01 then opIdent else if k = 0x02 then opCollect else if k = 0x03 then opBoardSetup
  else if k = 0x04 then opBoardReset else if k = 0x10 then opRunDefine else if k = 0x11 then opRunStart
  else if k = 0x12 then opRunPause else if k = 0x13 then opRunResume else if k = 0x14 then opRunAbort
  else if k = 0x15 then opRunClear else if k = 0x16 then opRunReport else if k = 0x20 then opZoneRail
  else if k = 0x21 then opZoneThermal else if k = 0x22 then opSocketThermal else if k = 0x23 then opSetpoint
  else if k = 0x24 then opZoneBudget else if k = 0x25 then opZoneProgram else if k = 0x26 then opZoneReport
  else if k = 0x30 then opPageOpen else if k = 0x31 then opPageData else if k = 0x32 then opPageClose
  else if k = 0x33 then opPageFree else if k = 0x34 then opPageList else if k = 0x38 then opProgramDefine
  else if k = 0x39 then opProgramDelete else if k = 0x3A then opProgramList else if k = 0x40 then opSocketRetire
  else if k = 0x41 then opSocketReport else if k = 0x42 then opFailLog else opUnknown

/-! ## The commands that frames bring -/

/-- IDENT (R179). -/
def execIdent (f : Frame) (s : State) : Host.Outcome State Fault Refusal := execFrame 0x01 opIdent f s

/-- COLLECT (R182). -/
def execCollect (f : Frame) (s : State) : Host.Outcome State Fault Refusal := execFrame 0x02 opCollect f s

/-- BOARD-SETUP (R20). -/
def execBoardSetup (f : Frame) (s : State) : Host.Outcome State Fault Refusal := execFrame 0x03 opBoardSetup f s

/-- BOARD-RESET RUN (R22). -/
def execBoardResetRun (f : Frame) (s : State) : Host.Outcome State Fault Refusal := execFrame 0x04 opBoardReset f s

/-- BOARD-RESET FULL, with the straps at the levels of the operands (R23, R170). -/
def execBoardResetFull (f : Frame) (slot : BitVec 5) (rate : BitVec 2) (s : State) : Host.Outcome State Fault Refusal :=
  execFrame 0x04 opBoardReset f { s with straps := ⟨slot, rate⟩ }

/-- RUN-DEFINE (R4). -/
def execRunDefine (f : Frame) (s : State) : Host.Outcome State Fault Refusal := execFrame 0x10 opRunDefine f s

/-- RUN-START (R11). -/
def execRunStart (f : Frame) (s : State) : Host.Outcome State Fault Refusal := execFrame 0x11 opRunStart f s

/-- RUN-PAUSE (R12). -/
def execRunPause (f : Frame) (s : State) : Host.Outcome State Fault Refusal := execFrame 0x12 opRunPause f s

/-- RUN-RESUME (R15). -/
def execRunResume (f : Frame) (s : State) : Host.Outcome State Fault Refusal := execFrame 0x13 opRunResume f s

/-- RUN-ABORT (R16). -/
def execRunAbort (f : Frame) (s : State) : Host.Outcome State Fault Refusal := execFrame 0x14 opRunAbort f s

/-- RUN-CLEAR (R18). -/
def execRunClear (f : Frame) (s : State) : Host.Outcome State Fault Refusal := execFrame 0x15 opRunClear f s

/-- RUN-REPORT (R21). -/
def execRunReport (f : Frame) (s : State) : Host.Outcome State Fault Refusal := execFrame 0x16 opRunReport f s

/-- ZONE-RAIL (R24). -/
def execZoneRail (f : Frame) (s : State) : Host.Outcome State Fault Refusal := execFrame 0x20 opZoneRail f s

/-- ZONE-THERMAL (R45). -/
def execZoneThermal (f : Frame) (s : State) : Host.Outcome State Fault Refusal := execFrame 0x21 opZoneThermal f s

/-- SOCKET-THERMAL (R47). -/
def execSocketThermal (f : Frame) (s : State) : Host.Outcome State Fault Refusal := execFrame 0x22 opSocketThermal f s

/-- SETPOINT (R49). -/
def execSetpoint (f : Frame) (s : State) : Host.Outcome State Fault Refusal := execFrame 0x23 opSetpoint f s

/-- ZONE-BUDGET (R70). -/
def execZoneBudget (f : Frame) (s : State) : Host.Outcome State Fault Refusal := execFrame 0x24 opZoneBudget f s

/-- ZONE-PROGRAM (R118). -/
def execZoneProgram (f : Frame) (s : State) : Host.Outcome State Fault Refusal := execFrame 0x25 opZoneProgram f s

/-- ZONE-REPORT (R122). -/
def execZoneReport (f : Frame) (s : State) : Host.Outcome State Fault Refusal := execFrame 0x26 opZoneReport f s

/-- PAGE-OPEN (R80). -/
def execPageOpen (f : Frame) (s : State) : Host.Outcome State Fault Refusal := execFrame 0x30 opPageOpen f s

/-- PAGE-DATA (R81). -/
def execPageData (f : Frame) (s : State) : Host.Outcome State Fault Refusal := execFrame 0x31 opPageData f s

/-- PAGE-CLOSE (R84). -/
def execPageClose (f : Frame) (s : State) : Host.Outcome State Fault Refusal := execFrame 0x32 opPageClose f s

/-- PAGE-FREE (R87). -/
def execPageFree (f : Frame) (s : State) : Host.Outcome State Fault Refusal := execFrame 0x33 opPageFree f s

/-- PAGE-LIST (R89). -/
def execPageList (f : Frame) (s : State) : Host.Outcome State Fault Refusal := execFrame 0x34 opPageList f s

/-- PROGRAM-DEFINE (R91). -/
def execProgramDefine (f : Frame) (s : State) : Host.Outcome State Fault Refusal := execFrame 0x38 opProgramDefine f s

/-- PROGRAM-DELETE (R93). -/
def execProgramDelete (f : Frame) (s : State) : Host.Outcome State Fault Refusal := execFrame 0x39 opProgramDelete f s

/-- PROGRAM-LIST (R94). -/
def execProgramList (f : Frame) (s : State) : Host.Outcome State Fault Refusal := execFrame 0x3A opProgramList f s

/-- SOCKET-RETIRE (R158). -/
def execSocketRetire (f : Frame) (s : State) : Host.Outcome State Fault Refusal := execFrame 0x40 opSocketRetire f s

/-- SOCKET-REPORT (R167). -/
def execSocketReport (f : Frame) (s : State) : Host.Outcome State Fault Refusal := execFrame 0x41 opSocketReport f s

/-- FAIL-LOG (R168). -/
def execFailLog (f : Frame) (s : State) : Host.Outcome State Fault Refusal := execFrame 0x42 opFailLog f s

/-- UNKNOWN_KIND: an addressed frame whose kind names no request (R174). -/
def execUnknownKind (kind : Byte) (f : Frame) (s : State) : Host.Outcome State Fault Refusal :=
  execFrame kind (kindOp kind) f s

/-- FRAME_DISCARD: a completed frame that R172 or R173 discards. -/
def execFrameDiscard (kind : Byte) (f : Frame) (s : State) : Host.Outcome State Fault Refusal :=
  execFrame kind (kindOp kind) f s

/-! ## Events of the line -/

/-- A frame in progress is abandoned: the receiver returns to HUNT (R171). -/
def abandonFrame (s : State) : State := if s.link.isOpen then modLink Link.hunt s else s

/-- FRAME_ABANDON: a framing error or an impossible length (R171). -/
def execFrameAbandon (s : State) : Host.Outcome State Fault Refusal := .next (abandonFrame s)

/-- FRAME_GAP_EXPIRY: more than two character times of silence in a frame (R171). -/
def execFrameGapExpiry (s : State) : Host.Outcome State Fault Refusal := .next (abandonFrame s)

/-- REPLY_BEGIN: a PENDING reply starts to be sent (R176). -/
def execReplyBegin (s : State) : Host.Outcome State Fault Refusal :=
  .next (if s.link.replyState = .pending then modLink (fun l => { l with replyState := .sending }) s else s)

/-- REPLY_END: the driver is released, the reply buffer empties, the receiver is in HUNT (R176). -/
def execReplyEnd (s : State) : Host.Outcome State Fault Refusal :=
  .next (if s.link.replyState = .sending then
      modLink (fun l => { l.hunt with reply := none, replyState := .none }) s
    else s)

/-- REPLY_ABANDON: a start bit abandons a PENDING reply (R177). -/
def execReplyAbandon (s : State) : Host.Outcome State Fault Refusal := .next (modLink Link.dropPending s)

/-! ## Characters (R171) -/

/-- The frame in a complete receive buffer: address, kind, tag, length, payload and CRC. -/
def frameOf (buf : List Byte) : Frame :=
  { addr := buf.getD 0 0, tag := buf.getD 2 0, payload := (buf.drop 4).dropLast.dropLast,
    crc := BitVec.ofNat 16 (u16At buf (buf.length - 2)) }

/-- Whether the receiver, after a character, has a frame complete in its buffer. -/
structure Received where
  link     : Link
  complete : Bool
  deriving DecidableEq, Repr

/-- The receiver's move at a character without a framing error (R171). -/
def Link.receive (ch : Byte) (l : Link) : Received :=
  let buf := l.rxBuf ++ [ch]
  let len := (buf.getD 3 0).toNat
  match l.rx with
  | .hunt => if ch = 0xC3 then ⟨{ l with rx := .header, rxBuf := [] }, false⟩ else ⟨l, false⟩
  | .header =>
    if buf.length < 4 then ⟨{ l with rxBuf := buf }, false⟩
    else if 250 < len then ⟨l.hunt, false⟩
    else ⟨{ l with rx := if len = 0 then .check else .payload, rxBuf := buf }, false⟩
  | .payload => ⟨{ l with rx := if buf.length < 4 + len then .payload else .check, rxBuf := buf }, false⟩
  | .check => if buf.length < 6 + len then ⟨{ l with rxBuf := buf }, false⟩ else ⟨{ l with rxBuf := buf }, true⟩

/-- A character taken from the line (R171, R177): a framing error abandons the frame in progress; the last CRC
character completes the frame, which is judged. -/
def takeCharacter (ch : Byte) (framingError : Bool) (s : State) : State :=
  if s.link.isOpen then
    let s := modLink Link.dropPending s
    if framingError then modLink Link.hunt s
    else
      let r := s.link.receive ch
      if r.complete then
        let kind := r.link.rxBuf.getD 1 0
        judged kind (kindOp kind) (frameOf r.link.rxBuf) (modLink Link.hunt s)
      else { s with link := r.link }
  else s

/-- LINE_CHARACTER (R171). -/
def execLineCharacter (ch : Byte) (framingError : Bool) (s : State) : Host.Outcome State Fault Refusal :=
  .next (takeCharacter ch framingError s)

end Sys2Proof.Machine
end

