-- ==== Sys2Proof/Machine/Pins.lean ====
section
/-! DEFINITION. The levels of the output pins, as functions of the state (00 §0.4). DRIVE is the stored word of a zone's
sequencer. -/

namespace Sys2Proof.Machine

/-- What a rail switch does. -/
inductive Switch where
  | opened
  | limited (mA : Nat)
  | closed
  deriving DecidableEq, Repr

/-- RAILEN of a socket (02 §2.5): the limits are those of the zone's profile, none when I2 is 0. -/
def railen (s : State) (i : SocketId) : Switch :=
  match (s.sock i).rail.state, (s.zone (zoneOf i)).railProf with
  | .ramp1, some p => .limited p.i1
  | .ramp2, some p => if p.i2 = 0 then .closed else .limited p.i2
  | .on, _ => .closed
  | _, _ => .opened

/-- HEAT of a socket: its duty in permille (R64). -/
def heat (s : State) (i : SocketId) : Nat := (s.sock i).therm.duty

/-- DRIVE of a zone (R101). -/
def drive (s : State) (z : ZoneId) : BitVec 16 := (s.zone z).seq.drive

/-- DUT-RESET of a socket is asserted (R137). -/
def dutReset (s : State) (i : SocketId) : Bool := (s.sock i).live.state == .resetHeld

/-- ATTENTION is asserted: the urgent lane is not empty, and RESETN is not asserted (R184). -/
def attention (s : State) : Bool := !s.notices.urgent.isEmpty && !s.link.inReset

/-- The line driver is enabled: only while a reply is SENDING (R170). -/
def driverEnable (s : State) : Bool := s.link.replyState == .sending

/-- The bytes that the driver puts on the line: those of the reply that is SENDING (R176, R186). -/
def lineSent (s : State) : List Byte :=
  if driverEnable s then (s.link.reply.map Reply.wire).getD [] else []

end Sys2Proof.Machine
end

