-- ==== Sys2Proof/Machine/Dispatch.lean ====
section
/-! DEFINITION. What each command does: one arm per constructor, each one call of the command's meaning. -/

namespace Sys2Proof.Machine

/-- The effect of a command on everything but the queue. -/
def exec (i : Instr) (s : State) : Host.Outcome State Fault Refusal :=
  match i with
  | .powerOn slot rate => Sys2Proof.Machine.execPowerOn slot rate s
  | .resetn => Sys2Proof.Machine.execResetn s
  | .resetnRelease slot rate => Sys2Proof.Machine.execResetnRelease slot rate s
  | .ident f => Sys2Proof.Machine.execIdent f s
  | .collect f => Sys2Proof.Machine.execCollect f s
  | .boardSetup f => Sys2Proof.Machine.execBoardSetup f s
  | .boardResetRun f => Sys2Proof.Machine.execBoardResetRun f s
  | .boardResetFull f slot rate => Sys2Proof.Machine.execBoardResetFull f slot rate s
  | .runDefine f => Sys2Proof.Machine.execRunDefine f s
  | .runStart f => Sys2Proof.Machine.execRunStart f s
  | .runPause f => Sys2Proof.Machine.execRunPause f s
  | .runResume f => Sys2Proof.Machine.execRunResume f s
  | .runAbort f => Sys2Proof.Machine.execRunAbort f s
  | .runClear f => Sys2Proof.Machine.execRunClear f s
  | .runReport f => Sys2Proof.Machine.execRunReport f s
  | .zoneRail f => Sys2Proof.Machine.execZoneRail f s
  | .zoneThermal f => Sys2Proof.Machine.execZoneThermal f s
  | .socketThermal f => Sys2Proof.Machine.execSocketThermal f s
  | .setpoint f => Sys2Proof.Machine.execSetpoint f s
  | .zoneBudget f => Sys2Proof.Machine.execZoneBudget f s
  | .zoneProgram f => Sys2Proof.Machine.execZoneProgram f s
  | .zoneReport f => Sys2Proof.Machine.execZoneReport f s
  | .pageOpen f => Sys2Proof.Machine.execPageOpen f s
  | .pageData f => Sys2Proof.Machine.execPageData f s
  | .pageClose f => Sys2Proof.Machine.execPageClose f s
  | .pageFree f => Sys2Proof.Machine.execPageFree f s
  | .pageList f => Sys2Proof.Machine.execPageList f s
  | .programDefine f => Sys2Proof.Machine.execProgramDefine f s
  | .programDelete f => Sys2Proof.Machine.execProgramDelete f s
  | .programList f => Sys2Proof.Machine.execProgramList f s
  | .socketRetire f => Sys2Proof.Machine.execSocketRetire f s
  | .socketReport f => Sys2Proof.Machine.execSocketReport f s
  | .failLog f => Sys2Proof.Machine.execFailLog f s
  | .unknownKind kind f => Sys2Proof.Machine.execUnknownKind kind f s
  | .frameDiscard kind f => Sys2Proof.Machine.execFrameDiscard kind f s
  | .frameAbandon => Sys2Proof.Machine.execFrameAbandon s
  | .frameGapExpiry => Sys2Proof.Machine.execFrameGapExpiry s
  | .replyBegin => Sys2Proof.Machine.execReplyBegin s
  | .replyEnd => Sys2Proof.Machine.execReplyEnd s
  | .replyAbandon => Sys2Proof.Machine.execReplyAbandon s
  | .ovenPermitEdge => Sys2Proof.Machine.execOvenPermitEdge s
  | .permitTimerExpiry => Sys2Proof.Machine.execPermitTimerExpiry s
  | .railSample sk mA mV => Sys2Proof.Machine.execRailSample sk mA mV s
  | .phase1TimerExpiry sk => Sys2Proof.Machine.execPhase1TimerExpiry sk s
  | .rampTimeout sk => Sys2Proof.Machine.execRampTimeout sk s
  | .stableTimerExpiry sk => Sys2Proof.Machine.execStableTimerExpiry sk s
  | .offTimeExpiry sk => Sys2Proof.Machine.execOffTimeExpiry sk s
  | .sensorRequest sk => Sys2Proof.Machine.execSensorRequest sk s
  | .sensorAnswer sk reading => Sys2Proof.Machine.execSensorAnswer sk reading s
  | .sensorTimeout sk => Sys2Proof.Machine.execSensorTimeout sk s
  | .stagingWriteDone => Sys2Proof.Machine.execStagingWriteDone s
  | .fetchBurstDone wrong => Sys2Proof.Machine.execFetchBurstDone wrong s
  | .vectorPeriodEnd z resp => Sys2Proof.Machine.execVectorPeriodEnd z resp s
  | .gapTimerExpiry z => Sys2Proof.Machine.execGapTimerExpiry z s
  | .heartbeatEdge sk atMs => Sys2Proof.Machine.execHeartbeatEdge sk atMs s
  | .resetHeldExpiry sk => Sys2Proof.Machine.execResetHeldExpiry sk s
  | .ignoreExpiry sk => Sys2Proof.Machine.execIgnoreExpiry sk s
  | .heartbeatLate sk => Sys2Proof.Machine.execHeartbeatLate sk s
  | .accountingTimerExpiry => Sys2Proof.Machine.execAccountingTimerExpiry s
  | .lineCharacter ch framingError => Sys2Proof.Machine.execLineCharacter ch framingError s

end Sys2Proof.Machine
end

