-- ==== Sys2Proof/Machine/Step.lean ====
section
/-! DEFINITION. One step of the block: the command at the front of the queue, or one cycle of the 50 MHz clock. -/

namespace Sys2Proof.Machine

/-- One cycle of CLK50 passes with no command (DESIGN CHOICE, log entry 1). -/
def idleTick (s : State) : State := { s with now := s.now + 1 }

/-- One step: the front command with the queue's rest; an empty queue idles for one cycle. -/
def step (s : State) : Host.Outcome State Fault Refusal :=
  match s.pending with
  | [] => .next (idleTick s)
  | c :: rest => exec c { s with pending := rest }

/-- The state with the command a word spells put at the front of its queue. -/
def State.withFetchWord (s : State) (nbits w : Nat) : State :=
  match decodeTableWord nbits w with
  | some c => { s with pending := c :: s.pending }
  | none => s

end Sys2Proof.Machine
end

