-- ==== Sys2Proof/Safety.lean ====
section
/-! DEFINITION. What claims about the block speak of: the twelve laws of 00 §0.8, the invariants that carry them from step
to step, and the events of the line that let a request be taken. -/

namespace Sys2Proof.Safety

open Sys2Proof.Machine

/-! ## Rails: laws 1 to 3 -/

/-- Law 1 (R33): in every zone at most two sockets are ramping. -/
def Law1 (s : State) : Prop := ∀ z : ZoneId, (s.slotHolders z).length ≤ 2

/-- Law 2 (R32): a zone's ramp queue holds each socket at most once, and exactly its QUEUED sockets. -/
def Law2 (s : State) : Prop := ∀ z : ZoneId, (s.zone z).rampQueue.Nodup ∧
  ∀ i : SocketId, i ∈ (s.zone z).rampQueue ↔ zoneOf i = z ∧ (s.sock i).rail.state = .queued

/-- The rail is OFF or in REST. -/
def RailDown (s : State) (i : SocketId) : Prop := (s.sock i).rail.state = .off ∨ (s.sock i).rail.state = .rest

/-- Law 3 (R30): a socket whose inhibit set is not empty has its rail in OFF or REST. -/
def Law3 (s : State) : Prop := ∀ i : SocketId, (s.sock i).rail.inhibit.isEmpty = false → RailDown s i

/-- Laws 1 to 3 together, which every step keeps. -/
def RailLaws (s : State) : Prop := Law1 s ∧ Law2 s ∧ Law3 s

/-- The rail is QUEUED, ramping or ON. -/
def RailUp (s : State) (i : SocketId) : Prop := ¬ RailDown s i

/-- The rail waits for a ramp slot or holds one. -/
def RailRises (s : State) (i : SocketId) : Prop :=
  (s.sock i).rail.state = .queued ∨ (s.sock i).rail.state = .ramp1 ∨ (s.sock i).rail.state = .ramp2

/-- Each rail timer runs in its states alone: phase-1 in RAMP-1, the ramp timeout while a slot is held, the stable timer
in ON, the off-time in OFF and REST; REST always has it (R34 to R36, R39, R42). -/
def RailTimersFit (r : Rail) : Prop :=
  (r.phase1Timer.isSome = true ↔ r.state = .ramp1) ∧ (r.rampTimer.isSome = true ↔ r.state = .ramp1 ∨ r.state = .ramp2) ∧
  (r.stableTimer.isSome = true → r.state = .on) ∧ (r.offTimer.isSome = true → r.state = .off ∨ r.state = .rest) ∧
  (r.state = .rest → r.offTimer.isSome = true)

/-- What carries the demand of the rails: laws 1 to 3, the timers in their states, RUN in the set of every socket not
declared in a started run (02 §2.3), no rail OFF whose set is empty (R29), and no free slot where a socket of a zone with
a profile waits (R33). -/
def RailInv (s : State) : Prop := RailLaws s ∧
  (∀ i : SocketId, RailTimersFit (s.sock i).rail ∧
    (s.started = false ∨ s.declared i = false → (s.sock i).rail.inhibit.run = true) ∧
    ((s.sock i).rail.inhibit.isEmpty = true → (s.sock i).rail.state ≠ .off)) ∧
  ∀ z : ZoneId, (s.zone z).railProf.isSome = true → (s.zone z).rampQueue ≠ [] → (s.slotHolders z).length = 2

/-- The off-time as it stands when it starts at the time of `t` (R42). -/
def OffTimeStarted (t : State) (i : SocketId) : Prop :=
  (t.sock i).rail.offTimer = match (t.zone (zoneOf i)).railProf with
    | none => none
    | some p => if offTimeMs p.offCode = 0 then none else some (t.now + offTimeMs p.offCode * 50000)

/-- What a change of its inhibit set does to a rail between `s` and `t`. A set left empty demands: from OFF into the
queue or, with the off-time running, into REST (R29). An added cause takes an upper rail to OFF, its switch open, its
figure 0 and the off-time started, and leaves OFF as it is (R30, R42). REST stays with its timer, and a rail with no
cause stays up: ON, or with its slot, or in the queue until a slot comes (R29, R30, R33). -/
def RailFollowsSet (i : SocketId) (s t : State) : Prop :=
  let r := (s.sock i).rail
  let r' := (t.sock i).rail
  (r.state = .off → r'.inhibit.isEmpty = true → r.offTimer = none → RailRises t i) ∧
  (r.state = .off → r'.inhibit.isEmpty = true → r.offTimer.isSome = true →
    r'.state = .rest ∧ r'.offTimer = r.offTimer) ∧
  (r.state = .off → r'.inhibit.isEmpty = false → r'.state = .off ∧ r'.offTimer = r.offTimer) ∧
  (r.state = .rest → r'.state = .rest ∧ r'.offTimer = r.offTimer) ∧
  (RailUp s i → r'.inhibit.isEmpty = false → r'.state = .off ∧ (r.state = .on → r'.power = 0) ∧ OffTimeStarted t i) ∧
  (r'.inhibit.isEmpty = true → (r.state = .queued → RailRises t i) ∧ (r.state = .on → r'.state = .on) ∧
    (r.state = .ramp1 ∨ r.state = .ramp2 → (r'.state = .ramp1 ∨ r'.state = .ramp2) ∧ r'.rampTimer = r.rampTimer))

/-- The socket joined its zone's ramp queue between `s` and `t`: it waits or ramps and did neither before, or it ramps
anew or waits after a ramp that a trip with no off-time ended (R29, R32, R42). -/
def Joins (s t : State) (i : SocketId) : Prop :=
  RailRises t i ∧ (s.sock i).rail.state ≠ .queued ∧
  ((s.sock i).rail.state = .ramp1 ∨ (s.sock i).rail.state = .ramp2 →
    (t.sock i).rail.state = .queued ∨ (t.sock i).rail.rampTimer ≠ (s.sock i).rail.rampTimer)

/-- How a zone's ramp queue moves between `s` and `t`: sockets whose set is not empty any more leave it from any place,
those that start to demand join the tail in ascending number, and the head is granted slots and begins its ramp, in RAMP-1
or, with I1 at 0, in RAMP-2 (R30, R32 to R34). -/
def QueueMoves (z : ZoneId) (s t : State) : Prop :=
  ∃ joined : List SocketId, joined.Pairwise (· < ·) ∧
    (∀ i, i ∈ joined ↔ zoneOf i = z ∧ Joins s t i) ∧
    let line := (s.zone z).rampQueue.filter (fun i => (t.sock i).rail.inhibit.isEmpty) ++ joined
    ∃ n, (t.zone z).rampQueue = line.drop n ∧ ∀ i ∈ line.take n, ∀ p, (t.zone z).railProf = some p →
      let r := (t.sock i).rail
      r.rampTimer = some (t.now + p.rampMs * 50000) ∧
        if p.i1 = 0 then r.state = .ramp2 else r.state = .ramp1 ∧ r.phase1Timer = some (t.now + p.t1 * 50000)

/-- The commands that reset the board: power-on, RESETN, every row whose frame is of kind BOARD-RESET, since a row is
judged by its frame (log entry 27), and a character, which may end such a frame. -/
def mayReset : Instr → Bool
  | .powerOn _ _ | .resetn | .boardResetRun _ | .boardResetFull _ _ _ | .lineCharacter _ _ => true
  | .unknownKind kind _ | .frameDiscard kind _ => kind == 0x04
  | _ => false

/-- The events of the socket's own rail that move it though its set stands: a sample, which may trip it or enter ON, the
ramp timeout and the off-time (R35 to R38, R42). -/
def movesRail (i : SocketId) (c : Instr) : Bool :=
  match c with
  | .railSample j _ _ | .rampTimeout j | .offTimeExpiry j => j == i
  | _ => false

/-! ## Heat: laws 4 and 5 -/

/-- Law 4 (R73): the heater grants of a zone do not exceed its budget. -/
def Law4 (s : State) : Prop := ∀ z : ZoneId, s.grantSum z ≤ (s.zone z).budget

/-- Law 5 (R64) with its grant: no duty and no grant outside APPROACH, INBAND and OUTBAND. -/
def Law5 (s : State) : Prop := ∀ i : SocketId, (s.sock i).therm.state.control = false →
  (s.sock i).therm.duty = 0 ∧ (s.sock i).therm.grant = 0

/-! ## The run (01 §1.4) -/

/-- The table of 01 §1.4: the record, the hold causes, the clock and the accounting timer that each run state has. -/
def RunTable (s : State) : Prop :=
  (s.run.record.isSome = true ↔ s.run.state ≠ .idle) ∧
  (s.run.state = .held ↔ s.run.holds.host = true ∨ s.run.holds.permit = true) ∧
  (s.run.acctTimer.isSome = true ↔ s.started = true) ∧
  (s.run.state = .idle ∨ s.run.state = .ready → s.run.clock = 0)

/-- Before a run starts no socket is final or STRESSING (R2). -/
def FreshLives (s : State) : Prop := s.run.state = .idle ∨ s.run.state = .ready →
  ∀ i : SocketId, (s.sock i).life = .empty ∨ (s.sock i).life = .waiting

/-! ## Accounts: laws 6, 7, 8 and 11 -/

/-- Law 6 (R162): credited seconds exceed neither the run clock nor the stress target. -/
def Law6 (s : State) : Prop := ∀ i : SocketId, (s.sock i).acct.credit ≤ s.run.clock ∧
  ∀ r, s.run.record = some r → (s.sock i).acct.credit ≤ r.target

/-- What carries law 6: targets are in range, a STRESSING socket is short of the target, and credits start at 0. -/
def CreditInv (s : State) : Prop := Law6 s ∧
  (∀ r, s.run.record = some r → 60 ≤ r.target ∧ r.target ≤ 4000000 ∧
    ∀ i : SocketId, (s.sock i).life = .stressing → (s.sock i).acct.credit < r.target) ∧
  (s.run.state = .idle ∨ s.run.state = .ready → ∀ i : SocketId, (s.sock i).acct.credit = 0) ∧
  (s.started = true → s.run.record.isSome = true)

/-- Law 7 (R155): a fail log holds at most six records and no more than the fail total counts. -/
def Law7 (s : State) : Prop := ∀ i : SocketId, (s.sock i).acct.log.length ≤ 6 ∧
  (s.sock i).acct.log.length ≤ (s.sock i).acct.total

/-- The first half of law 8 (R159): a final socket's rail is down and its heater off. -/
def Law8 (s : State) : Prop := ∀ i : SocketId, (s.sock i).life.final = true →
  RailDown s i ∧ (s.sock i).therm.duty = 0

/-- What carries law 8: a final socket carries FINAL and its thermal state is OFF. -/
def FinalInv (s : State) : Prop := RailLaws s ∧ Law5 s ∧ FreshLives s ∧
  ∀ i : SocketId, (s.sock i).life.final = true →
    (s.sock i).rail.inhibit.final = true ∧ (s.sock i).therm.state = .off

/-- Law 11 (R156): a socket whose counted fails have reached the retire limit is RETIRED. -/
def Law11 (s : State) : Prop := ∀ r, s.run.record = some r → ∀ i : SocketId,
  r.retireLimit ≤ (s.sock i).acct.counted → (s.sock i).life = .retired

/-- What carries law 11: the limit is at least 1, and counts start at 0. -/
def LimitInv (s : State) : Prop := Law11 s ∧
  (∀ r, s.run.record = some r → 1 ≤ r.retireLimit) ∧
  (s.run.state = .idle ∨ s.run.state = .ready → ∀ i : SocketId, (s.sock i).acct.counted = 0)

/-! ## The permit hold (R13) -/

/-- While PERMIT holds the run, every STRESSING socket carries PERMIT and is out of thermal control (R13, R58). -/
def PermitInv (s : State) : Prop := RailLaws s ∧ Law5 s ∧ RunTable s ∧
  (s.run.holds.permit = true → ∀ i : SocketId, (s.sock i).life = .stressing →
    (s.sock i).rail.inhibit.permit = true ∧ (s.sock i).therm.state.control = false)

/-! ## Trips: law 12 -/

/-- Law 12 (R65): a socket whose last reading is at or above its zone's trip limit has no heat and no power. -/
def Law12 (s : State) : Prop := ∀ i : SocketId, s.hot i = true → RailDown s i ∧ (s.sock i).therm.duty = 0

/-- The causes that stand for a thermal state that is not under control: THERMAL, SENSOR, and FINAL or RUN (R65). -/
def CausesStand (s : State) (i : SocketId) : Prop :=
  ((s.sock i).therm.state = .tripped → (s.sock i).rail.inhibit.thermal = true) ∧
  ((s.sock i).therm.state = .sensorFault → (s.sock i).rail.inhibit.sensor = true) ∧
  ((s.sock i).therm.state = .off → (s.sock i).rail.inhibit.run = true ∨ (s.sock i).rail.inhibit.final = true) ∧
  (s.started = false ∨ s.declared i = false → (s.sock i).rail.inhibit.run = true ∧ (s.sock i).therm.state = .off)

/-- What carries law 12. -/
def TripInv (s : State) : Prop := RailLaws s ∧ Law5 s ∧ ∀ i : SocketId, CausesStand s i ∧
  (s.hot i = true → (s.sock i).therm.state.control = false ∧ (s.sock i).therm.state ≠ .held)

/-! ## The pattern store: law 9 -/

/-- How many entries of the page lists of the defined programs name the page (R88). -/
def namedCount (s : State) (pg : PageId) : Nat :=
  ((List.finRange 16).map fun k => timesNamed (s.slotPages k) pg).sum

/-- Law 9, first half (R88): reference counts are exact, and every named page is SEALED. -/
def Law9 (s : State) : Prop := ∀ pg : PageId, (s.page pg).refs = namedCount s pg ∧
  (0 < namedCount s pg → (s.page pg).state = .sealed)

/-- A staged chunk is for an OPEN page and fits it (R81, R83). -/
def StagingFits (s : State) : Prop := ∀ c, s.store.staging = some c →
  (s.page c.page).state = .opened ∧ c.first + c.vecs.length ≤ 512

/-- Law 9 with what carries it, and the cursors' range. -/
def StoreInv (s : State) : Prop := Law9 s ∧ StagingFits s ∧ ∀ pg : PageId, (s.page pg).cursor ≤ 512

/-- The pattern memory is in its canonical form. -/
def MemoryWf (s : State) : Prop := Memory.wf s.store.mem = true

/-- The vector at an index carries a flag. -/
def flagAt (p : Vec → Bool) (vs : List Vec) (i : Nat) : Bool := ((vs[i]?).map p).getD false

/-- Some vector up to and without an index carries a flag. -/
def flagBefore (p : Vec → Bool) (vs : List Vec) (i : Nat) : Prop := ∃ j < i, flagAt p vs j = true

/-- The flag structure of R85. -/
def FlagsCorrect (vs : List Vec) : Prop :=
  (∀ p ∈ [Vec.loopMark, Vec.loopBack, Vec.last], ∀ i < vs.length, ∀ j < vs.length,
    flagAt p vs i = true → flagAt p vs j = true → i = j) ∧
  (flagBefore Vec.loopMark vs vs.length ↔ flagBefore Vec.loopBack vs vs.length) ∧
  (∀ i < vs.length, ∀ j < vs.length, flagAt Vec.loopMark vs i = true → flagAt Vec.loopBack vs j = true → i < j) ∧
  (∀ i < vs.length, ∀ j < vs.length, flagAt Vec.last vs i = true → flagAt Vec.loopBack vs j = true → j ≤ i)

/-- The scan of R85 fails at an index; a LOOP-MARK stands from its own vector on (DESIGN CHOICE, log entry 39). -/
def ScanFailsAt (vs : List Vec) (i : Nat) : Prop :=
  (∃ p ∈ [Vec.loopMark, Vec.loopBack, Vec.last], flagAt p vs i = true ∧ flagBefore p vs i) ∨
  (flagAt Vec.loopBack vs i = true ∧ ¬ flagBefore Vec.loopMark vs i) ∨
  (flagAt Vec.last vs i = true ∧ flagBefore Vec.loopMark vs (i + 1) ∧ ¬ flagBefore Vec.loopBack vs (i + 1)) ∨
  ((flagAt Vec.loopMark vs i = true ∨ flagAt Vec.loopBack vs i = true) ∧ flagBefore Vec.last vs i)

/-! ## The port and the sequencers -/

/-- The port and its requesters agree: an idle port leaves no request waiting, and a transfer has its requester (R95). -/
def PortInv (s : State) : Prop :=
  (s.store.port = none → s.store.staging = none ∧ ∀ z : ZoneId, (s.zone z).seq.fetch = none) ∧
  (s.store.port = some .staging → s.store.staging.isSome = true) ∧
  (∀ z : ZoneId, s.store.port = some (.burst z) → (s.zone z).seq.fetch.isSome = true) ∧
  (∀ z : ZoneId, (s.zone z).seq.state = .idle ∨ (s.zone z).seq.state = .static ∨ (s.zone z).seq.state = .done →
    (s.zone z).seq.fetch = none) ∧
  (s.started = false → ∀ z : ZoneId, (s.zone z).seq.state = .idle)

/-- A buffer is full. -/
def isFull : Buffer → Bool
  | .full _ _ => true
  | _ => false

/-- In PLAYING and STALLED the playing buffer is full; a fetch fills the other one, which is not (R105, R110). -/
def SeqInv (s : State) : Prop := ∀ z : ZoneId,
  ((s.zone z).seq.state.inPass = true → isFull ((s.zone z).seq.buf (s.zone z).seq.play.buf) = true) ∧
  ∀ f, (s.zone z).seq.fetch = some f →
    f.target = (s.zone z).seq.play.buf.other ∧ isFull ((s.zone z).seq.buf f.target) = false

/-! ## The link and the notices: law 10 -/

/-- Law 10 (R184): the lanes keep to their capacities, and ATTENTION is asserted exactly while the urgent lane is not
empty and RESETN is not asserted. -/
def Law10 (s : State) : Prop := s.notices.urgent.length ≤ 16 ∧ s.notices.routine.length ≤ 32 ∧
  (attention s = true ↔ s.notices.urgent ≠ [] ∧ s.link.inReset = false)

/-- The receiver's buffer fits its state (R171), and a reply stands exactly while one is PENDING or SENDING (R176). -/
def LinkInv (s : State) : Prop :=
  let l := s.link
  let len := (l.rxBuf.getD 3 0).toNat
  (l.rx = .hunt → l.rxBuf = []) ∧
  (l.rx = .header → l.rxBuf.length < 4) ∧
  (l.rx = .payload → 4 ≤ l.rxBuf.length ∧ l.rxBuf.length < 4 + len ∧ len ≤ 250) ∧
  (l.rx = .check → 4 + len ≤ l.rxBuf.length ∧ l.rxBuf.length < 6 + len ∧ len ≤ 250) ∧
  (l.reply.isSome = true ↔ l.replyState ≠ .none) ∧
  (l.inReset = true → l.rx = .hunt ∧ l.replyState = .none) ∧
  l.rate ≠ 3

/-- Every reply fits a frame (R176), with what bounds the data of the reports. -/
def ReplyInv (s : State) : Prop := Law7 s ∧
  (∀ r, s.run.record = some r → r.label.length ≤ 16) ∧
  (∀ k d, s.program k = some d → d.pages.length ≤ 32) ∧
  ∀ r, s.link.reply = some r → 1 ≤ r.payload.length ∧ r.payload.length ≤ 250 ∧
    r.crc = crcOf (replyCovered r.addr r.kind r.tag r.payload)

/-! ## Fail records and trips -/

/-- The accounts after an accepted record of a kind that counts: total, log and counted fails (R154, R155). -/
def counted (a : Accounts) (r : FailRec) : Accounts :=
  { a with total := min 65535 (a.total + 1), log := a.log.take 5 ++ [r], counted := a.counted + 1 }

/-- The record of a fail at arrival, under its pass number and disposition (R152). -/
def recordOf (s : State) (i : SocketId) (k : FailKind) (pass : Option Nat) (d : Disp) (detail : Detail) : FailRec :=
  { kind := k, clock := s.run.clock, credit := (s.sock i).acct.credit, pass := pass, disp := d, detail := detail }

/-- The socket's fails are taken: the run has started and it is STRESSING (R153). -/
def taking (s : State) (i : SocketId) : Bool :=
  (s.run.state == .active || s.run.state == .held) && (s.sock i).life == .stressing

/-- The next counted fail of the socket reaches the retire limit (R156). -/
def nextIsLast (s : State) (i : SocketId) : Bool :=
  (s.run.record.map fun r => (s.sock i).acct.counted + 1 == r.retireLimit).getD false

/-- What a rail trip under profile `p` leaves, `s` being the state in which it was judged (R40 to R42, R154, R156). -/
def Tripped (p : RailProfile) (i : SocketId) (kind : FailKind) (current : Nat) (s t : State) : Prop :=
  let r := (s.sock i).rail
  let trips := min 16 (r.trips + 1)
  let disp := s.disposition kind
  let fail := recordOf s i kind (s.passStamp (zoneOf i)) disp (.rail current r.state)
  let final := disp == .retire || nextIsLast s i
  (t.sock i).rail.trips = trips ∧ (t.sock i).rail.stableTimer = none ∧
  (r.state = .on → (t.sock i).rail.power = 0 ∧ (t.sock i).live.state = .idle ∧ (t.sock i).pass.checked = false) ∧
  (offTimeMs p.offCode ≠ 0 → (t.sock i).rail.state = .rest ∧ (t.sock i).rail.phase1Timer = none ∧
    (t.sock i).rail.rampTimer = none ∧ (t.sock i).rail.offTimer = some (s.now + offTimeMs p.offCode * 50000)) ∧
  (offTimeMs p.offCode = 0 → (t.sock i).rail.offTimer = none ∧
    if (t.sock i).rail.inhibit.isEmpty then RailRises t i else (t.sock i).rail.state = .off) ∧
  (taking s i = false → (t.sock i).acct = (s.sock i).acct ∧ (t.sock i).life = (s.sock i).life) ∧
  (taking s i = true → trips ≤ p.retryLimit →
    (t.sock i).acct = (if final then
        { counted (s.sock i).acct fail with deciding := some ⟨kind, min 6 ((s.sock i).acct.log.length + 1)⟩, byHost := false }
      else counted (s.sock i).acct fail) ∧
    (t.sock i).life = (if final then .retired else .stressing)) ∧
  (taking s i = true → p.retryLimit < trips → (t.sock i).life = .retired ∧ (t.sock i).rail.inhibit.final = true ∧
    (t.sock i).acct.byHost = false ∧
    (t.sock i).acct.deciding.map (·.kind) = some (if final then kind else .railExhausted)) ∧
  (∀ j, j ≠ i → (t.sock j).life = (s.sock j).life ∧ (t.sock j).acct = (s.sock j).acct) ∧
  t.store.mem = s.store.mem ∧ t.store.pages = s.store.pages ∧ t.store.programs = s.store.programs ∧ t.link = s.link ∧
  t.straps = s.straps ∧ t.now = s.now ∧ t.freeDraws = s.freeDraws ∧ t.pending = s.pending

/-! ## Requests on the line -/

/-- The frame comes whole over an open line, its CRC right and its payload within 250 bytes (R171, R172). -/
def Clean (kind : Byte) (f : Frame) (s : State) : Prop :=
  s.link.inReset = false ∧ s.link.replyState ≠ .sending ∧ f.payload.length ≤ 250 ∧ crcOf (frameCovered kind f) = f.crc

/-- The frame is an addressed request to this board (R172 step 4). -/
def Addressed (kind : Byte) (f : Frame) (s : State) : Prop :=
  Clean kind f s ∧ f.addr = s.link.slot.zeroExtend 8 ∧ s.link.slot ≠ 0

/-- The codes of 11 §11.2 that the reports and records carry, each list in the order of its code. -/
def CodesAreThoseOfTheTable : Prop :=
  [RunState.idle, .ready, .active, .held, .finished, .aborted].map RunState.code = [0, 1, 2, 3, 4, 5] ∧
  (∀ h : Holds, h.code = (if h.host then 1 else 0) + (if h.permit then 2 else 0)) ∧
  [Lifecycle.empty, .waiting, .stressing, .complete, .retired].map Lifecycle.code = [0, 1, 2, 3, 4] ∧
  [Bin.empty, .pass, .passRecovered, .failFunction, .failPower, .failThermal, .failHost, .incomplete].map Bin.code =
    [0, 1, 2, 3, 4, 5, 6, 7] ∧
  [RailState.off, .queued, .ramp1, .ramp2, .on, .rest].map RailState.code = [0, 1, 2, 3, 4, 5] ∧
  (∀ h : Inhibit, h.code = (if h.run then 1 else 0) + (if h.permit then 2 else 0) + (if h.cold then 4 else 0) +
    (if h.thermal then 8 else 0) + (if h.sensor then 16 else 0) + (if h.final then 32 else 0)) ∧
  [ThermalState.off, .approach, .inband, .outband, .tripped, .sensorFault, .held].map ThermalState.code =
    [0, 1, 2, 3, 4, 5, 6] ∧
  [Saturation.none, .high, .low].map Saturation.code = [0, 1, 2] ∧
  [HbState.idle, .resetHeld, .ignore, .waitFirst, .watch, .paused].map HbState.code = [0, 1, 2, 3, 4, 5] ∧
  [SeqState.idle, .static, .priming, .playing, .stalled, .gap, .held, .halted, .done].map SeqState.code =
    [0, 1, 2, 3, 4, 5, 6, 7, 8] ∧
  [VoidCause.stall, .hold].map VoidCause.code = [1, 2] ∧ [PageState.free, .opened, .sealed].map PageState.code = [0, 1, 2] ∧
  ProgSel.noProgram.code = 0xFE ∧ (∀ k : ProgId, (ProgSel.slot k).code = BitVec.ofNat 8 k.val) ∧ progCode none = 0xFF ∧
  (∀ e : ProgSel, progCode (some e) = e.code) ∧
  [CheckMode.strobe, .signature, .both].map CheckMode.code = [0, 1, 2] ∧
  [Disp.count, .reset, .retire].map Disp.code = [0, 1, 2] ∧
  [FailKind.strobeMismatch, .signatureMismatch, .heartbeatEarly, .heartbeatLate, .heartbeatExhausted, .railFast,
    .railAverage, .railRamp, .railExhausted, .thermalTrip, .sensorFault].map FailKind.code =
    [1, 2, 3, 4, 5, 6, 7, 8, 9, 10, 11] ∧
  [FailClass.functional, .power, .thermal, .board].map FailClass.code = [0, 1, 2, 3] ∧
  [Status.ok, .clamped, .permitAbsent, .unknownKind, .badLength, .badValue, .wrongState, .busy, .inUse, .notFound,
    .badCheck, .badContent, .notConfigured, .outOfOrder].map Status.code =
    [0, 1, 2, 0x10, 0x11, 0x12, 0x13, 0x14, 0x15, 0x16, 0x17, 0x18, 0x19, 0x1A]

/-- The link port after a request was answered: the receiver in HUNT, the reply PENDING under the board's address with
the request's kind and tag, the status and the data (R176). -/
def answered (kind : Byte) (f : Frame) (st : Status) (data : List Byte) (l : Link) : Link :=
  { l with rx := .hunt, rxBuf := [], reply := some (replyTo l.slot kind f.tag ⟨st, data⟩), replyState := .pending }

/-- The frame is a request that this board takes: addressed to it, or broadcast (R172, R173). -/
def Taken (kind : Byte) (f : Frame) (s : State) : Prop := Addressed kind f s ∨ (Clean kind f s ∧ f.addr = 0)

/-- The link port after a frame that drew no reply: the receiver in HUNT, a PENDING reply abandoned (R171, R177). -/
def unanswered (l : Link) : Link :=
  { l with rx := .hunt, rxBuf := [], reply := if l.replyState = .pending then none else l.reply,
           replyState := if l.replyState = .pending then .none else l.replyState }

/-- The link port after a request was taken: answered, or silent after a broadcast (R173, R176). -/
def afterTaken (kind : Byte) (f : Frame) (st : Status) (data : List Byte) (l : Link) : Link :=
  if f.addr = 0 then unanswered l else answered kind f st data l

/-- The kind code and the frame of a command that arrives as a frame (11 §11.3). -/
def requestOf : Instr → Option (Byte × Frame)
  | .ident f => some (0x01, f)
  | .collect f => some (0x02, f)
  | .boardSetup f => some (0x03, f)
  | .boardResetRun f | .boardResetFull f _ _ => some (0x04, f)
  | .runDefine f => some (0x10, f)
  | .runStart f => some (0x11, f)
  | .runPause f => some (0x12, f)
  | .runResume f => some (0x13, f)
  | .runAbort f => some (0x14, f)
  | .runClear f => some (0x15, f)
  | .runReport f => some (0x16, f)
  | .zoneRail f => some (0x20, f)
  | .zoneThermal f => some (0x21, f)
  | .socketThermal f => some (0x22, f)
  | .setpoint f => some (0x23, f)
  | .zoneBudget f => some (0x24, f)
  | .zoneProgram f => some (0x25, f)
  | .zoneReport f => some (0x26, f)
  | .pageOpen f => some (0x30, f)
  | .pageData f => some (0x31, f)
  | .pageClose f => some (0x32, f)
  | .pageFree f => some (0x33, f)
  | .pageList f => some (0x34, f)
  | .programDefine f => some (0x38, f)
  | .programDelete f => some (0x39, f)
  | .programList f => some (0x3A, f)
  | .socketRetire f => some (0x40, f)
  | .socketReport f => some (0x41, f)
  | .failLog f => some (0x42, f)
  | .unknownKind k f | .frameDiscard k f => some (k, f)
  | .powerOn _ _ | .resetn | .resetnRelease _ _ => none
  | .frameAbandon | .frameGapExpiry | .replyBegin | .replyEnd | .replyAbandon => none
  | .ovenPermitEdge | .permitTimerExpiry => none
  | .railSample _ _ _ | .phase1TimerExpiry _ | .rampTimeout _ | .stableTimerExpiry _ | .offTimeExpiry _ => none
  | .sensorRequest _ | .sensorAnswer _ _ | .sensorTimeout _ => none
  | .stagingWriteDone | .fetchBurstDone _ => none
  | .vectorPeriodEnd _ _ | .gapTimerExpiry _ => none
  | .heartbeatEdge _ _ | .resetHeldExpiry _ | .ignoreExpiry _ | .heartbeatLate _ => none
  | .accountingTimerExpiry | .lineCharacter _ _ => none

/-- An addressed request is refused: the device is as it was, the strap pins apart, and the reply carries the status and
the data that the owning rule names (R175). -/
def Refused (c : Instr) (kind : Byte) (f : Frame) (s : State) (st : Status) (data : List Byte) : Prop :=
  ∃ t, exec c s = .next t ∧ t = { s with link := answered kind f st data s.link, straps := t.straps }

/-- Of a list of conditions, each with its refusal, the first that holds brings its refusal. -/
def FirstRefusal (refused : Status → List Byte → Prop) : List (Prop × Status × List Byte) → Prop
  | [] => True
  | (cond, st, data) :: l => (cond → refused st data) ∧ (¬ cond → FirstRefusal refused l)

/-- The run has started and not ended: ACTIVE or HELD, spelled as a proposition. -/
def Running (s : State) : Prop := s.run.state = .active ∨ s.run.state = .held

/-- The checks of a kind in the order in which they are made, each with its refusal: the length (R174), and then those of
R4, R20, R22, R24, R45, R47, R49, R70, R81, R89, R91, R94, R118, R122, R158, R167, R168 and R182. -/
def checks (kind : Byte) (p : List Byte) (s : State) : List (Prop × Status × List Byte) :=
  let n := u8At p 0
  let m := u8At p 1
  let badLength := fun len : Nat => (p.length ≠ len, Status.badLength, ([] : List Byte))
  let notWhile := fun c : Prop => (c, Status.wrongState, ([] : List Byte))
  let badValue := fun c : Prop => (c, Status.badValue, ([] : List Byte))
  if kind = 0x02 then [badLength 1, badValue (n = 0 ∨ 20 < n)]
  else if kind = 0x03 then [badLength 2, notWhile (Running s)]
  else if kind = 0x04 then [badLength 1, badValue (1 < n)]
  else if kind = 0x10 then
    let declared := BitVec.ofNat 32 (u32At p (1 + n))
    let entry := fun z : ZoneId => u8At p (9 + n + z.val)
    let code := fun k : Nat => u8At p (13 + n + k)
    [badLength (23 + n), notWhile (s.run.state ≠ .idle ∧ s.run.state ≠ .ready),
      badValue (16 < n ∨ (∃ c ∈ (p.drop 1).take n, c.toNat < 0x20 ∨ 0x7E < c.toNat) ∨ declared = 0 ∨
        (∃ z, zoneDeclared declared z = true ∧ 15 < entry z ∧ entry z ≠ 0xFE) ∨ (∃ k < 8, 3 < code k) ∨
        ∃ k < 8, 4 ≤ k ∧ code k = 1),
      (∃ z, zoneDeclared declared z = true ∧ ((s.zone z).railProf = none ∨ (s.zone z).thermProf = none),
        .notConfigured, []),
      (∃ z, zoneDeclared declared z = true ∧ ∃ k : ProgId, entry z = k.val ∧ s.program k = none, .notFound, [])]
  else if kind = 0x20 then
    [badLength 21, notWhile (Running s), badValue (3 < n),
      badValue (u8At p 16 ≠ 8 ∧ u8At p 16 ≠ 16 ∧ u8At p 16 ≠ 32 ∧ u8At p 16 ≠ 64)]
  else if kind = 0x21 then
    [badLength 13, notWhile (Running s), badValue (3 < n),
      badValue (s16At p 6 < 300 ∨ 2000 < s16At p 6 ∨ s16At p 6 < max 250 (min 1800 (s16At p 1)) + 50)]
  else if kind = 0x22 then [badLength 4, badValue (31 < n)]
  else if kind = 0x23 then
    [badLength 3, badValue (3 < n),
      (∃ z : ZoneId, n = z.val ∧ (s.zone z).thermProf = none, .notConfigured, []),
      badValue (∃ z : ZoneId, n = z.val ∧ ∃ q, (s.zone z).thermProf = some q ∧
        q.limit - 50 < max 250 (min 1800 (s16At p 1)))]
  else if kind = 0x24 then [badLength 3, badValue (3 < n)]
  else if kind = 0x25 then
    [badLength 2, notWhile (s.run.state ≠ .ready ∧ ¬ Running s), badValue (3 < n ∨ (15 < m ∧ m ≠ 0xFE)),
      notWhile (∃ z : ZoneId, n = z.val ∧ ((s.zone z).seq.state = .done ∨
        ∀ r, s.run.record = some r → zoneDeclared r.declared z = false)),
      (∃ k : ProgId, m = k.val ∧ s.program k = none, .notFound, [])]
  else if kind = 0x26 then [badLength 1, badValue (3 < n)]
  else if kind = 0x31 then
    let e := s.page (p.getD 0 0).toFin
    let count := u8At p 3
    [badLength (4 + 5 * count), badValue (count = 0 ∨ 48 < count ∨ ∃ k < count, 15 < u8At p (8 + 5 * k)),
      notWhile (e.state ≠ .opened), (u16At p 1 ≠ e.cursor, .outOfOrder, be2 e.cursor),
      badValue (512 < u16At p 1 + count), (s.store.staging.isSome = true, .busy, be2 e.cursor)]
  else if kind = 0x34 then [badLength 2, badValue (m = 0 ∨ 24 < m)]
  else if kind = 0x38 then
    let parts := p.getD (14 + m) 0
    let pages : List PageId := ((p.drop 2).take m).map fun b => b.toFin
    let unsealed := pages.find? fun pg => (s.page pg).state != .sealed
    [badLength (15 + m + (if parts.getLsbD 0 then 3 else 0) + (if parts.getLsbD 1 then 9 else 0)),
      badValue (15 < n ∨ m = 0 ∨ 32 < m ∨ u16At p (2 + m) = 0 ∨ 512 < u16At p (2 + m) ∨ 2 < u8At p (13 + m) ∨
        (u8At p (13 + m) ≠ 0 ∧ parts.getLsbD 0 = false)),
      (∃ k : ProgId, n = k.val ∧ s.inUse k = true, .inUse, []),
      (unsealed.isSome = true, .notFound, (unsealed.map fun pg => be1 pg.val).getD []),
      badValue (∃ pg ∈ pages.getLast?, (s.page pg).count.getD 0 < u16At p (2 + m))]
  else if kind = 0x3A then [badLength 1, badValue (15 < n ∧ n ≠ 0xFF)]
  else if kind = 0x40 then
    [badLength 1, badValue (31 < n),
      notWhile (¬ Running s ∨ ∃ i : SocketId, n = i.val ∧ (s.sock i).life ≠ .stressing)]
  else if kind = 0x41 ∨ kind = 0x42 then [badLength 1, badValue (31 < n)]
  else []

/-- The characters of a request frame on the line, SYNC first (10 §10.2). -/
def wire (kind : Byte) (f : Frame) : List Byte :=
  [0xC3] ++ frameCovered kind f ++ be2 f.crc.toNat

/-- Characters come one after the other, none with a framing error. -/
def hear : List Byte → State → Host.Outcome State Fault Refusal
  | [], s => .next s
  | ch :: l, s =>
    match exec (.lineCharacter ch false) s with
    | .next t => hear l t
    | .fault r => .fault r
    | .refused r => .refused r

/-! ## The notice lanes (R181) -/

/-- The lanes after a notice came to the urgent lane. -/
def urgentAfter (n : Notice) (q : NoticeQueue) : NoticeQueue :=
  if q.urgent.length < 16 then { q with urgent := q.urgent ++ [n] } else { q with urgentOver := true }

/-- The lanes after a notice came to the routine lane. -/
def routineAfter (n : Notice) (q : NoticeQueue) : NoticeQueue :=
  if q.routine.length < 32 then { q with routine := q.routine ++ [n] } else { q with routineOver := true }

/-! ## What the resets leave (R23, R44, R69, R77, R100, R123, R136, R150, R169, R185) -/

/-- The run controller's values after power-on, the permit monitor among them. -/
def RunFresh (r : Run) : Prop :=
  r.state = .idle ∧ r.record = none ∧ r.holds = ⟨false, false⟩ ∧ r.clock = 0 ∧ r.permitTimeout = 200 ∧
  r.permitValid = false ∧ r.edgeTimer = none ∧ r.edgeCount = 0 ∧ r.acctTimer = none

/-- The parts of a socket record that every reset clears alike: lifecycle, liveness, pass and accounts. -/
def RecordFresh (k : Socket) : Prop :=
  k.life = .empty ∧ k.bin = none ∧
  k.live = { state := .idle, cycles := 0, lastEdge := none, timer := none, owed := false } ∧
  k.pass = { checked := false, count := 0, first := none, crc := 0xFFFF, lpc := 0, nChecked := 0, nFailed := 0 } ∧
  k.acct = { credit := 0, log := [], total := 0, counted := 0, deciding := none, byHost := false }

/-- A socket record after power-on. -/
def SocketFresh (k : Socket) : Prop :=
  RecordFresh k ∧
  k.rail = { state := .off, inhibit := ⟨true, false, false, false, false, false⟩, lastCurrent := 0, window := [],
             voltage := 0, power := 0, trips := 0, offTimer := none, stableTimer := none, phase1Timer := none,
             rampTimer := none } ∧
  k.therm = { state := .off, reading := none, goodSince := false, teff := 0, integral := 0, sat := .none, duty := 0,
              grant := 0, trim := 0, rating := 300, badRun := 0, goodRun := 0, firstInband := false, answerTimer := none }

/-- A sequencer record and a checker's zone record after a reset. -/
def PlayFresh (k : Zone) : Prop :=
  k.seq.state = .idle ∧ k.seq.assigned = none ∧ k.seq.staged = none ∧ k.seq.bufA = .empty ∧ k.seq.bufB = .empty ∧
  k.seq.fetch = none ∧ k.seq.passNo = 0 ∧ k.seq.ordinal = 0 ∧ k.seq.void = none ∧ k.seq.voidCount = 0 ∧
  k.seq.gapTimer = none ∧ k.seq.halt = none ∧ k.seq.drive = 0 ∧
  k.chk = { opened := false, passNo := 0, slot := none, mode := none, expect := none }

/-- A zone after power-on. -/
def ZoneFresh (k : Zone) : Prop :=
  k.railProf = none ∧ k.rampQueue = [] ∧ k.thermProf = none ∧ k.budget = 6000 ∧ k.armed = true ∧ PlayFresh k

/-- The staging buffer, the port and its arbiter after a reset. -/
def PortFresh (st : Store) : Prop :=
  st.staging = none ∧ st.port = none ∧ st.waitCount = 0 ∧ st.ptr1 = 3 ∧ st.ptr3 = 3

/-- The slots from the first index of a chunk on hold its first `n` vectors with even parity, and every other slot reads
as it did (R79, R83). -/
def Copied (n : Nat) (c : Chunk) (s t : State) : Prop :=
  (∀ k < n, ∀ v ∈ c.vecs[k]?,
    vecOf (memRead t.store.mem (slotAddr c.page (c.first + k))) = v ∧
    parityBad (memRead t.store.mem (slotAddr c.page (c.first + k))) = false) ∧
  ∀ a, (∀ k < min n c.vecs.length, a ≠ slotAddr c.page (c.first + k)) → memRead t.store.mem a = memRead s.store.mem a

/-- The pattern store after RESETN and every BOARD-RESET: OPEN pages become FREE, all else that is loaded stays. A
transfer of the writer that the reset cuts has copied one vector for each cycle it has run, and no slot else changes
(R83, R100). -/
def StoreKept (s t : State) : Prop :=
  PortFresh t.store ∧ t.store.programs = s.store.programs ∧
  (∀ pg : PageId, t.page pg =
    if (s.page pg).state = .opened then
      { state := .free, cursor := 0, crc := 0xFFFF, count := none, refs := (s.page pg).refs }
    else s.page pg) ∧
  (s.store.port ≠ some .staging ∨ s.store.staging = none → t.store.mem = s.store.mem) ∧
  ∀ c, s.store.port = some .staging → s.store.staging = some c → MemoryWf s →
    Copied (s.now + c.vecs.length - s.store.portEnd) c s t

/-- The notice queue empty, its flags clear. -/
def NoticesFresh (q : NoticeQueue) : Prop :=
  q.urgent = [] ∧ q.routine = [] ∧ q.urgentOver = false ∧ q.routineOver = false

/-- The link port after the straps were read (R170). -/
def LinkFresh (slot : BitVec 5) (rate : BitVec 2) (l : Link) : Prop :=
  l.slot = slot ∧ l.rate = (if rate = 3 then 0 else rate) ∧ l.rx = .hunt ∧ l.rxBuf = [] ∧ l.reply = none ∧
  l.replyState = .none ∧ l.inReset = false

/-- Everything but the pattern store and the link port at its power-on values. -/
def BlocksFresh (s : State) : Prop :=
  RunFresh s.run ∧ (∀ i, SocketFresh (s.sock i)) ∧ (∀ z, ZoneFresh (s.zone z)) ∧ NoticesFresh s.notices

/-- The machine right after power-on, with the straps read as given. -/
def AtPowerOn (slot : BitVec 5) (rate : BitVec 2) (s : State) : Prop :=
  BlocksFresh s ∧ LinkFresh slot rate s.link ∧ PortFresh s.store ∧
  (∀ k : ProgId, s.program k = none) ∧
  ∀ pg : PageId, (s.page pg).state = .free ∧ (s.page pg).cursor = 0 ∧ (s.page pg).count = none ∧ (s.page pg).refs = 0

end Sys2Proof.Safety
end

