-- ==== Sys2Proof/WellFormed.lean ====
section
/-! DEFINITION. Which commands are well formed: what a frame's length byte can say, and which frames the rows that
share a kind code stand for. A command that is not well formed has a meaning all the same (log entry 27). -/

namespace Sys2Proof

/-- The length byte of a frame runs from 0 to 250 (10 §10.2). -/
def Frame.wf (f : Frame) : Bool := f.payload.length ≤ 250

/-- The kind codes that name a request (11 §11.3). -/
def requestKinds : List Byte :=
  [0x01, 0x02, 0x03, 0x04, 0x10, 0x11, 0x12, 0x13, 0x14, 0x15, 0x16, 0x20, 0x21, 0x22, 0x23, 0x24, 0x25, 0x26,
   0x30, 0x31, 0x32, 0x33, 0x34, 0x38, 0x39, 0x3A, 0x40, 0x41, 0x42]

/-- Well formed: every frame fits its length byte; BOARD_RESET_RUN and BOARD_RESET_FULL carry a frame of their own
scope or of one R22 refuses; UNKNOWN_KIND carries no known kind; a burst has at most one entry for a vector. -/
def Instr.wf : Instr → Bool
  | .powerOn _ _ | .resetn | .resetnRelease _ _ => true
  | .ident f | .collect f | .boardSetup f => f.wf
  | .boardResetRun f => f.wf && (f.payload != [1])
  | .boardResetFull f _ _ => f.wf && (f.payload == [1])
  | .runDefine f | .runStart f | .runPause f | .runResume f | .runAbort f | .runClear f | .runReport f => f.wf
  | .zoneRail f | .zoneThermal f | .socketThermal f | .setpoint f | .zoneBudget f | .zoneProgram f | .zoneReport f =>
      f.wf
  | .pageOpen f | .pageData f | .pageClose f | .pageFree f | .pageList f => f.wf
  | .programDefine f | .programDelete f | .programList f => f.wf
  | .socketRetire f | .socketReport f | .failLog f => f.wf
  | .unknownKind k f => f.wf && !(requestKinds.contains k)
  | .frameDiscard _ f => f.wf
  | .frameAbandon | .frameGapExpiry | .replyBegin | .replyEnd | .replyAbandon => true
  | .ovenPermitEdge | .permitTimerExpiry => true
  | .railSample _ _ _ | .phase1TimerExpiry _ | .rampTimeout _ | .stableTimerExpiry _ | .offTimeExpiry _ => true
  | .sensorRequest _ | .sensorAnswer _ _ | .sensorTimeout _ => true
  | .stagingWriteDone => true
  | .fetchBurstDone wrong => decide ((wrong.map Prod.fst).Nodup)
  | .vectorPeriodEnd _ _ | .gapTimerExpiry _ => true
  | .heartbeatEdge _ _ | .resetHeldExpiry _ | .ignoreExpiry _ | .heartbeatLate _ => true
  | .accountingTimerExpiry | .lineCharacter _ _ => true

end Sys2Proof
end

