-- ==== Sys2Proof/Certificates/Slice0/Obligations.lean ====
section
/-! DEFINITION. The statements for the provers: the step, what resets leave, the invariants behind the laws of 00 §0.8,
and, family by family, what each command completes with and what it leaves alone. -/

open Sys2Proof Sys2Proof.Machine Sys2Proof.Safety

/-! ## The machine -/

/-- A step runs the command at the front of the queue on the state with the queue's rest, and with an empty queue it
idles for one cycle of the clock and changes nothing else. The queue, the step and the idle cycle are the model's (DESIGN
CHOICE, log entry 1). -/
def Obligations.StepTakesTheFront : Prop :=
  (∀ (c : Instr) (rest : List Instr) (s : State), s.pending = c :: rest → step s = exec c { s with pending := rest }) ∧
  ∀ s : State, s.pending = [] → step s = .next { s with now := s.now + 1 }

/-- The output pins. A rail switch is open in OFF, QUEUED and REST, limited to I1 in RAMP-1 and to I2 in RAMP-2, without
a limit where I2 is 0 and in ON; under laws 1 to 3 it is open whenever a cause stands. HEAT carries the duty, none
outside control under law 5. DUT-RESET is asserted in RESET-HELD alone. The driver is enabled exactly while a reply is
SENDING, never in RESETN, and sends SYNC, header, payload and CRC, most significant byte first. Power-on, RESETN and both
scopes of BOARD-RESET open every rail, cut every heater, release every DUT-RESET and ATTENTION, drive 0 and release the
driver (R30, R34, R35, R44, R64, R69, R137, R170, R176, R178, R184, R186). -/
def Obligations.OutputPinsFollowTheState : Prop :=
  (∀ (s : State) (i : SocketId),
    let r := (s.sock i).rail
    let prof := (s.zone (zoneOf i)).railProf
    (r.state = .off ∨ r.state = .queued ∨ r.state = .rest → railen s i = .opened) ∧
    (∀ p, prof = some p → r.state = .ramp1 → railen s i = .limited p.i1) ∧
    (∀ p, prof = some p → r.state = .ramp2 → railen s i = if p.i2 = 0 then .closed else .limited p.i2) ∧
    (r.state = .on → railen s i = .closed) ∧ (RailLaws s → r.inhibit.isEmpty = false → railen s i = .opened) ∧
    heat s i = (s.sock i).therm.duty ∧ (Law5 s → (s.sock i).therm.state.control = false → heat s i = 0) ∧
    (dutReset s i = true ↔ (s.sock i).live.state = .resetHeld)) ∧
  (∀ s : State, (driverEnable s = true ↔ s.link.replyState = .sending) ∧
    (LinkInv s → s.link.inReset = true → driverEnable s = false ∧ attention s = false) ∧
    (s.link.replyState ≠ .sending → lineSent s = []) ∧
    ∀ r, s.link.reply = some r → s.link.replyState = .sending → lineSent s =
      [0xC3, r.addr, r.kind, r.tag, BitVec.ofNat 8 r.payload.length] ++ r.payload ++
        [r.crc.extractLsb' 8 8, r.crc.extractLsb' 0 8]) ∧
  ∀ (c : Instr) (s : State),
    ((∃ slot rate, c = .powerOn slot rate) ∨ c = .resetn ∨
      ∃ f, Taken 0x04 f s ∧ ((c = .boardResetRun f ∧ f.payload = [0]) ∨
        ∃ slot rate, c = .boardResetFull f slot rate ∧ f.payload = [1])) →
    ∃ t, exec c s = .next t ∧ (∀ i, railen t i = .opened ∧ heat t i = 0 ∧ dutReset t i = false) ∧
      (∀ z, drive t z = 0) ∧ attention t = false ∧ driverEnable t = false

/-- Every command completes, whatever the state: none faults or is refused. It leaves the queue behind it alone, and
but for POWER_ON time does not run back (R137; the queue is the model's, log entry 1). -/
def Obligations.EveryCommandCompletes : Prop :=
  ∀ (c : Instr) (s : State), ∃ t, exec c s = .next t ∧ t.pending = s.pending ∧
    ((∀ slot rate, c ≠ .powerOn slot rate) → s.now ≤ t.now)

/-- A refused addressed request leaves the device as it was, but for the link port: every reply whose status is not OK,
CLAMPED or PERMIT-ABSENT comes with no other change (R175; the strap pins, which are not the device's, are apart). A
payload of another length than a kind of fixed length has is refused BAD-LENGTH (R174), a socket number above 31 and a
zone number above 3 are refused BAD-VALUE, and the requests of the run are refused WRONG-STATE outside their states. Of
the checks that a kind makes, in the order of its rule, the first that fails brings its refusal with the data its rule
names (R4, R20, R22, R24, R45, R47, R49, R70, R81, R89, R91, R94, R118, R122, R158, R167, R168, R182). -/
def Obligations.RefusedRequestsChangeNothing : Prop :=
  (∀ (c : Instr) (kind : Byte) (f : Frame) (s t : State) (r : Reply) (st : Byte), requestOf c = some (kind, f) →
    Addressed kind f s → exec c s = .next t → t.link.reply = some r → r.payload.head? = some st →
    st ≠ Status.ok.code → st ≠ Status.clamped.code → st ≠ Status.permitAbsent.code →
    t = { s with link := t.link, straps := t.straps }) ∧
  (∀ (c : Instr) (kind : Byte) (n : Nat) (f : Frame) (s : State), requestOf c = some (kind, f) → Addressed kind f s →
    (kind, n) ∈ ([(0x01, 0), (0x02, 1), (0x03, 2), (0x04, 1), (0x11, 0), (0x12, 0), (0x13, 0), (0x14, 0), (0x15, 0),
      (0x16, 0), (0x20, 21), (0x21, 13), (0x22, 4), (0x23, 3), (0x24, 3), (0x25, 2), (0x26, 1), (0x30, 1), (0x32, 5),
      (0x33, 1), (0x34, 2), (0x39, 1), (0x3A, 1), (0x40, 1), (0x41, 1), (0x42, 1)] : List (Byte × Nat)) →
    f.payload.length ≠ n → ∃ t, exec c s = .next t ∧
      t = { s with link := answered kind f .badLength [] s.link, straps := t.straps }) ∧
  (∀ (c : Instr) (kind : Byte) (n top : Nat) (f : Frame) (s : State), requestOf c = some (kind, f) →
    Addressed kind f s → (kind, n, top) ∈ ([(0x22, 4, 31), (0x40, 1, 31), (0x41, 1, 31), (0x42, 1, 31), (0x23, 3, 3),
      (0x24, 3, 3), (0x26, 1, 3)] : List (Byte × Nat × Nat)) →
    f.payload.length = n → top < u8At f.payload 0 → ∃ t, exec c s = .next t ∧
      t = { s with link := answered kind f .badValue [] s.link, straps := t.straps }) ∧
  (∀ (c : Instr) (kind : Byte) (states : List RunState) (f : Frame) (s : State), requestOf c = some (kind, f) →
    (kind, states) ∈ ([(0x11, [.ready]), (0x12, [.active, .held]), (0x13, [.held]), (0x14, [.ready, .active, .held]),
      (0x15, [.finished, .aborted])] : List (Byte × List RunState)) →
    Addressed kind f s ∨ (Clean kind f s ∧ f.addr = 0 ∧ kind ≠ 0x11 ∧ kind ≠ 0x15) →
    f.payload = [] → s.run.state ∉ states → ∃ t, exec c s = .next t ∧
      t = { s with link := afterTaken kind f .wrongState [] s.link, straps := t.straps }) ∧
  (∀ (c : Instr) (kind : Byte) (f : Frame) (s : State), requestOf c = some (kind, f) → Addressed kind f s →
    FirstRefusal (Refused c kind f s) (checks kind f.payload s))

/-- The characters of a frame, heard one after the other in HUNT, do what the frame's command does (R171, R172; the row
of a frame stands for its last character, log entry 3). BOARD_RESET_FULL is apart: its operands also move the strap
pins. -/
def Obligations.CharactersMakeTheFrame : Prop :=
  ∀ (c : Instr) (kind : Byte) (f : Frame) (s : State), requestOf c = some (kind, f) →
    (∀ g slot rate, c ≠ .boardResetFull g slot rate) →
    s.link.inReset = false → s.link.replyState ≠ .sending → s.link.rx = .hunt → s.link.rxBuf = [] →
    f.payload.length ≤ 250 → hear (wire kind f) s = exec c s

/-! ## Resets -/

/-- The values of power-on: at State.reset, which is strapped to SLOT 1 and RATE 0 with RESETN not asserted (DESIGN
CHOICE, log entry 4), and after POWER_ON from any state, which reads the straps. -/
def Obligations.PowerOnValues : Prop :=
  (AtPowerOn 1 0 State.reset ∧ State.reset.pending = []) ∧
  ∀ (slot : BitVec 5) (rate : BitVec 2) (s : State), ∃ t, exec (.powerOn slot rate) s = .next t ∧
    AtPowerOn slot rate t ∧ t.straps = ⟨slot, rate⟩ ∧ t.now = 0 ∧ t.pending = s.pending

/-- RESETN puts every block at its power-on values but keeps sealed pages, programs and time, and silences the link; of
a chunk that the writer was copying the part copied so far stands in its slots; its release reads the straps and changes
nothing else (R23, R83, R100, R170, R178, R185; the count of the vectors copied is log entry 7, and a release that no
RESETN went before is no event, log entry 10). -/
def Obligations.ResetnAndItsRelease : Prop :=
  (∀ s : State, ∃ t, exec .resetn s = .next t ∧ BlocksFresh t ∧ StoreKept s t ∧
    t.link = { s.link with rx := .hunt, rxBuf := [], reply := none, replyState := .none, inReset := true } ∧
    t.now = s.now ∧ t.straps = s.straps ∧ t.freeDraws = s.freeDraws ∧ t.pending = s.pending) ∧
  ∀ (slot : BitVec 5) (rate : BitVec 2) (s : State), ∃ t, exec (.resetnRelease slot rate) s = .next t ∧
    (s.link.inReset = true → LinkFresh slot rate t.link ∧ t = { s with straps := ⟨slot, rate⟩, link := t.link }) ∧
    (s.link.inReset = false → t = s)

/-- BOARD-RESET FULL does what RESETN does and reads the straps at once; its reply goes out under the address read.
BOARD-RESET RUN returns the board to IDLE and keeps the permit monitor, the profiles, budgets, trims and ratings, the
readings, which a SENSOR-FAULT record marks absent until the next good one, and the off-time of a rail that was powered
or resting. Both leave of a chunk that the writer was copying the
part copied so far (R22, R23, R44, R52, R69, R77, R83, R100, R123, R136, R150, R169, R178, R185; the count of the vectors
copied is log entry 7). -/
def Obligations.BoardResetByScope : Prop :=
  (∀ (f : Frame) (slot : BitVec 5) (rate : BitVec 2) (s : State), Taken 0x04 f s → f.payload = [1] →
     ∃ t l, exec (.boardResetFull f slot rate) s = .next t ∧ BlocksFresh t ∧ StoreKept s t ∧
       LinkFresh slot rate l ∧ t.link = (if f.addr = 0 then l else answered 0x04 f .ok [] l) ∧
       t.now = s.now ∧ t.straps = ⟨slot, rate⟩ ∧ t.freeDraws = s.freeDraws ∧ t.pending = s.pending) ∧
  (∀ (f : Frame) (s : State), Taken 0x04 f s → f.payload = [0] → ∃ t, exec (.boardResetRun f) s = .next t ∧
     t.run = { s.run with state := .idle, record := none, holds := ⟨false, false⟩, clock := 0, acctTimer := none } ∧
     (∀ i, RecordFresh (t.sock i) ∧
       (t.sock i).rail =
         { state := .off, inhibit := ⟨true, false, false, false, false, false⟩,
           lastCurrent := (s.sock i).rail.lastCurrent, window := [], voltage := (s.sock i).rail.voltage, power := 0,
           trips := 0,
           offTimer := if (s.sock i).rail.state = .rest then (s.sock i).rail.offTimer
             else if (s.sock i).rail.state = .ramp1 ∨ (s.sock i).rail.state = .ramp2 ∨ (s.sock i).rail.state = .on then
               s.offTimerNow i
             else none,
           stableTimer := none, phase1Timer := none, rampTimer := none } ∧
       (t.sock i).therm =
         { (s.sock i).therm with state := .off, integral := 0, sat := .none, duty := 0, grant := 0, firstInband := false,
                                 goodSince := false, answerTimer := none }) ∧
     (∀ z, PlayFresh (t.zone z) ∧
       t.zone z = { s.zone z with rampQueue := [], armed := true, seq := (t.zone z).seq, chk := (t.zone z).chk }) ∧
     StoreKept s t ∧ NoticesFresh t.notices ∧ t.link = afterTaken 0x04 f .ok [] s.link ∧
     t.now = s.now ∧ t.straps = s.straps ∧ t.freeDraws = s.freeDraws ∧ t.pending = s.pending)

/-! ## Invariants that every step keeps -/

/-- At reset every invariant below holds. -/
def Obligations.ResetMeetsTheInvariants : Prop :=
  RailLaws State.reset ∧ RailInv State.reset ∧ Law4 State.reset ∧ Law5 State.reset ∧ RunTable State.reset ∧ CreditInv State.reset ∧
  FinalInv State.reset ∧ LimitInv State.reset ∧ PermitInv State.reset ∧ TripInv State.reset ∧ StoreInv State.reset ∧
  MemoryWf State.reset ∧ PortInv State.reset ∧ SeqInv State.reset ∧ Law10 State.reset ∧ LinkInv State.reset ∧
  ReplyInv State.reset

/-- Laws 1 to 3: at most two rails of a zone ramp, the queue holds exactly the QUEUED sockets, and an inhibited rail is
OFF or in REST (R30, R32, R33). With them, what carries the demand: a rail whose inhibit set is empty is not OFF (R29),
where a socket of a zone with a profile waits both slots are held (R33), each rail timer runs in its states alone (R34 to
R36, R39, R42), and RUN stands for every socket that a started run does not declare (R11, R16). -/
def Obligations.StepKeepsRailLaws : Prop :=
  (∀ s t : State, RailLaws s → step s = .next t → RailLaws t) ∧
  (∀ s t : State, RailInv s → step s = .next t → RailInv t)

/-- Law 4: the heater grants of a zone never exceed its budget (R73). Law 5: no duty and no grant outside APPROACH,
INBAND and OUTBAND (R64). -/
def Obligations.StepKeepsHeatLaws : Prop :=
  (∀ s t : State, Law4 s → step s = .next t → Law4 t) ∧
  (∀ s t : State, Law5 s → step s = .next t → Law5 t)

/-- The table of run states: the record, the hold causes, the clock and the accounting timer agree with the state
(R7, R9, R160). Law 11 with what carries it: a socket at the retire limit is RETIRED (R156). -/
def Obligations.StepKeepsRunTableAndRetireLimit : Prop :=
  (∀ s t : State, RunTable s → step s = .next t → RunTable t) ∧
  (∀ s t : State, LimitInv s → step s = .next t → LimitInv t)

/-- Law 6 with what carries it: credited seconds exceed neither the run clock nor the stress target (R162). -/
def Obligations.StepKeepsCredit : Prop :=
  ∀ s t : State, CreditInv s → step s = .next t → CreditInv t

/-- Law 8 with what carries it: a final socket is unpowered and unheated, and its accounts stand as they were until the
change that makes it EMPTY (R3, R159). -/
def Obligations.StepKeepsFinalSockets : Prop :=
  ∀ s t : State, FinalInv s → step s = .next t → FinalInv t ∧ Law8 t ∧
    ∀ i : SocketId, (s.sock i).life.final = true → (t.sock i).life = .empty ∨
      ((t.sock i).life = (s.sock i).life ∧ (t.sock i).acct = (s.sock i).acct)

/-- While PERMIT holds the run no STRESSING socket has power or heat (R13, R58). -/
def Obligations.StepKeepsPermitHold : Prop :=
  ∀ s t : State, PermitInv s → step s = .next t → PermitInv t ∧
    (t.run.holds.permit = true → ∀ i : SocketId, (t.sock i).life = .stressing →
      RailDown t i ∧ (t.sock i).therm.duty = 0)

/-- Law 12 with what carries it: a socket whose last reading is at or above the trip limit has neither heat nor power
(R65). -/
def Obligations.StepKeepsTripSafety : Prop :=
  ∀ s t : State, TripInv s → step s = .next t → TripInv t ∧ Law12 t

/-- Law 9 with what carries it: reference counts are exact, a named page is SEALED, and no vector of a page that is
SEALED before and after a step has changed (R81, R83, R88). -/
def Obligations.StepKeepsSealedPages : Prop :=
  ∀ s t : State, StoreInv s ∧ MemoryWf s → step s = .next t → (StoreInv t ∧ MemoryWf t) ∧
    ∀ pg : PageId, (s.page pg).state = .sealed → (t.page pg).state = .sealed → ∀ idx < 512,
      memRead t.store.mem (slotAddr pg idx) = memRead s.store.mem (slotAddr pg idx)

/-- The memory port and the sequencers agree: no request waits at an idle port, a transfer has its requester, and a
zone in IDLE, STATIC or DONE has no fetch (R95, R99). A zone in a pass plays from a full buffer, and its fetch fills the
other one (R105, R110). That a fetch in PRIMING, GAP, HELD and HALTED too goes to the buffer not played last is the
model's (DESIGN CHOICE, log entry 15). -/
def Obligations.StepKeepsPortAndBuffers : Prop :=
  (∀ s t : State, PortInv s → step s = .next t → PortInv t) ∧
  (∀ s t : State, SeqInv s → step s = .next t → SeqInv t)

/-- Law 10: the lanes keep to 16 and 32 notices, and ATTENTION stands exactly for the urgent lane while RESETN is not
asserted (R184). The receive buffer fits the receiver's state, the reply buffer the reply's, in RESETN the link is
silent, and the rate is a code that exists (R170, R171, R176, R178). -/
def Obligations.StepKeepsLanesAndLink : Prop :=
  (∀ s t : State, Law10 s → step s = .next t → Law10 t) ∧
  (∀ s t : State, LinkInv s → step s = .next t → LinkInv t)

/-- Law 7 and the bound on replies: a fail log holds at most six records and never more than the fail total, and every
reply fits a frame and carries its CRC (R155, R176). -/
def Obligations.StepKeepsReplies : Prop :=
  ∀ s t : State, ReplyInv s → step s = .next t → ReplyInv t

/-! ## Reports -/

/-- IDENT answers with the part's identity and changes nothing else; with a payload it is refused BAD-LENGTH. -/
def Obligations.IdentAnswers : Prop :=
  ∀ (f : Frame) (s : State), Addressed 0x01 f s →
    exec (.ident f) s = .next { s with
      link := if f.payload = [] then
          answered 0x01 f .ok [0x0D, 0x32, 0x20, 3, s.link.slot.zeroExtend 8, s.link.rate.zeroExtend 8, 32, 1, 0] s.link
        else answered 0x01 f .badLength [] s.link }

/-- The reports read and change nothing but the link port: RUN-REPORT, ZONE-REPORT, FAIL-LOG, PAGE-LIST and PROGRAM-LIST
answer OK in every state and carry what is written out below: RUN-REPORT the 23 bytes and the label of its run record,
DEFAULT resolved, ZONE-REPORT its 87 bytes, FAIL-LOG its records of 23 bytes with the detail padded by zeros, PROGRAM-LIST
the program record of a slot, and of all slots its 16 entries of five bytes (R21, R43, R78, R89, R94, R122, R151, R168,
R187, R188; the zeros of an empty slot in PROGRAM-LIST are log entry 23). The codes are those of 11 §11.2. -/
def Obligations.ReportsChangeNothing : Prop :=
  (∀ (f : Frame) (s : State), Addressed 0x16 f s → f.payload = [] →
    exec (.runReport f) s = .next { s with
      link := answered 0x16 f .ok ([s.run.state.code, s.run.holds.code] ++ be4 s.run.clock ++ flag1 s.run.permitValid ++ be2 s.run.permitTimeout ++
        ([Lifecycle.empty, .waiting, .stressing, .complete, .retired].map fun l =>
          BitVec.ofNat 8 ((List.finRange 32).countP fun i => (s.sock i).life == l)) ++
        (match s.run.record with
          | none => [0]
          | some r =>
            let taken := fun (d : Option Disp) (byDefault : Byte) => match d with
              | some .count => (0 : Byte)
              | some .reset => 1
              | some .retire => 2
              | none => byDefault
            [1, BitVec.ofNat 8 r.label.length] ++ r.label ++ be4 r.declared.toNat ++ be4 r.target ++
              [r.progs[0].code, r.progs[1].code, r.progs[2].code, r.progs[3].code] ++
              [taken r.disp.strobe 0, taken r.disp.signature 0, taken r.disp.early 1, taken r.disp.late 1,
                taken r.disp.fast 0, taken r.disp.average 0, taken r.disp.ramp 0, taken r.disp.trip 2] ++
              be1 r.retireLimit ++ flag1 r.powerAtTemp)) s.link }) ∧
  (∀ (f : Frame) (s : State) (z : ZoneId), Addressed 0x26 f s → f.payload = [BitVec.ofNat 8 z.val] →
    ∃ data, exec (.zoneReport f) s = .next { s with link := answered 0x26 f .ok data s.link } ∧ data.length = 87 ∧
      let q := (s.zone z).seq
      let place := fun x : Buffer => match x with
        | .empty => [0, 0xFF, 0xFF, 0xFF]
        | .filling g => [1, BitVec.ofNat 8 g.slot.val, BitVec.ofNat 8 g.pos, BitVec.ofNat 8 g.page.val]
        | .full g _ => [2, BitVec.ofNat 8 g.slot.val, BitVec.ofNat 8 g.pos, BitVec.ofNat 8 g.page.val]
      data.take 14 = [BitVec.ofNat 8 z.val, q.state.code, progCode q.assigned, progCode q.staged, BitVec.ofNat 8
          (bits1 [q.state.inPass, q.halt.isSome, (s.zone z).railProf.isSome, (s.zone z).thermProf.isSome])] ++
        be4 q.passNo ++ [(q.void.map VoidCause.code).getD 0] ++ be4 q.voidCount ∧
      (q.state.inPass = false → (data.drop 14).take 10 = List.replicate 10 0) ∧
      (∀ g vs, q.state.inPass = true → q.buf q.play.buf = .full g vs → (data.drop 14).take 10 =
        [BitVec.ofNat 8 g.pos, BitVec.ofNat 8 g.page.val] ++ be2 q.play.idx ++ be2 q.play.loop ++ be4 q.ordinal) ∧
      (data.drop 24).take 4 = place q.bufA ∧ (data.drop 28).take 4 = place q.bufB ∧
      (data.drop 32).take 3 = (match q.halt with
        | none => [0, 0, 0]
        | some h => BitVec.ofNat 8 h.1.val :: be2 h.2) ∧
      (data.drop 35).take 20 = (match (s.zone z).railProf with
        | none => List.replicate 20 0
        | some p => be2 p.vbus ++ be2 p.vok ++ be2 p.i1 ++ be1 p.t1 ++ be2 p.i2 ++ be2 p.rampMs ++ be2 p.iFast ++
            be2 p.iAvg ++ be1 p.win ++ be1 p.offCode ++ be1 p.retryLimit ++ be2 p.stableS) ∧
      data[55]? = some (BitVec.ofNat 8 (s.zone z).rampQueue.length) ∧
      (∀ k < 8, data[56 + k]? = some (match (s.zone z).rampQueue[k]? with
        | some i => BitVec.ofNat 8 i.val
        | none => 0xFF)) ∧
      (∀ k < 2, data[64 + k]? = some (match (s.slotHolders z)[k]? with
        | some i => BitVec.ofNat 8 i.val
        | none => 0xFF)) ∧
      (data.drop 66).take 12 = (match (s.zone z).thermProf with
        | none => List.replicate 12 0
        | some p => sbe2 p.setpoint ++ be1 p.rampRate ++ be1 p.inner ++ be1 p.outer ++ sbe2 p.limit ++ be1 p.kp ++
            be1 p.ki ++ be1 p.kff ++ be2 p.base) ∧
      data.drop 78 = be2 (s.zone z).budget ++ flag1 (s.zone z).armed ++ be2 (s.dutSum z) ++ be2 (s.grantSum z) ++
        sbe2 (((s.zone z).budget : Int) - s.dutSum z - s.grantSum z)) ∧
  (∀ (f : Frame) (s : State) (i : SocketId), Addressed 0x42 f s → f.payload = [BitVec.ofNat 8 i.val] →
    ∃ recs, exec (.failLog f) s = .next { s with
        link := answered 0x42 f .ok (be2 (s.sock i).acct.total ++ be1 (s.sock i).acct.log.length ++ recs) s.link } ∧
      recs.length = 23 * (s.sock i).acct.log.length ∧
      ∀ (k : Nat) (r : FailRec), (s.sock i).acct.log[k]? = some r → (recs.drop (23 * k)).take 23 =
        [BitVec.ofNat 8 (k + 1), r.kind.code, BitVec.ofNat 8 (bits1 [r.pass.isSome, r.detail.hasReading])] ++
          be4 r.clock ++ be4 r.credit ++ be4 (r.pass.getD 0) ++ [r.disp.code] ++
          (match r.detail with
            | .strobe ordinal bits count => be4 ordinal ++ [bits] ++ be2 count
            | .signature crc lpc => be2 crc.toNat ++ [lpc, 0, 0, 0, 0]
            | .rail current phase => be2 current ++ [phase.code, 0, 0, 0, 0]
            | .reading x => sbe2 x ++ [0, 0, 0, 0, 0]
            | .lastReading x => sbe2 (x.getD 0) ++ [0, 0, 0, 0, 0]
            | .interval ms => be2 ms ++ [0, 0, 0, 0, 0]
            | .elapsed ms => be4 ms ++ [0, 0, 0]
            | .nothing => [0, 0, 0, 0, 0, 0, 0])) ∧
  (∀ (f : Frame) (s : State) (pg : PageId) (n : Nat), Addressed 0x34 f s →
    f.payload = [BitVec.ofNat 8 pg.val, BitVec.ofNat 8 n] → 1 ≤ n → n ≤ 24 →
    ∃ data, exec (.pageList f) s = .next { s with link := answered 0x34 f .ok data s.link } ∧
      data.length = 1 + 10 * min n (256 - pg.val) ∧ data.head? = some (BitVec.ofNat 8 (min n (256 - pg.val))) ∧
      ∀ (k : Nat) (q : PageId), k < n → q.val = pg.val + k → (data.drop (1 + 10 * k)).take 10 =
        [BitVec.ofNat 8 q.val, (s.page q).state.code] ++ be2 (s.page q).cursor ++ be2 ((s.page q).count.getD 0) ++
          be2 (s.page q).refs ++ be2 (s.page q).crc.toNat) ∧
  (∀ (f : Frame) (s : State) (k : ProgId), Addressed 0x3A f s → f.payload = [BitVec.ofNat 8 k.val] →
    exec (.programList f) s = .next { s with
      link := answered 0x3A f .ok (match s.program k with
        | none => [BitVec.ofNat 8 k.val, 0]
        | some d => [BitVec.ofNat 8 k.val, 1, BitVec.ofNat 8 d.pages.length] ++
            (d.pages.map fun pg => BitVec.ofNat 8 pg.val) ++ be2 d.lastCount ++ be2 d.loopRep ++ be2 d.divN ++
            be1 d.fracF ++ be2 d.gap ++ be2 d.idleWord.toNat ++ [d.mode.code] ++
            be1 (bits1 [d.sig.isSome, d.hb.isSome]) ++
            (match d.sig with
              | none => []
              | some g => be2 g.crc.toNat ++ [g.lpc]) ++
            (match d.hb with
              | none => []
              | some h => be2 h.tMin ++ be2 h.tWin ++ be2 h.tReset ++ be2 h.tIgnore ++ be1 h.cycleLimit)) s.link }) ∧
  (∀ (f : Frame) (s : State), Addressed 0x3A f s → f.payload = [0xFF] →
    ∃ data, exec (.programList f) s = .next { s with link := answered 0x3A f .ok data s.link } ∧ data.length = 80 ∧
      ∀ k : ProgId, (data.drop (5 * k.val)).take 5 = (match s.program k with
        | none => [0, 0, 0, 0, 0]
        | some d => [1, BitVec.ofNat 8 d.pages.length, d.mode.code] ++ flag1 d.hb.isSome ++ flag1 (s.inUse k))) ∧
  CodesAreThoseOfTheTable

/-- SOCKET-REPORT answers with the 92 bytes written out below part by part, head, accounts, rail, thermal, budget, pass
and liveness, and changes nothing but the link port; where the zone has no thermal profile the target is a free value,
and the draw is counted (R43, R68, R78, R135, R149, R167, R187; the free value is log entry 8, and the readings of the
time base in the liveness part log entry 29). -/
def Obligations.SocketReportAnswers : Prop :=
  ∀ (f : Frame) (s : State) (i : SocketId), Addressed 0x41 f s → f.payload = [BitVec.ofNat 8 i.val] →
    ∃ data, exec (.socketReport f) s = .next { s with
        freeDraws := if (s.zone (zoneOf i)).thermProf = none then s.freeDraws + 1 else s.freeDraws
        link := answered 0x41 f .ok data s.link } ∧
      data.length = 92 ∧
      let z := zoneOf i
      let k := s.sock i
      let r := k.rail
      let h := k.therm
      let l := k.live
      data.take 4 = [BitVec.ofNat 8 i.val, k.life.code, codeOr Bin.code k.bin, BitVec.ofNat 8 (bits1
        [s.run.record.isSome, h.reading.isSome, k.pass.first.isSome, l.lastEdge.isSome, l.timer.isSome])] ∧
      (data.drop 4).take 16 = be4 k.acct.credit ++ be4 ((s.run.record.map (·.target)).getD 0) ++ be2 k.acct.total ++
        be1 k.acct.counted ++ be1 k.acct.log.length ++
        (match k.acct.deciding with
          | none => [0xFF, 0xFF, 0xFF]
          | some d => [d.kind.code, d.kind.cls.code, BitVec.ofNat 8 d.slot]) ++ flag1 k.acct.byHost ∧
      (data.drop 20).take 12 = [r.state.code, r.inhibit.code] ++ be2 r.lastCurrent ++
        be2 (if r.window = [] then 0 else r.window.sum / r.window.length) ++ be1 r.window.length ++ be2 r.voltage ++
        be2 r.power ++ be1 r.trips ∧
      (data.drop 32).take 5 = [h.state.code] ++ sbe2 (h.reading.getD 0) ++ sbe2 h.teff ∧
      (∀ p, (s.zone z).thermProf = some p → (data.drop 37).take 2 = sbe2 (max 250 (min 1800 (p.setpoint + h.trim)))) ∧
      (data.drop 39).take 13 = be2 h.integral.toNat ++ [h.sat.code] ++ be2 h.duty ++ be2 h.grant ++ sbe1 h.trim ++
        be2 h.rating ++ be1 h.badRun ++ be1 h.goodRun ++ flag1 h.firstInband ∧
      (data.drop 52).take 9 = be2 (s.zone z).budget ++ flag1 (s.zone z).armed ++ be2 (s.dutSum z) ++
        be2 (s.grantSum z) ++ sbe2 (((s.zone z).budget : Int) - s.dutSum z - s.grantSum z) ∧
      (data.drop 61).take 19 = flag1 k.pass.checked ++ be2 k.pass.count ++
        (match k.pass.first with
          | none => [0, 0, 0, 0, 0]
          | some m => be4 m.ordinal ++ [m.bits]) ++ be2 k.pass.crc.toNat ++ [k.pass.lpc] ++ be4 k.pass.nChecked ++
        be4 k.pass.nFailed ∧
      data.drop 80 = [l.state.code] ++ be1 l.cycles ++ flag1 l.owed ++
        (match l.lastEdge with
          | none => [0, 0, 0, 0]
          | some e => be4 (min 4294967295 (s.now / 50000 - e))) ++
        (match l.timer with
          | none => [0, 0, 0, 0]
          | some e => be4 (e - s.now / 50000)) ++ flag1 (l.state == .resetHeld)

/-- COLLECT takes notices from the head of the urgent lane and then of the routine lane, at most max and no further than
250 bytes of payload, removes them, and reports and clears the overflow flags. Each record is its kind, its subject, the
run clock, the detail's length and the detail of its kind, as written out below (R182, R183, R188). -/
def Obligations.CollectTakesTheHeads : Prop :=
  ∀ (f : Frame) (s : State) (max : Nat), Addressed 0x02 f s → f.payload = [BitVec.ofNat 8 max] → 1 ≤ max → max ≤ 20 →
    ∃ u r : Nat,
      let q := s.notices
      let taken := q.urgent.take u ++ q.routine.take r
      let detail := fun b : NoticeBody => match b with
        | .fail k slot => [k.code, BitVec.ofNat 8 slot]
        | .retired none => [0xFF]
        | .retired (some k) => [k.code]
        | .complete credit total => be4 credit ++ be2 total
        | .runState st h => [st.code, h.code]
        | .zoneHalt page idx passNo cut => [BitVec.ofNat 8 page.val] ++ be2 idx ++ be4 passNo ++ flag1 cut
        | .passVoid passNo .stall => be4 passNo ++ [1]
        | .passVoid passNo .hold => be4 passNo ++ [2]
        | .budgetOver sum budget => be2 sum ++ be2 budget
        | .sensorOk x => sbe2 x
      let kind := fun b : NoticeBody => match b with
        | .fail _ _ => (1 : Byte)
        | .retired _ => 2
        | .complete _ _ => 3
        | .runState _ _ => 4
        | .zoneHalt _ _ _ _ => 5
        | .passVoid _ _ => 6
        | .budgetOver _ _ => 7
        | .sensorOk _ => 8
      let subject := fun x : Subject => match x with
        | .board => (0xFF : Byte)
        | .socket i => BitVec.ofNat 8 i.val
        | .zone z => BitVec.ofNat 8 z.val
      let record := fun n : Notice => [kind n.body, subject n.subject] ++ be4 n.clock ++
        [BitVec.ofNat 8 (detail n.body).length] ++ detail n.body
      let size := fun l : List Notice => 4 + (l.map fun n => (record n).length).sum
      u ≤ q.urgent.length ∧ r ≤ q.routine.length ∧ u + r ≤ max ∧ size taken ≤ 250 ∧
      (u < q.urgent.length → r = 0 ∧ (u = max ∨ 250 < size (q.urgent.take (u + 1)))) ∧
      (u = q.urgent.length → r < q.routine.length →
        u + r = max ∨ 250 < size (q.urgent ++ q.routine.take (r + 1))) ∧
      exec (.collect f) s = .next { s with
        notices := { urgent := q.urgent.drop u, routine := q.routine.drop r, urgentOver := false, routineOver := false }
        link := answered 0x02 f .ok
          (be1 (bits1 [q.urgentOver, q.routineOver]) ++ be1 q.urgent.length ++ be1 q.routine.length ++
            (taken.map record).flatten) s.link }

/-! ## Settings -/

/-- BOARD-SETUP takes the timeout, 0 or clamped to 20 to 2000; a changed timeout restarts the permit monitor; a started
run refuses it (R20). -/
def Obligations.BoardSetupSetsTheTimeout : Prop :=
  ∀ (f : Frame) (s : State) (hi lo : Byte), Addressed 0x03 f s → f.payload = [hi, lo] →
    let sent := hi.toNat * 256 + lo.toNat
    let t := if sent = 0 then 0 else if sent < 20 then 20 else if 2000 < sent then 2000 else sent
    exec (.boardSetup f) s = .next (if s.run.state = .active ∨ s.run.state = .held then
        { s with link := answered 0x03 f .wrongState [] s.link }
      else { s with
        run := if t = s.run.permitTimeout then s.run
          else { s.run with permitTimeout := t, permitValid := t == 0, edgeTimer := none, edgeCount := 0 }
        link := answered 0x03 f (if t = sent then .ok else .clamped) (be2 t) s.link })

/-- ZONE-RAIL and ZONE-THERMAL store the zone's profile with each field at the nearest end of its range, answer with
it, and change nothing else but that the averaging windows keep their newest samples up to the new W (R24, R25, R45,
R46). -/
def Obligations.ZoneProfilesStored : Prop :=
  (∀ (f : Frame) (s : State) (z : ZoneId), Addressed 0x20 f s → f.payload.length = 21 → u8At f.payload 0 = z.val →
    s.run.state ≠ .active → s.run.state ≠ .held →
    (u8At f.payload 16 = 8 ∨ u8At f.payload 16 = 16 ∨ u8At f.payload 16 = 32 ∨ u8At f.payload 16 = 64) →
    let p := f.payload
    let fast := max 100 (min 12000 (u16At p 12))
    let w := u8At p 16
    let prof : RailProfile :=
      { vbus := (max 600 (min 5000 (u16At p 1))) / 10 * 10, vok := max 10 (min 500 (u16At p 3)),
        i1 := min 12000 (u16At p 5), t1 := max 1 (u8At p 7), i2 := min 12000 (u16At p 8),
        rampMs := max 5 (min 2000 (u16At p 10)), iFast := fast,
        iAvg := min (max 100 (min 12000 (u16At p 14))) fast, win := w, offCode := min 63 (u8At p 17),
        retryLimit := min 15 (u8At p 18), stableS := max 1 (min 3600 (u16At p 19)) }
    ∃ t, exec (.zoneRail f) s = .next t ∧
      t = { s with
        sockets := t.sockets
        zones := s.zones.set z { s.zone z with railProf := some prof }
        link := answered 0x20 f (if p.drop 1 = prof.bytes then .ok else .clamped) (be1 z.val ++ prof.bytes) s.link } ∧
      ∀ i, t.sock i = if zoneOf i = z then
          { s.sock i with rail := { (s.sock i).rail with
              window := (s.sock i).rail.window.drop ((s.sock i).rail.window.length - w) } }
        else s.sock i) ∧
  (∀ (f : Frame) (s : State) (z : ZoneId), Addressed 0x21 f s → f.payload.length = 13 → u8At f.payload 0 = z.val →
    s.run.state ≠ .active → s.run.state ≠ .held →
    let p := f.payload
    let sp := max 250 (min 1800 (s16At p 1))
    let inner := max 5 (min 100 (u8At p 4))
    300 ≤ s16At p 6 → s16At p 6 ≤ 2000 → sp + 50 ≤ s16At p 6 →
    let prof : ThermalProfile :=
      { setpoint := sp, rampRate := max 1 (min 50 (u8At p 3)), inner := inner,
        outer := max inner (min 200 (u8At p 5)), limit := s16At p 6, kp := min 200 (u8At p 8), ki := min 100 (u8At p 9),
        kff := u8At p 10, base := min 1000 (u16At p 11) }
    exec (.zoneThermal f) s = .next { s with
      zones := s.zones.set z { s.zone z with thermProf := some prof }
      link := answered 0x21 f (if p.drop 1 = prof.bytes then .ok else .clamped) (be1 z.val ++ prof.bytes) s.link })

/-! ## Rails under their inhibit sets -/

/-- From a state that keeps the demand of its rails, whatever the command but a reset: each rail follows its inhibit set
(R29, R30, R42), the sample and the expiries of its own rail apart, which RailSamplesAreTaken, RailTripsOpenTheRail and
RailTimersExpire state; and each ramp queue keeps its order, takes those that start to demand at its tail in ascending
number, one that tripped with no off-time too, and gives its head the free slots (R32 to R34, R42). A reset is power-on,
RESETN or a frame of kind BOARD-RESET, under whatever row it comes (log entry 27). A character is apart too, as it may end
such a frame. -/
def Obligations.RailsFollowTheirSets : Prop :=
  ∀ (c : Instr) (s t : State), mayReset c = false → RailInv s → exec c s = .next t →
    (∀ i, movesRail i c = false → RailFollowsSet i s t) ∧ ∀ z, QueueMoves z s t

/-! ## Settings of heat and budget -/

/-- SETPOINT replaces the zone setpoint, clamped and at most the trip limit less 50; a change returns the sockets in
INBAND and OUTBAND to APPROACH and alters nothing else of them (R49). SOCKET-THERMAL takes the trim and the heater rating,
clamped, in every run state, and leaves the duty and grant standing (R47). -/
def Obligations.SetpointReplacesTheSetpoint : Prop :=
  (∀ (f : Frame) (s : State) (z : ZoneId) (p : ThermalProfile), Addressed 0x23 f s → f.payload.length = 3 →
    u8At f.payload 0 = z.val → (s.zone z).thermProf = some p →
    let sent := s16At f.payload 1
    let sp := max 250 (min 1800 sent)
    ∃ t, exec (.setpoint f) s = .next t ∧
      (p.limit - 50 < sp → t = { s with link := answered 0x23 f .badValue [] s.link }) ∧
      (sp ≤ p.limit - 50 →
        t = { s with
          sockets := t.sockets
          zones := s.zones.set z { s.zone z with thermProf := some { p with setpoint := sp } }
          link := answered 0x23 f (if sp = sent then .ok else .clamped) (be1 z.val ++ sbe2 sp) s.link } ∧
        ∀ i, t.sock i =
          if zoneOf i = z ∧ sp ≠ p.setpoint ∧
              ((s.sock i).therm.state = .inband ∨ (s.sock i).therm.state = .outband) then
            { s.sock i with therm := { (s.sock i).therm with state := .approach } }
          else s.sock i)) ∧
  ∀ (f : Frame) (s : State) (i : SocketId) (b hi lo : Byte), Addressed 0x22 f s →
    f.payload = [BitVec.ofNat 8 i.val, b, hi, lo] →
    let rated := hi.toNat * 256 + lo.toNat
    let trim := max (-50) (min 50 b.toInt)
    let rating := max 50 (min 400 rated)
    exec (.socketThermal f) s = .next { s with
      sockets := s.sockets.set i { s.sock i with therm := { (s.sock i).therm with trim := trim, rating := rating } }
      link := answered 0x22 f (if trim = b.toInt ∧ rating = rated then .ok else .clamped)
        (be1 i.val ++ sbe1 trim ++ be2 rating) s.link }

/-- ZONE-BUDGET stores the clamped budget; a lowered one zeroes the zone's duties, grants and flags in the same change,
and the over-budget tests are made against the new budget (R70, R71, R77). -/
def Obligations.ZoneBudgetStored : Prop :=
  ∀ (f : Frame) (s : State) (z : ZoneId) (hi lo : Byte), Addressed 0x24 f s →
    f.payload = [BitVec.ofNat 8 z.val, hi, lo] →
    let sent := hi.toNat * 256 + lo.toNat
    let b := max 500 (min 6000 sent)
    let excess := (s.zone z).armed = true ∧ b < s.dutSum z
    ∃ t, exec (.zoneBudget f) s = .next t ∧
      t = { s with
        sockets := t.sockets
        zones := s.zones.set z { s.zone z with
          budget := b
          armed := if (s.zone z).armed then decide (s.dutSum z ≤ b) else decide (s.dutSum z ≤ b * 95 / 100) }
        notices := if excess then routineAfter ⟨.zone z, s.run.clock, .budgetOver (s.dutSum z) b⟩ s.notices else s.notices
        link := answered 0x24 f (if b = sent then .ok else .clamped) (be1 z.val ++ be2 b) s.link } ∧
      ∀ i, t.sock i =
        if zoneOf i = z ∧ b < (s.zone z).budget then
          { s.sock i with therm := { (s.sock i).therm with duty := 0, grant := 0, sat := .none } }
        else s.sock i

/-! ## The run -/

/-- RUN-DEFINE in IDLE and READY: where the checks of R4 pass, the record is stored with its target and limit clamped,
declared sockets wait, each zone is assigned its entry, and the run is READY (R2, R4, R5, R102). -/
def Obligations.RunDefineStoresTheRecord : Prop :=
  ∀ (f : Frame) (s : State), Addressed 0x10 f s →
    let p := f.payload
    let n := u8At p 0
    let declared := BitVec.ofNat 32 (u32At p (1 + n))
    let entry := fun z : ZoneId => p.getD (9 + n + z.val) 0
    let target := max 60 (min 4000000 (u32At p (5 + n)))
    let limit := max 1 (u8At p (21 + n))
    p.length = 23 + n → (s.run.state = .idle ∨ s.run.state = .ready) →
    n ≤ 16 → (∀ c ∈ (p.drop 1).take n, 0x20 ≤ c.toNat ∧ c.toNat ≤ 0x7E) → declared ≠ 0 →
    (∀ z, zoneDeclared declared z = true → entry z = 0xFE ∨ (entry z).toNat < 16) →
    (∀ k < 8, (p.getD (13 + n + k) 0).toNat ≤ 3 ∧ (4 ≤ k → p.getD (13 + n + k) 0 ≠ 1)) →
    (∀ z, zoneDeclared declared z = true →
      (s.zone z).railProf.isSome = true ∧ (s.zone z).thermProf.isSome = true) →
    (∀ (z : ZoneId) (k : ProgId), zoneDeclared declared z = true → (entry z).toNat = k.val →
      (s.program k).isSome = true) →
    ∃ t r, exec (.runDefine f) s = .next t ∧ t.run = { s.run with state := .ready, record := some r } ∧
      r.label = (p.drop 1).take n ∧ r.declared = declared ∧ r.target = target ∧ r.retireLimit = limit ∧
      r.powerAtTemp = (p.getD (22 + n) 0 != 0) ∧
      (∀ z : ZoneId, (zoneDeclared declared z = true → r.progs[z].code = entry z) ∧
        (zoneDeclared declared z = false → r.progs[z] = .noProgram)) ∧
      [r.disp.strobe, r.disp.signature, r.disp.early, r.disp.late, r.disp.fast, r.disp.average, r.disp.ramp,
          r.disp.trip].map (fun d => match d with | none => (3 : Byte) | some d => d.code) = (p.drop (13 + n)).take 8 ∧
      t = { s with
        run := t.run
        sockets := t.sockets
        zones := t.zones
        notices := if s.run.state = .idle then
            routineAfter ⟨.board, s.run.clock, .runState .ready s.run.holds⟩ s.notices
          else s.notices
        link :=
          if (target = u32At p (5 + n)) ∧ (limit = u8At p (21 + n)) then answered 0x10 f .ok [] s.link
          else answered 0x10 f .clamped (be4 target ++ be1 limit) s.link } ∧
      (∀ i, t.sock i = { s.sock i with
        life := if declared.getLsbD i.val = true ∧ (s.sock i).life = .empty then .waiting
          else if declared.getLsbD i.val = false ∧ (s.sock i).life = .waiting then .empty else (s.sock i).life }) ∧
      ∀ z, t.zone z = { s.zone z with seq := { (s.zone z).seq with assigned := some r.progs[z] } }

/-- RUN-START in READY with the permit valid, where no declared socket is hot or has a dead sensor and no rail of one is
up: the run is ACTIVE with its clock at 0 and the accounting timer a second away, declared sockets are STRESSING,
uninhibited by RUN and in APPROACH, and each zone leaves IDLE by its entry (R11, R55, R102). Where the permit is not
valid it is refused (R10). Whatever the readings, R55 places each declared socket: TRIPPED where THERMAL stands, with no
record (DESIGN CHOICE, log entry 31); TRIPPED with THERMAL added and a THERMAL-TRIP record where the last reading is at
or above the trip limit, or retired by that record; SENSOR-FAULT with SENSOR added and a SENSOR-FAULT record where the
bad-reading run length is 2 or more, its reading absent where no good one came since the last reset (R52); APPROACH
otherwise. That the case of TRIPPED goes before that of SENSOR-FAULT is the model's (DESIGN CHOICE, log entry 32). From a
state that keeps the demand of its rails, the sets left empty demand: the rails join the queues in ascending number and
the heads ramp (R29, R32, R33). The records' notices come in ascending socket number, and the run goes on unless every
declared socket was retired (R52, R55, R154, R156; the order of these effects is log entry 11, and the zones' log
entry 34). -/
def Obligations.RunStartStartsTheRun : Prop :=
  ∀ (f : Frame) (s : State) (r : RunRecord), Addressed 0x11 f s → f.payload = [] → s.run.state = .ready →
    s.run.record = some r →
    (s.run.permitValid = false →
      exec (.runStart f) s = .next { s with link := answered 0x11 f .permitAbsent [] s.link }) ∧
    (s.run.permitValid = true →
      (∀ i, s.declared i = true → s.startTripped i = false ∧ (s.sock i).therm.badRun < 2 ∧ RailDown s i) →
      (∀ z, (s.zone z).seq.state = .idle ∧ (s.zone z).seq.bufA = .empty ∧ (s.zone z).seq.bufB = .empty) →
      ∃ t, exec (.runStart f) s = .next t ∧
        t.run = { s.run with state := .active, clock := 0, acctTimer := some (s.now + 50000000) } ∧
        t.link = answered 0x11 f .ok [] s.link ∧
        t.notices = routineAfter ⟨.board, 0, .runState .active s.run.holds⟩ s.notices ∧
        (∀ i, (t.sock i).bin = (s.sock i).bin ∧ (t.sock i).acct = (s.sock i).acct ∧ (t.sock i).live = (s.sock i).live) ∧
        (∀ i, s.declared i = true → (t.sock i).life = .stressing ∧
          (t.sock i).rail.inhibit = { (s.sock i).rail.inhibit with
            run := false, cold := (s.sock i).rail.inhibit.cold || r.powerAtTemp } ∧
          (t.sock i).therm = { (s.sock i).therm with
            state := .approach
            integral := 0
            firstInband := false
            teff := match (s.sock i).therm.reading, (s.zone (zoneOf i)).thermProf with
              | some x, _ => x
              | none, some p => clampInt 250 1800 (p.setpoint + (s.sock i).therm.trim)
              | none, none => (s.sock i).therm.teff }) ∧
        (∀ i, s.declared i = false → (t.sock i).life = (s.sock i).life ∧
          (t.sock i).rail.inhibit = (s.sock i).rail.inhibit ∧ (t.sock i).therm = (s.sock i).therm) ∧
        (∀ z, (t.zone z).railProf = (s.zone z).railProf ∧ (t.zone z).thermProf = (s.zone z).thermProf ∧
          (t.zone z).budget = (s.zone z).budget ∧ (t.zone z).armed = (s.zone z).armed ∧
          (t.zone z).seq.passNo = (s.zone z).seq.passNo) ∧
        (∀ z, zoneDeclared r.declared z = false → (t.zone z).seq.state = .done) ∧
        (∀ z, zoneDeclared r.declared z = true → (t.zone z).seq.assigned = some r.progs[z] ∧
          (t.zone z).seq.state = (if r.progs[z] = .noProgram then .static else .priming)) ∧
        t.store.mem = s.store.mem ∧ t.store.pages = s.store.pages ∧ t.store.programs = s.store.programs ∧
        t.store.staging = s.store.staging ∧ t.straps = s.straps ∧ t.now = s.now ∧ t.freeDraws = s.freeDraws ∧
        t.pending = s.pending) ∧
    (s.run.permitValid = true → (∀ z, (s.zone z).seq.state = .idle) →
      let hot := fun (i : SocketId) (x : Int) => (s.sock i).therm.reading = some x ∧
        ∃ p, (s.zone (zoneOf i)).thermProf = some p ∧ p.limit ≤ x
      let stands := fun i : SocketId => (s.sock i).rail.inhibit.thermal = true
      let dead := fun i : SocketId => ¬ stands i ∧ (∀ x, ¬ hot i x) ∧ 2 ≤ (s.sock i).therm.badRun
      let disp := s.disposition .thermalTrip
      let final := fun i : SocketId => disp = .retire ∨ nextIsLast s i = true
      let slot := fun i : SocketId => min 6 ((s.sock i).acct.log.length + 1)
      let note := fun (i : SocketId) (k : FailKind) (q : NoticeQueue) =>
        urgentAfter ⟨.socket i, 0, .fail k (slot i)⟩ q
      let down := fun (i : SocketId) (st : ThermalState) => { (s.sock i).therm with
        state := st, duty := 0, grant := 0, sat := .none, integral := 0, firstInband := false }
      let cold := fun i : SocketId => (s.sock i).rail.inhibit.cold || r.powerAtTemp
      ∃ t, exec (.runStart f) s = .next t ∧ t.link = answered 0x11 f .ok [] s.link ∧ t.now = s.now ∧
        (RailInv s → (∀ i, RailFollowsSet i s t) ∧ ∀ z, QueueMoves z s t) ∧
        (∀ i, s.declared i = true → stands i → (t.sock i).life = .stressing ∧ (t.sock i).acct = (s.sock i).acct ∧
          (t.sock i).therm = down i .tripped ∧
          (t.sock i).rail.inhibit = { (s.sock i).rail.inhibit with run := false, cold := cold i }) ∧
        (∀ i x, s.declared i = true → ¬ stands i → hot i x →
          let fail := { recordOf s i .thermalTrip (s.passStamp (zoneOf i)) disp (.reading x) with clock := 0 }
          (¬ final i → (t.sock i).life = .stressing ∧ (t.sock i).acct = counted (s.sock i).acct fail ∧
            (t.sock i).therm = down i .tripped ∧ (t.sock i).rail.inhibit =
              { (s.sock i).rail.inhibit with run := false, cold := cold i, thermal := true }) ∧
          (final i → (t.sock i).life = .retired ∧ (t.sock i).acct = { counted (s.sock i).acct fail with
              deciding := some ⟨.thermalTrip, slot i⟩, byHost := false } ∧
            (t.sock i).therm = down i .off ∧ (t.sock i).rail.inhibit.thermal = true ∧
            (t.sock i).rail.inhibit.final = true)) ∧
        (∀ i, s.declared i = true → dead i → (t.sock i).life = .stressing ∧
          (t.sock i).acct = { (s.sock i).acct with
            total := min 65535 ((s.sock i).acct.total + 1)
            log := (s.sock i).acct.log.take 5 ++ [{ recordOf s i .sensorFault (s.passStamp (zoneOf i)) .count
              (.lastReading (if (s.sock i).therm.goodSince then (s.sock i).therm.reading else none)) with clock := 0 }] } ∧
          (t.sock i).therm = down i .sensorFault ∧ (t.sock i).rail.inhibit =
            { (s.sock i).rail.inhibit with run := false, cold := cold i, sensor := true }) ∧
        (∀ i, s.declared i = true → ¬ stands i → (∀ x, ¬ hot i x) → ¬ dead i → (t.sock i).life = .stressing ∧
          (t.sock i).acct = (s.sock i).acct ∧ (t.sock i).therm.state = .approach ∧
          ∀ x, (s.sock i).therm.reading = some x → (t.sock i).therm.teff = x) ∧
        (∀ l : List SocketId, l.Pairwise (· < ·) →
          (∀ i, i ∈ l ↔ s.declared i = true ∧ ¬ stands i ∧ ((∃ x, hot i x) ∨ dead i)) →
          let after := l.foldl (fun q i =>
            if s.hot i = false then note i .sensorFault q
            else if disp = .retire ∨ nextIsLast s i = true then
              urgentAfter ⟨.socket i, 0, .retired (some .thermalTrip)⟩ (note i .thermalTrip q)
            else note i .thermalTrip q) s.notices
          t.notices.urgent = after.urgent ∧ t.notices.urgentOver = after.urgentOver) ∧
        ((∃ i, s.declared i = true ∧ ¬ (¬ stands i ∧ (∃ x, hot i x) ∧ final i)) →
          t.run = { s.run with state := .active, clock := 0, acctTimer := some (s.now + 50000000) }) ∧
        ((∀ i, s.declared i = false → (s.sock i).life = .empty) → (∃ i, s.declared i = true) →
          (∀ i, s.declared i = true → ¬ stands i ∧ (∃ x, hot i x) ∧ final i) → t.run.state = .finished))

/-- RUN-PAUSE, addressed or broadcast: in ACTIVE the run is HELD by HOST, playing zones are cut and held, and watched
sockets pause, while rails and heat go on; in HELD it only adds HOST (R12, R13, R115, R147). The order of the notices,
the PASS-VOID ones in ascending zone number and RUN-STATE after them, is the model's (DESIGN CHOICE, log entry 18). -/
def Obligations.RunPauseHoldsTheRun : Prop :=
  ∀ (f : Frame) (s : State), Taken 0x12 f s → f.payload = [] →
    (s.run.state = .held →
      exec (.runPause f) s = .next { s with
        run := { s.run with holds := { s.run.holds with host := true } }
        notices := if s.run.holds.host then s.notices
          else routineAfter ⟨.board, s.run.clock, .runState .held ⟨true, s.run.holds.permit⟩⟩ s.notices
        link := afterTaken 0x12 f .ok [] s.link }) ∧
    (s.run.state ≠ .active → s.run.state ≠ .held →
      exec (.runPause f) s = .next { s with link := afterTaken 0x12 f .wrongState [] s.link }) ∧
    (s.run.state = .active →
      let cut := fun z : ZoneId => (s.zone z).seq.state.inPass
      ∃ t, exec (.runPause f) s = .next t ∧
        t = { s with
          run := { s.run with state := .held, holds := { s.run.holds with host := true } }
          sockets := t.sockets
          zones := t.zones
          notices := routineAfter ⟨.board, s.run.clock, .runState .held ⟨true, s.run.holds.permit⟩⟩
            (((List.finRange 4).filter cut).foldl (fun q z => routineAfter
              ⟨.zone z, s.run.clock, .passVoid (s.zone z).seq.passNo ((s.zone z).seq.void.getD .hold)⟩ q) s.notices)
          link := afterTaken 0x12 f .ok [] s.link } ∧
        (∀ i, t.sock i = { s.sock i with
          pass := if cut (zoneOf i) then { (s.sock i).pass with checked := false } else (s.sock i).pass
          live := match (s.sock i).live.state with
            | .resetHeld => { (s.sock i).live with state := .paused, timer := none, owed := true }
            | .ignore | .waitFirst | .watch => { (s.sock i).live with state := .paused, timer := none }
            | .idle | .paused => (s.sock i).live }) ∧
        ∀ z, t.zone z =
          match (s.zone z).seq.state with
          | .playing | .stalled => { s.zone z with
              seq := { (s.zone z).seq with
                state := .held, bufA := .empty, bufB := .empty, next := none, gapTimer := none,
                drive := s.idleWord z, void := some ((s.zone z).seq.void.getD .hold),
                voidCount := min 4294967295 ((s.zone z).seq.voidCount + 1) }
              chk := { (s.zone z).chk with opened := false } }
          | .priming | .gap => { s.zone z with
              seq := { (s.zone z).seq with
                state := .held, bufA := .empty, bufB := .empty, next := none, gapTimer := none,
                drive := s.idleWord z } }
          | _ => s.zone z)

/-- RUN-RESUME in HELD, addressed or broadcast: HOST goes; a PERMIT cause with the permit invalid stays and is answered
PERMIT-ABSENT; else the run is ACTIVE, PERMIT leaves the inhibit sets, HELD loops approach from their last reading, held
zones prime or are static, and paused sockets begin an owed cycle or a first window (R15, R58, R116, R147); an IDLE one
stays IDLE, also under a heartbeat part given in the hold (DESIGN CHOICE, log entry 44). From a state
that keeps the demand of its rails, the sets left empty demand: the rails join the queues in ascending number, or rest
out their off-time, and the heads ramp (R29, R32, R33). -/
def Obligations.RunResumeResumesTheRun : Prop :=
  ∀ (f : Frame) (s : State), Taken 0x13 f s → f.payload = [] → s.run.state = .held →
    (s.run.holds.permit = true → s.run.permitValid = false →
      exec (.runResume f) s = .next { s with
        run := { s.run with holds := ⟨false, true⟩ }
        notices := if s.run.holds.host then
            routineAfter ⟨.board, s.run.clock, .runState .held ⟨false, true⟩⟩ s.notices
          else s.notices
        link := afterTaken 0x13 f .permitAbsent [] s.link }) ∧
    (s.run.holds.permit = false ∨ s.run.permitValid = true →
      (∀ z, (s.zone z).seq.state = .held → (s.zone z).seq.bufA = .empty ∧ (s.zone z).seq.bufB = .empty) →
      ∃ t, exec (.runResume f) s = .next t ∧
        t.run = { s.run with state := .active, holds := ⟨false, false⟩ } ∧
        t.link = afterTaken 0x13 f .ok [] s.link ∧
        t.notices = (if s.run.holds.host = true ∨ s.run.holds.permit = true then
            routineAfter ⟨.board, s.run.clock, .runState .active ⟨false, false⟩⟩ s.notices
          else s.notices) ∧
        (∀ i, (t.sock i).life = (s.sock i).life ∧ (t.sock i).bin = (s.sock i).bin ∧
          (t.sock i).acct = (s.sock i).acct ∧
          (t.sock i).therm =
            (if s.run.holds.permit = true ∧ (s.sock i).therm.state = .held then
              { (s.sock i).therm with
                state := .approach
                teff := match (s.sock i).therm.reading, (s.zone (zoneOf i)).thermProf with
                  | some x, _ => x
                  | none, some p => clampInt 250 1800 (p.setpoint + (s.sock i).therm.trim)
                  | none, none => (s.sock i).therm.teff }
            else (s.sock i).therm) ∧
          (t.sock i).rail.inhibit =
            (if s.run.holds.permit then { (s.sock i).rail.inhibit with permit := false } else (s.sock i).rail.inhibit) ∧
          (s.run.holds.permit = false → (t.sock i).rail = (s.sock i).rail) ∧ (RailInv s → RailFollowsSet i s t) ∧
          ((s.sock i).live.state ≠ .paused → (t.sock i).live = (s.sock i).live) ∧
          ((s.sock i).live.state = .paused → (s.sock i).live.owed = true →
            (t.sock i).live = { (s.sock i).live with
              state := .resetHeld, timer := some (s.nowMs + s.tReset (zoneOf i)), owed := false } ∧
            (t.sock i).pass.checked = false) ∧
          ((s.sock i).live.state = .paused → (s.sock i).live.owed = false →
            (t.sock i).live = match s.hbPart (zoneOf i) with
              | some h => { (s.sock i).live with state := .waitFirst, timer := some (s.nowMs + (h.tMin + h.tWin)) }
              | none => { (s.sock i).live with state := .idle, timer := none })) ∧
        (∀ z, (RailInv s → QueueMoves z s t) ∧
          ((s.zone z).seq.state ≠ .held → (t.zone z).seq = (s.zone z).seq) ∧
          ((s.zone z).seq.state = .held → (t.zone z).seq.assigned = (s.zone z).seq.assigned ∧
            (t.zone z).seq.passNo = (s.zone z).seq.passNo ∧
            (t.zone z).seq.state = (if (s.assignedSlot z).isSome then .priming else .static))) ∧
        t.store.mem = s.store.mem ∧ t.store.pages = s.store.pages ∧ t.store.programs = s.store.programs ∧
        t.store.staging = s.store.staging ∧ t.straps = s.straps ∧ t.now = s.now ∧ t.freeDraws = s.freeDraws ∧
        t.pending = s.pending)

/-- RUN-ABORT in READY, ACTIVE and HELD, addressed or broadcast, from a state that keeps laws 1 to 3: the run is ABORTED,
every heater is OFF, every heartbeat IDLE, every zone IDLE, every declared rail down, and every socket has its bin
(R16, R121, R166). -/
def Obligations.RunAbortEndsTheRun : Prop :=
  ∀ (f : Frame) (s : State), Taken 0x14 f s → f.payload = [] → RailLaws s →
    (s.run.state = .ready ∨ s.run.state = .active ∨ s.run.state = .held) →
    ∃ t, exec (.runAbort f) s = .next t ∧
      t.run = { s.run with state := .aborted, holds := ⟨false, false⟩, acctTimer := none } ∧
      t.link = afterTaken 0x14 f .ok [] s.link ∧
      t.notices.urgent =
        (urgentAfter ⟨.board, s.run.clock, .runState .aborted ⟨false, false⟩⟩ s.notices).urgent ∧
      (∀ i, (t.sock i).life = (s.sock i).life ∧ (t.sock i).acct = (s.sock i).acct ∧
        (t.sock i).bin = some (match (s.sock i).life with
          | .empty => .empty
          | .waiting | .stressing => .incomplete
          | .complete => if (s.sock i).acct.total = 0 then .pass else .passRecovered
          | .retired =>
            match (s.sock i).acct.deciding.map (fun d : Deciding => d.kind.cls) with
            | some .functional => .failFunction
            | some .power => .failPower
            | some .thermal => .failThermal
            | some .board | none => .failHost) ∧
        (t.sock i).therm = { (s.sock i).therm with state := .off, duty := 0, grant := 0, sat := .none, integral := 0 } ∧
        (t.sock i).live = { (s.sock i).live with state := .idle, timer := none, owed := false } ∧
        (t.sock i).pass = { (s.sock i).pass with checked := false } ∧
        (t.sock i).rail.inhibit = { (s.sock i).rail.inhibit with
          run := (s.sock i).rail.inhibit.run || s.declared i, permit := false, cold := false, sensor := false } ∧
        (s.declared i = true → RailDown t i) ∧ (t.sock i).rail.trips = (s.sock i).rail.trips) ∧
      (∀ z, (t.zone z).seq = { (s.zone z).seq with
          state := .idle, bufA := .empty, bufB := .empty, next := none, gapTimer := none, staged := none, drive := 0,
          fetch := none } ∧
        (t.zone z).chk = { (s.zone z).chk with opened := false } ∧
        (t.zone z).railProf = (s.zone z).railProf ∧ (t.zone z).thermProf = (s.zone z).thermProf ∧
        (t.zone z).budget = (s.zone z).budget) ∧
      t.store.mem = s.store.mem ∧ t.store.pages = s.store.pages ∧ t.store.programs = s.store.programs ∧
      t.store.staging = s.store.staging ∧ t.straps = s.straps ∧ t.now = s.now ∧ t.freeDraws = s.freeDraws ∧
      t.pending = s.pending

/-- RUN-CLEAR in FINISHED and ABORTED returns the board to IDLE: the record, lifecycles, bins, accounts, pass contexts
and counts go, RUN stays and FINAL leaves, and settings, rails and lanes are kept (R18, R44, R69, R123, R136, R150,
R169). -/
def Obligations.RunClearClearsTheRun : Prop :=
  ∀ (f : Frame) (s : State), Addressed 0x15 f s → f.payload = [] →
    (s.run.state = .finished ∨ s.run.state = .aborted) →
    ∃ t, exec (.runClear f) s = .next t ∧
      t = { s with
        run := { s.run with state := .idle, record := none, holds := ⟨false, false⟩, clock := 0, acctTimer := none }
        sockets := t.sockets
        zones := t.zones
        notices := routineAfter ⟨.board, 0, .runState .idle ⟨false, false⟩⟩ s.notices
        link := answered 0x15 f .ok [] s.link } ∧
      (∀ i, t.sock i =
        { life := .empty
          bin := none
          rail := { (s.sock i).rail with
            inhibit := { (s.sock i).rail.inhibit with cold := false, sensor := false, final := false }
            trips := 0
            power := 0 }
          therm := { (s.sock i).therm with firstInband := false }
          live := { (s.sock i).live with cycles := 0, lastEdge := none, owed := false }
          pass := { checked := false, count := 0, first := none, crc := 0xFFFF, lpc := 0, nChecked := 0, nFailed := 0 }
          acct := { credit := 0, log := [], total := 0, counted := 0, deciding := none, byHost := false } }) ∧
      ∀ z, PlayFresh (t.zone z) ∧ t.zone z = { s.zone z with seq := (t.zone z).seq, chk := (t.zone z).chk }

/-- ZONE-PROGRAM for a zone in the run: in READY it changes the record's entry and the assignment; in a pass, PRIMING or
GAP it stages; from HALTED, STATIC and HELD it is taken at once, the zone moves as the table of R119 gives, and the
heartbeat windows restart under the new program (R6, R101, R118, R119, R148); an IDLE socket of a HELD run stays IDLE
under it (DESIGN CHOICE, log entry 44). -/
def Obligations.ZoneProgramAssigns : Prop :=
  ∀ (f : Frame) (s : State) (r : RunRecord) (z : ZoneId) (e : ProgSel), Addressed 0x25 f s →
    f.payload = [BitVec.ofNat 8 z.val, e.code] → s.run.record = some r → zoneDeclared r.declared z = true →
    (∀ k, e = .slot k → (s.program k).isSome = true) →
    let q := (s.zone z).seq
    let part := match e with
      | .noProgram => none
      | .slot k => (s.program k).bind (·.hb)
    (s.run.state = .ready → q.state ≠ .done →
      exec (.zoneProgram f) s = .next { s with
        run := { s.run with record := some { r with progs := r.progs.set z e } }
        zones := s.zones.set z { s.zone z with seq := { q with assigned := some e } }
        link := answered 0x25 f .ok [e.code, progCode q.staged] s.link }) ∧
    (s.run.state = .active ∨ s.run.state = .held →
      (q.state = .priming ∨ q.state = .playing ∨ q.state = .stalled ∨ q.state = .gap →
        exec (.zoneProgram f) s = .next { s with
          zones := s.zones.set z { s.zone z with seq := { q with staged := some e } }
          link := answered 0x25 f .ok [progCode q.assigned, e.code] s.link }) ∧
      (q.state = .done →
        exec (.zoneProgram f) s = .next { s with link := answered 0x25 f .wrongState [] s.link }) ∧
      (q.state = .halted ∨ q.state = .static ∨ (q.state = .held ∧ s.run.state = .held) →
        q.bufA = .empty → q.bufB = .empty →
        ∃ t, exec (.zoneProgram f) s = .next t ∧
          t = { s with
            sockets := t.sockets
            zones := t.zones
            store := t.store
            link := answered 0x25 f .ok [e.code, 0xFF] s.link } ∧
          (t.zone z).seq.assigned = some e ∧ (t.zone z).seq.staged = none ∧ (t.zone z).seq.halt = q.halt ∧
          (t.zone z).seq.passNo = q.passNo ∧
          (t.zone z).seq.state =
            (if s.run.state = .held then if q.state = .static ∧ e = .noProgram then .static else .held
            else if e = .noProgram then .static else .priming) ∧
          (t.zone z).seq.drive = (match e with
            | .noProgram => 0
            | .slot k => ((s.program k).map (·.idleWord)).getD 0) ∧
          (∀ y, y ≠ z → t.zone y = s.zone y) ∧
          (∀ i, zoneOf i ≠ z → t.sock i = s.sock i) ∧
          (∀ i, zoneOf i = z → t.sock i = { s.sock i with
            live := match (s.sock i).live.state, part with
              | .waitFirst, some h | .watch, some h =>
                  { (s.sock i).live with state := .waitFirst, timer := some (s.nowMs + (h.tMin + h.tWin)) }
              | .waitFirst, none | .watch, none => { (s.sock i).live with state := .idle, timer := none }
              | .idle, some h =>
                  if (s.sock i).rail.state = .on ∧ (s.sock i).life = .stressing ∧ s.run.state = .active then
                    { (s.sock i).live with state := .waitFirst, timer := some (s.nowMs + (h.tMin + h.tWin)) }
                  else (s.sock i).live
              | .idle, none =>
                  if (s.sock i).rail.state = .on ∧ (s.sock i).life = .stressing ∧ s.run.state = .active then
                    { (s.sock i).live with timer := none }
                  else (s.sock i).live
              | .resetHeld, _ | .ignore, _ | .paused, _ => (s.sock i).live }) ∧
          t.store.mem = s.store.mem ∧ t.store.pages = s.store.pages ∧ t.store.programs = s.store.programs ∧
          t.store.staging = s.store.staging))

/-- SOCKET-RETIRE retires a STRESSING socket of a started run by the host: no record, FINAL in its set, its heater and
heartbeat off, out of its pass, and an urgent RETIRED notice; the run goes on as it was while another socket waits or is
under stress, and is FINISHED otherwise. Any other socket is refused (R157, R158, R165). -/
def Obligations.SocketRetireRetires : Prop :=
  ∀ (f : Frame) (s : State) (i : SocketId), Addressed 0x40 f s → f.payload = [BitVec.ofNat 8 i.val] →
    (((s.run.state ≠ .active ∧ s.run.state ≠ .held) ∨ (s.sock i).life ≠ .stressing) →
      exec (.socketRetire f) s = .next { s with link := answered 0x40 f .wrongState [] s.link }) ∧
    (s.run.state = .active ∨ s.run.state = .held → (s.sock i).life = .stressing →
      ∃ t, exec (.socketRetire f) s = .next t ∧
        (t.sock i).life = .retired ∧
        (t.sock i).acct = { (s.sock i).acct with deciding := none, byHost := true } ∧
        (t.sock i).rail.inhibit.final = true ∧
        (t.sock i).therm = { (s.sock i).therm with state := .off, duty := 0, grant := 0, sat := .none, integral := 0 } ∧
        (t.sock i).live = { (s.sock i).live with state := .idle, timer := none, owed := false } ∧
        (t.sock i).pass = { (s.sock i).pass with checked := false } ∧
        t.notices.urgent = (urgentAfter ⟨.socket i, s.run.clock, .retired none⟩ s.notices).urgent ∧
        t.link = answered 0x40 f .ok [] s.link ∧
        (∀ j, j ≠ i → (t.sock j).life = (s.sock j).life ∧ (t.sock j).acct = (s.sock j).acct) ∧
        ((∀ j, zoneOf j = zoneOf i → j ≠ i → (s.sock j).life ≠ .stressing) →
          (t.zone (zoneOf i)).seq.state = .done ∨ t.run.state = .finished) ∧
        ((∃ j, j ≠ i ∧ ((s.sock j).life = .waiting ∨ (s.sock j).life = .stressing)) → t.run = s.run ∧
          ∀ j, j ≠ i → (t.sock j).therm = (s.sock j).therm ∧ (t.sock j).live = (s.sock j).live ∧
            (t.sock j).bin = (s.sock j).bin) ∧
        ((∀ j, j ≠ i → (s.sock j).life ≠ .waiting ∧ (s.sock j).life ≠ .stressing) →
          t.run = { s.run with state := .finished, holds := ⟨false, false⟩, acctTimer := none } ∧
          (t.sock i).bin = some .failHost) ∧
        t.store.mem = s.store.mem ∧ t.store.pages = s.store.pages ∧ t.store.programs = s.store.programs ∧
        t.store.staging = s.store.staging ∧ t.straps = s.straps ∧ t.now = s.now ∧ t.freeDraws = s.freeDraws ∧
        t.pending = s.pending)

/-- An edge of OVEN-PERMIT starts or restarts the edge timer, and the second edge of a running timer makes the permit
valid; with the timeout at 0 edges are disregarded (R19). The expiry of the edge timer makes the permit invalid. In an
ACTIVE run, or one HELD without PERMIT, from a state that keeps laws 1 to 3, that holds the run: every STRESSING socket
carries PERMIT with its rail down and its heater off, playing zones of an ACTIVE run are cut and held, and the notice is
urgent (R13, R14, R19, R58, R115, R147). From a state that keeps the demand of its rails, each rail so opened is OFF with
its off-time started, and the queues close up and ramp (R30, R33, R42). -/
def Obligations.PermitMonitorWatches : Prop :=
  (∀ s : State, exec .ovenPermitEdge s = .next (
     if s.run.permitTimeout = 0 then s
     else { s with
       run := match s.run.edgeTimer with
         | none => { s.run with edgeTimer := some (s.now + s.run.permitTimeout * 50000), edgeCount := 1 }
         | some _ => { s.run with
             edgeTimer := some (s.now + s.run.permitTimeout * 50000)
             edgeCount := min 2 (s.run.edgeCount + 1)
             permitValid := s.run.permitValid || decide (1 ≤ s.run.edgeCount) } })) ∧
  (∀ (s : State) (e : Nat), s.run.edgeTimer = some e →
     let run := { s.run with edgeTimer := none, edgeCount := 0, permitValid := false }
     let felt := s.run.permitValid = true ∧
       (s.run.state = .active ∨ (s.run.state = .held ∧ s.run.holds.permit = false))
     (¬ felt → exec .permitTimerExpiry s = .next { s with run := run, now := max s.now e }) ∧
     (felt → RailLaws s →
       ∃ t, exec .permitTimerExpiry s = .next t ∧
         t.run = { run with state := .held, holds := { s.run.holds with permit := true } } ∧ t.now = max s.now e ∧
         t.notices.urgent =
           (urgentAfter ⟨.board, s.run.clock, .runState .held ⟨s.run.holds.host, true⟩⟩ s.notices).urgent ∧
         (∀ i, (t.sock i).life = (s.sock i).life ∧ (t.sock i).bin = (s.sock i).bin ∧
           (t.sock i).acct = (s.sock i).acct ∧
           (RailInv s → RailFollowsSet i s t) ∧
           ((s.sock i).life = .stressing →
             (t.sock i).rail.inhibit = { (s.sock i).rail.inhibit with permit := true } ∧ RailDown t i ∧
             (t.sock i).rail.trips = (s.sock i).rail.trips ∧
             (t.sock i).therm = (if (s.sock i).therm.state = .approach ∨ (s.sock i).therm.state = .inband ∨
                 (s.sock i).therm.state = .outband then
               { (s.sock i).therm with state := .held, duty := 0, grant := 0, sat := .none }
             else (s.sock i).therm) ∧
             ((s.sock i).rail.state = .on →
               (t.sock i).live = { (s.sock i).live with state := .idle, timer := none, owed := false })) ∧
           ((s.sock i).life ≠ .stressing →
             (t.sock i).rail.inhibit = (s.sock i).rail.inhibit ∧ (t.sock i).therm = (s.sock i).therm)) ∧
         (RailInv s → ∀ z, QueueMoves z s t) ∧
         (∀ z, (t.zone z).seq =
           if s.run.state = .active then
             match (s.zone z).seq.state with
             | .playing | .stalled => { (s.zone z).seq with
                 state := .held, bufA := .empty, bufB := .empty, next := none, gapTimer := none,
                 drive := s.idleWord z, void := some ((s.zone z).seq.void.getD .hold),
                 voidCount := min 4294967295 ((s.zone z).seq.voidCount + 1) }
             | .priming | .gap => { (s.zone z).seq with
                 state := .held, bufA := .empty, bufB := .empty, next := none, gapTimer := none,
                 drive := s.idleWord z }
             | _ => (s.zone z).seq
           else (s.zone z).seq) ∧
         t.store = s.store ∧ t.link = s.link ∧ t.straps = s.straps ∧ t.freeDraws = s.freeDraws ∧
         t.pending = s.pending))

/-! ## The pattern store -/

/-- PAGE-OPEN opens or restarts a FREE or OPEN page and PAGE-FREE frees an unnamed one, as the page's state, its count
and the staging buffer allow; every other page, and every vector slot, is left alone (R80, and the table of R87). -/
def Obligations.PagesOpenAndFree : Prop :=
  (∀ (f : Frame) (s : State) (pg : PageId), Addressed 0x30 f s → f.payload = [BitVec.ofNat 8 pg.val] →
    exec (.pageOpen f) s = .next (
      let opened := { s with
        store := { s.store with
          pages := s.store.pages.set pg { s.page pg with state := .opened, cursor := 0, crc := 0xFFFF, count := none } }
        link := answered 0x30 f .ok [0, 0, 0xFF, 0xFF] s.link }
      match (s.page pg).state with
      | .free => opened
      | .opened =>
        if ∃ c ∈ s.store.staging, c.page = pg then { s with link := answered 0x30 f .busy [] s.link } else opened
      | .sealed =>
        if 0 < (s.page pg).refs then { s with link := answered 0x30 f .inUse [] s.link }
        else { s with link := answered 0x30 f .wrongState [] s.link })) ∧
  (∀ (f : Frame) (s : State) (pg : PageId), Addressed 0x33 f s → f.payload = [BitVec.ofNat 8 pg.val] →
    exec (.pageFree f) s = .next (
      let freed := { s with
        store := { s.store with
          pages := s.store.pages.set pg { s.page pg with state := .free, cursor := 0, crc := 0xFFFF, count := none } }
        link := answered 0x33 f .ok [] s.link }
      match (s.page pg).state with
      | .free => { s with link := answered 0x33 f .ok [] s.link }
      | .opened =>
        if ∃ c ∈ s.store.staging, c.page = pg then { s with link := answered 0x33 f .busy [] s.link } else freed
      | .sealed =>
        if 0 < (s.page pg).refs then { s with link := answered 0x33 f .inUse [] s.link } else freed))

/-- PAGE-DATA at the cursor of an OPEN page, with staging empty and room in the page, is staged: the cursor advances,
the running CRC is fed the record bytes, the vectors staged spell the records, and the writer's request stands at the
port with its wait count at 0, granted at once at an idle port where no fetch waits (R79, R81, R82, R95). Off the cursor
it is refused OUT-OF-ORDER, and with staging full BUSY, both with the cursor. -/
def Obligations.PageDataStagesTheChunk : Prop :=
  ∀ (f : Frame) (s : State) (pg : PageId), Addressed 0x31 f s → u8At f.payload 0 = pg.val →
    let p := f.payload
    let n := u8At p 3
    p.length = 4 + 5 * n → 1 ≤ n → n ≤ 48 → (∀ k < n, (p.getD (8 + 5 * k) 0).toNat < 16) →
    (s.page pg).state = .opened →
    let cursor := (s.page pg).cursor
    (u16At p 1 ≠ cursor →
      exec (.pageData f) s = .next { s with link := answered 0x31 f .outOfOrder (be2 cursor) s.link }) ∧
    (u16At p 1 = cursor → 512 < cursor + n →
      exec (.pageData f) s = .next { s with link := answered 0x31 f .badValue [] s.link }) ∧
    (u16At p 1 = cursor → cursor + n ≤ 512 → s.store.staging.isSome = true →
      exec (.pageData f) s = .next { s with link := answered 0x31 f .busy (be2 cursor) s.link }) ∧
    (u16At p 1 = cursor → cursor + n ≤ 512 → s.store.staging = none →
      ∃ t c, exec (.pageData f) s = .next t ∧
        t = { s with store := t.store, link := answered 0x31 f .ok (be2 (cursor + n)) s.link } ∧
        t.store.staging = some c ∧ c.page = pg ∧ c.first = cursor ∧ c.vecs.length = n ∧
        (∀ k < n, ∀ v ∈ c.vecs[k]?, v.bytes = (p.drop (4 + 5 * k)).take 5) ∧
        t.page pg = { s.page pg with cursor := cursor + n, crc := crcFeed (s.page pg).crc (p.drop 4) } ∧
        (∀ q, q ≠ pg → t.page q = s.page q) ∧ t.store.mem = s.store.mem ∧ t.store.programs = s.store.programs ∧
        (∀ x, s.store.port = some x → t.store.port = some x ∧ t.store.portEnd = s.store.portEnd ∧
          t.store.waitCount = 0) ∧
        (s.store.port = none → (∀ z, (s.zone z).seq.fetch = none) →
          t.store.port = some .staging ∧ t.store.portEnd = s.now + n ∧ t.store.waitCount = 0))

/-- PAGE-CLOSE checks staging, the state, the count and CRC against what was accepted, and the flag structure of the
vectors as they stand in memory, and seals the page where all agree (R84, R86; the index that a vector with LOOP-MARK
and END is told under is log entry 39). -/
def Obligations.PageCloseSeals : Prop :=
  ∀ (f : Frame) (s : State) (pg : PageId) (nh nl ch cl : Byte), Addressed 0x32 f s →
    f.payload = [BitVec.ofNat 8 pg.val, nh, nl, ch, cl] →
    let n := nh.toNat * 256 + nl.toNat
    let e := s.page pg
    let vecs := (List.range n).map fun k => vecOf (memRead s.store.mem (slotAddr pg k))
    exec (.pageClose f) s = .next (
      if ∃ c ∈ s.store.staging, c.page = pg then { s with link := answered 0x32 f .busy [] s.link }
      else if e.state ≠ .opened then { s with link := answered 0x32 f .wrongState [] s.link }
      else if n = 0 ∨ n ≠ e.cursor ∨ ch ++ cl ≠ e.crc then
        { s with link := answered 0x32 f .badCheck (be2 e.cursor ++ be2 e.crc.toNat) s.link }
      else
        match firstBadFlag vecs with
        | some i => { s with link := answered 0x32 f .badContent (be2 i) s.link }
        | none => { s with
            store := { s.store with pages := s.store.pages.set pg { e with state := .sealed, count := some n } }
            link := answered 0x32 f .ok [nh, nl] s.link })

/-- The flag structure of a page: the scan finds no fault exactly where the structure is correct, and else the first
failing index, or that of a LOOP-MARK left open (R85). That a LOOP-MARK stands from its own vector on, so that one with
END and no LOOP-BACK yet fails there, is the model's (DESIGN CHOICE, log entry 39). -/
def Obligations.FlagStructureIsScanned : Prop :=
  ∀ vs : List Vec, (firstBadFlag vs = none ↔ FlagsCorrect vs) ∧
    ∀ i, firstBadFlag vs = some i ↔
      (i < vs.length ∧ ScanFailsAt vs i ∧ ∀ j < i, ¬ ScanFailsAt vs j) ∨
      ((∀ j < vs.length, ¬ ScanFailsAt vs j) ∧ flagAt Vec.loopMark vs i = true ∧
        ¬ flagBefore Vec.loopBack vs vs.length)

/-- PROGRAM-DEFINE that passes the checks of R91 stores the program with its fields at the nearest end of their ranges,
answers with it as stored, and moves the reference counts from the old page list to the new (R91, R92). -/
def Obligations.ProgramDefineStores : Prop :=
  ∀ (f : Frame) (s : State) (k : ProgId), Addressed 0x38 f s → u8At f.payload 0 = k.val →
    let p := f.payload
    let m := u8At p 1
    let parts := p.getD (14 + m) 0
    let h := if parts.getLsbD 0 then 18 + m else 15 + m
    let pages : List PageId := ((p.drop 2).take m).map fun b => b.toFin
    let old := ((s.program k).map (·.pages)).getD []
    p.length = 15 + m + (if parts.getLsbD 0 then 3 else 0) + (if parts.getLsbD 1 then 9 else 0) →
    1 ≤ m → m ≤ 32 → 1 ≤ u16At p (2 + m) → u16At p (2 + m) ≤ 512 →
    (p.getD (13 + m) 0).toNat ≤ 2 → (p.getD (13 + m) 0 ≠ 0 → parts.getLsbD 0 = true) →
    s.inUse k = false → (∀ pg ∈ pages, (s.page pg).state = .sealed) →
    (∀ pg ∈ pages.getLast?, u16At p (2 + m) ≤ (s.page pg).count.getD 0) →
    ∃ t d, exec (.programDefine f) s = .next t ∧
      d.pages = pages ∧ d.lastCount = u16At p (2 + m) ∧ d.loopRep = max 1 (u16At p (4 + m)) ∧
      d.divN = max 4 (u16At p (6 + m)) ∧ d.fracF = min 15 (u8At p (8 + m)) ∧
      d.gap = min 60000 (u16At p (9 + m)) ∧ d.idleWord = BitVec.ofNat 16 (u16At p (11 + m)) ∧
      d.mode.code = p.getD (13 + m) 0 ∧
      d.sig = (if parts.getLsbD 0 then some ⟨BitVec.ofNat 16 (u16At p (15 + m)), p.getD (17 + m) 0⟩ else none) ∧
      d.hb = (if parts.getLsbD 1 then some
          { tMin := max 1 (min 60000 (u16At p h)), tWin := max 1 (min 60000 (u16At p (h + 2))),
            tReset := max 1 (min 1000 (u16At p (h + 4))), tIgnore := min 60000 (u16At p (h + 6)),
            cycleLimit := min 15 (u8At p (h + 8)) }
        else none) ∧
      t = { s with
        store := { s.store with programs := s.store.programs.set k (some d), pages := t.store.pages }
        link := answered 0x38 f
          (if (p.drop 1).set (13 + m) (d.bytes.getD (13 + m) 0) = d.bytes then .ok else .clamped)
          (be1 k.val ++ d.bytes) s.link } ∧
      ∀ pg, t.page pg = { s.page pg with refs := (s.page pg).refs + pages.count pg - old.count pg }

/-- PROGRAM-DELETE empties a defined slot that is not in use, and the reference count of each page falls by one for each
entry that named it. -/
def Obligations.ProgramDeleteEmptiesTheSlot : Prop :=
  ∀ (f : Frame) (s : State) (b : Byte), Addressed 0x39 f s → f.payload = [b] →
    (15 < b.toNat → exec (.programDelete f) s = .next { s with link := answered 0x39 f .badValue [] s.link }) ∧
    ∀ k : ProgId, b.toNat = k.val →
      (s.program k = none →
        exec (.programDelete f) s = .next { s with link := answered 0x39 f .notFound [] s.link }) ∧
      ∀ d, s.program k = some d →
        (s.inUse k = true → exec (.programDelete f) s = .next { s with link := answered 0x39 f .inUse [] s.link }) ∧
        (s.inUse k = false →
          ∃ t, exec (.programDelete f) s = .next t ∧
            t = { s with
              store := { s.store with programs := s.store.programs.set k none, pages := t.store.pages }
              link := answered 0x39 f .ok [] s.link } ∧
            ∀ pg, t.page pg = { s.page pg with refs := (s.page pg).refs - d.pages.count pg })

/-- The staging writer's transfer ends: the chunk's vectors stand in their slots with even parity, no other slot has
changed, and the staging buffer is empty (R79, R83). -/
def Obligations.StagingWriteStoresTheVectors : Prop :=
  ∀ (s : State) (c : Chunk), s.store.port = some .staging → s.store.staging = some c → MemoryWf s →
    ∃ t, exec .stagingWriteDone s = .next t ∧
      t = { s with store := t.store, now := max s.now s.store.portEnd } ∧
      (∀ k < c.vecs.length, ∀ v ∈ c.vecs[k]?,
        vecOf (memRead t.store.mem (slotAddr c.page (c.first + k))) = v ∧
        parityBad (memRead t.store.mem (slotAddr c.page (c.first + k))) = false) ∧
      (∀ a, (∀ k < c.vecs.length, a ≠ slotAddr c.page (c.first + k)) → memRead t.store.mem a = memRead s.store.mem a) ∧
      t.store.staging = none ∧ t.store.pages = s.store.pages ∧ t.store.programs = s.store.programs

/-- A fetch burst ends (R97, R98, R106, R107, R111, R117). The operand names the slots read wrong (DESIGN CHOICE, log
entry 6). With a vector that fails its parity the zone halts at the first such, its buffers empty and the idle word on
its lines, and a pass so cut closes unjudged with every checked flag of the zone clear; with more to read the next burst stands; at the last, the wanted page fills its buffer, and starts the pass
of a PRIMING zone or goes on with the pass of a STALLED one, and a page that is not wanted fills nothing: its buffer is
empty, and the fetch of the wanted page, where no buffer holds it, starts into the buffer not played last (log entry 15;
that the buffer just played holds its page for PRIMING and GAP is log entry 35). Which page is wanted is compared by
slot, position, page and count (DESIGN CHOICE, log entry 36), and a next page is fetched as it was chosen (DESIGN
CHOICE, log entry 42). A fetch in progress reads on though its page was freed, and one that waited starts (DESIGN
CHOICE, log entry 40), and a halted zone with no program assigned drives 0 (DESIGN CHOICE, log
entry 41). -/
def Obligations.FetchBurstsFillOrHalt : Prop :=
  ∀ (s : State) (z : ZoneId) (g : Fetch) (wrong : List (Nat × Slot)), s.store.port = some (.burst z) →
    (s.zone z).seq.fetch = some g →
    let start := 64 * g.burst
    let read := fun k => memRead s.store.mem (slotAddr g.tag.page k) ^^^ (wrong.lookup k).getD 0
    let got := (List.range (min 64 (g.tag.count - start))).map fun k => read (start + k)
    let q := (s.zone z).seq
    ∃ t, exec (.fetchBurstDone wrong) s = .next t ∧
      t.run = s.run ∧ t.now = max s.now s.store.portEnd ∧ t.link = s.link ∧ t.straps = s.straps ∧
      t.freeDraws = s.freeDraws ∧ t.pending = s.pending ∧
      t.store.mem = s.store.mem ∧ t.store.pages = s.store.pages ∧ t.store.programs = s.store.programs ∧
      t.store.staging = s.store.staging ∧
      (∀ y, y ≠ z → t.zone y = s.zone y) ∧
      t.zone z = { s.zone z with seq := (t.zone z).seq, chk := (t.zone z).chk } ∧
      (∀ i, t.sock i = { s.sock i with pass := (t.sock i).pass } ∧ (zoneOf i ≠ z → t.sock i = s.sock i)) ∧
      (∀ idx, idx < start + got.length → start ≤ idx → parityBad (read idx) = true →
        (∀ k, start ≤ k → k < idx → parityBad (read k) = false) →
        (t.zone z).seq.state = .halted ∧ (t.zone z).seq.halt = some (g.tag.page, idx) ∧ (t.zone z).seq.fetch = none ∧
        (t.zone z).seq.bufA = .empty ∧ (t.zone z).seq.bufB = .empty ∧ (t.zone z).seq.gapTimer = none ∧
        (t.zone z).seq.drive = s.idleWord z ∧ (t.zone z).seq.passNo = q.passNo ∧
        (t.zone z).seq.assigned = q.assigned ∧ (t.zone z).seq.staged = q.staged ∧
        (t.zone z).seq.voidCount = (if q.state.inPass then min 4294967295 (q.voidCount + 1) else q.voidCount) ∧
        (t.zone z).chk = (if q.state.inPass then { (s.zone z).chk with opened := false } else (s.zone z).chk) ∧
        (∀ i, zoneOf i = z → (t.sock i).pass =
          if q.state.inPass then { (s.sock i).pass with checked := false } else (s.sock i).pass) ∧
        t.notices = urgentAfter ⟨.zone z, s.run.clock, .zoneHalt g.tag.page idx q.passNo q.state.inPass⟩ s.notices) ∧
      ((∀ w ∈ got, parityBad w = false) → t.notices = s.notices ∧
        (start + 64 < g.tag.count → (t.zone z).seq = { q with
          fetch := some { g with burst := g.burst + 1, data := g.data ++ got.map vecOf } }) ∧
        (g.tag.count ≤ start + 64 → q.state = .playing → q.next = some g.tag →
          (t.zone z).seq = { q.setBuf g.target (.full g.tag (g.data ++ got.map vecOf)) with fetch := none }) ∧
        (g.tag.count ≤ start + 64 → q.state = .gap → s.firstTag z = some g.tag →
          (t.zone z).seq = { q.setBuf g.target (.full g.tag (g.data ++ got.map vecOf)) with fetch := none }) ∧
        (g.tag.count ≤ start + 64 → q.state = .priming → s.firstTag z = some g.tag → g.target = q.play.buf.other →
          (t.zone z).seq.state = .playing ∧ (t.zone z).seq.passNo = (q.passNo + 1) % 4294967296 ∧
          (t.zone z).seq.play = ⟨g.target, 0, 0⟩ ∧ (t.zone z).seq.ordinal = 0 ∧ (t.zone z).seq.period = 0 ∧
          (t.zone z).seq.void = none ∧ (t.zone z).chk.opened = true) ∧
        (g.tag.count ≤ start + 64 → q.state = .stalled → q.next = some g.tag → g.target = q.play.buf.other →
          (t.zone z).seq.state = .playing ∧ (t.zone z).seq.passNo = q.passNo ∧
          (t.zone z).seq.play = ⟨g.target, 0, 0⟩ ∧ (t.zone z).seq.ordinal = q.ordinal + 1 ∧
          (t.zone z).seq.period = (q.period + 1) % 16 ∧ (t.zone z).seq.void = q.void) ∧
        (g.tag.count ≤ start + 64 → q.state = .held ∨ q.state = .halted →
          (t.zone z).seq = { (if q.buf g.target = .filling g.tag then q.setBuf g.target .empty else q) with
            fetch := none }) ∧
        ∀ wanted, g.tag.count ≤ start + 64 →
          ((q.state = .playing ∨ q.state = .stalled) ∧ wanted = q.next) ∨
            ((q.state = .priming ∨ q.state = .gap) ∧ wanted = s.firstTag z) →
          wanted ≠ some g.tag →
          let q' := { (if q.buf g.target = .filling g.tag then q.setBuf g.target .empty else q) with fetch := none }
          let other := q.play.buf.other
          let held := fun w : PageTag => (q'.buf other).holds w = true ∨
            ((q.state = .priming ∨ q.state = .gap) ∧ (q'.buf q.play.buf).holds w = true)
          (wanted = none → (t.zone z).seq = q') ∧
          ∀ w, wanted = some w → (held w → (t.zone z).seq = q') ∧
            (¬ held w → (t.zone z).seq = { q'.setBuf other (.filling w) with
              fetch := some { tag := w, target := other, burst := 0, data := [] } }) ∧
            ∀ k d pg, q.state = .priming ∨ q.state = .gap → q.assigned = some (.slot k) → s.program k = some d →
              d.pages[0]? = some pg →
              w = ⟨k, 0, pg, if d.pages.length = 1 then d.lastCount else (s.page pg).count.getD 0⟩)

/-! ## Rails -/

/-- A sample is stored and joins the averaging window in every rail state. In RAMP-2 one at or above Vbus − Vok puts the
rail ON (from a state that keeps laws 1 to 3), starts the stable timer, and begins a power-up cycle, or owes one in
a held run; in ON one that trips nothing recomputes the DUT power figure and makes the over-budget tests where it
changed (R26 to R28, R35, R75, R76, R139). -/
def Obligations.RailSamplesAreTaken : Prop :=
  ∀ (s : State) (i : SocketId) (mA mV : Nat),
    let c := min 20000 mA
    let v := min 6000 mV
    let r := (s.sock i).rail
    let z := zoneOf i
    let prof := (s.zone z).railProf
    let w := (prof.map (·.win)).getD 8
    let win := (r.window ++ [c]).drop (r.window.length + 1 - w)
    let stored := { r with lastCurrent := c, voltage := v, window := win }
    let quiet := { s with sockets := s.sockets.set i { s.sock i with rail := stored } }
    (r.state ≠ .ramp2 → r.state ≠ .on → exec (.railSample i mA mV) s = .next quiet) ∧
    (∀ p, prof = some p → r.state = .ramp2 → v + p.vok < p.vbus → exec (.railSample i mA mV) s = .next quiet) ∧
    (∀ p, prof = some p → r.state = .ramp2 → p.vbus ≤ v + p.vok → RailLaws s →
      ∃ t, exec (.railSample i mA mV) s = .next t ∧
        (t.sock i).rail = { stored with
          state := .on, window := [c], power := min 600 (v * c / 100000), rampTimer := none, phase1Timer := none,
          stableTimer := some (s.now + p.stableS * 50000000) } ∧
        (t.sock i).live =
          (if (s.sock i).life = .stressing ∧ s.run.state = .active then
            { (s.sock i).live with state := .resetHeld, timer := some (s.nowMs + s.tReset z), owed := false }
          else if (s.sock i).life = .stressing ∧ s.run.state = .held then
            { (s.sock i).live with state := .paused, timer := none, owed := true }
          else (s.sock i).live) ∧
        (∀ j, (t.sock j).life = (s.sock j).life ∧ (t.sock j).bin = (s.sock j).bin ∧
          (t.sock j).therm = (s.sock j).therm ∧ (t.sock j).acct = (s.sock j).acct) ∧
        (∀ j, zoneOf j ≠ z → t.sock j = s.sock j) ∧ (∀ y, y ≠ z → t.zone y = s.zone y) ∧
        (t.zone z).seq = (s.zone z).seq ∧ t.run = s.run ∧ t.store = s.store ∧ t.link = s.link ∧
        t.notices.urgent = s.notices.urgent ∧ t.straps = s.straps ∧ t.now = s.now ∧ t.freeDraws = s.freeDraws ∧
        t.pending = s.pending) ∧
    (∀ p, prof = some p → r.state = .on → c < p.iFast →
      let avg := win.sum / win.length
      let power := min 600 (v * avg / 100000)
      ¬ (win.length = p.win ∧ p.iAvg ≤ avg) →
      ∃ t, exec (.railSample i mA mV) s = .next t ∧
        t = { s with
          sockets := s.sockets.set i { s.sock i with rail := { stored with power := power } }
          zones := s.zones.set z { s.zone z with armed := (t.zone z).armed }
          notices := if power ≠ r.power ∧ (s.zone z).armed = true ∧ (s.zone z).budget < t.dutSum z then
              routineAfter ⟨.zone z, s.run.clock, .budgetOver (t.dutSum z) (s.zone z).budget⟩ s.notices
            else s.notices } ∧
        (t.zone z).armed =
          (if power = r.power then (s.zone z).armed
          else if (s.zone z).armed then decide (t.dutSum z ≤ (s.zone z).budget)
          else decide (t.dutSum z ≤ (s.zone z).budget * 95 / 100)))

/-- From a state that keeps laws 1 to 3, a sample in ON at or above I_fast, a full window in ON averaging at or above
I_avg, and the ramp timeout in RAMP-1 or RAMP-2 complete, and are trips: the rail rests for its off-time, trips-in-a-row rises, and the record is sent with the current and
the phase, with RAIL-EXHAUSTED above the retry limit (R36 to R38, R40 to R42). -/
def Obligations.RailTripsOpenTheRail : Prop :=
  ∀ (s : State) (i : SocketId) (p : RailProfile), RailLaws s → (s.zone (zoneOf i)).railProf = some p →
    (∀ mA mV : Nat, (s.sock i).rail.state = .on →
      let c := min 20000 mA
      let r := (s.sock i).rail
      let win := (r.window ++ [c]).drop (r.window.length + 1 - p.win)
      let avg := win.sum / win.length
      ∃ t, exec (.railSample i mA mV) s = .next t ∧
        (p.iFast ≤ c → Tripped p i .railFast c s t) ∧
        (c < p.iFast → win.length = p.win → p.iAvg ≤ avg → 1 ≤ p.win → Tripped p i .railAverage avg s t)) ∧
    (∀ e, (s.sock i).rail.rampTimer = some e → (s.sock i).rail.state = .ramp1 ∨ (s.sock i).rail.state = .ramp2 →
      ∃ t, exec (.rampTimeout i) s = .next t ∧
        Tripped p i .railRamp (s.sock i).rail.lastCurrent { s with now := max s.now e } t)

/-- The phase-1 timer moves RAMP-1 to RAMP-2, the stable timer clears trips-in-a-row, and the off-time lets a resting
rail queue, or ramp at once where a slot is free and none waits, and puts an inhibited one OFF (R33, R34, R39, R42). -/
def Obligations.RailTimersExpire : Prop :=
  ∀ (s : State) (i : SocketId) (e : Nat),
    let k := s.sock i
    let z := zoneOf i
    let at_ := fun rail : Rail => { s with sockets := s.sockets.set i { k with rail := rail }, now := max s.now e }
    (k.rail.phase1Timer = some e → k.rail.state = .ramp1 →
      exec (.phase1TimerExpiry i) s = .next (at_ { k.rail with state := .ramp2, phase1Timer := none })) ∧
    (k.rail.stableTimer = some e →
      exec (.stableTimerExpiry i) s = .next (at_ { k.rail with trips := 0, stableTimer := none })) ∧
    (k.rail.offTimer = some e →
      (k.rail.state ≠ .rest → exec (.offTimeExpiry i) s = .next (at_ { k.rail with offTimer := none })) ∧
      (k.rail.state = .rest → k.rail.inhibit.isEmpty = false →
        exec (.offTimeExpiry i) s = .next (at_ { k.rail with state := .off, offTimer := none })) ∧
      (k.rail.state = .rest → k.rail.inhibit.isEmpty = true → 2 ≤ (s.slotHolders z).length →
        exec (.offTimeExpiry i) s = .next { at_ { k.rail with state := .queued, offTimer := none } with
          zones := s.zones.set z { s.zone z with rampQueue := (s.zone z).rampQueue ++ [i] } }) ∧
      (∀ p, k.rail.state = .rest → k.rail.inhibit.isEmpty = true → (s.slotHolders z).length < 2 →
        (s.zone z).rampQueue = [] → (s.zone z).railProf = some p →
        exec (.offTimeExpiry i) s = .next (at_ (if p.i1 = 0 then
            { k.rail with state := .ramp2, offTimer := none, rampTimer := some (max s.now e + p.rampMs * 50000) }
          else
            { k.rail with
              state := .ramp1, offTimer := none, rampTimer := some (max s.now e + p.rampMs * 50000),
              phase1Timer := some (max s.now e + p.t1 * 50000) }))))

/-! ## Heat -/

/-- A request starts the answer timer at 50 ms. A timeout and an answer outside −400 to 2000 are bad readings: the run
of bad readings rises, and at the second under control, in HELD or in TRIPPED the socket is SENSOR-FAULT with its heater
off, SENSOR in its set and a record of the board class that does not count (R50 to R52, R154). An answer with no timer running
is discarded (R50). That an expiry with no timer running is no event is the model's (DESIGN CHOICE, log entry 2), and so
is a request that starts a running timer anew (DESIGN CHOICE, log entry 24). The record carries the last reading, absent
where no good one came since the last reset (R52). -/
def Obligations.SensorsAreWatched : Prop :=
  ∀ (s : State) (i : SocketId),
    let k := s.sock i
    exec (.sensorRequest i) s =
      .next { s with sockets := s.sockets.set i { k with therm := { k.therm with answerTimer := some (s.now + 2500000) } } } ∧
    (k.therm.answerTimer = none → exec (.sensorTimeout i) s = .next s ∧ ∀ x, exec (.sensorAnswer i x) s = .next s) ∧
    ∀ (c : Instr) (e : Nat), k.therm.answerTimer = some e →
      (c = .sensorTimeout i ∨ ∃ x : Int, (x < -400 ∨ 2000 < x) ∧ c = .sensorAnswer i x) →
      let now := if c = .sensorTimeout i then max s.now e else s.now
      let bad := { k.therm with badRun := min 255 (k.therm.badRun + 1), goodRun := 0, answerTimer := none }
      (k.therm.badRun = 0 ∨ k.therm.state = .off ∨ k.therm.state = .sensorFault →
        exec c s = .next { s with sockets := s.sockets.set i { k with therm := bad }, now := now }) ∧
      (1 ≤ k.therm.badRun → k.therm.state ≠ .off → k.therm.state ≠ .sensorFault →
        ∃ t, exec c s = .next t ∧
          (t.sock i).therm = { bad with state := .sensorFault, duty := 0, grant := 0, sat := .none, integral := 0 } ∧
          (t.sock i).rail.inhibit = { k.rail.inhibit with sensor := true } ∧ (RailLaws s → RailDown t i) ∧
          (t.sock i).life = k.life ∧
          (t.sock i).acct = (if (s.run.state = .active ∨ s.run.state = .held) ∧ k.life = .stressing then
              { k.acct with
                total := min 65535 (k.acct.total + 1)
                log := k.acct.log.take 5 ++
                  [recordOf s i .sensorFault (s.passStamp (zoneOf i)) .count
                    (.lastReading (if k.therm.goodSince then k.therm.reading else none))] }
            else k.acct) ∧
          (∀ j, j ≠ i → (t.sock j).life = (s.sock j).life ∧ (t.sock j).therm = (s.sock j).therm ∧
            (t.sock j).live = (s.sock j).live ∧ (t.sock j).acct = (s.sock j).acct) ∧
          (∀ z, (t.zone z).seq = (s.zone z).seq) ∧ t.run = s.run ∧ t.store = s.store ∧ t.link = s.link ∧
          t.now = now ∧ t.straps = s.straps ∧ t.freeDraws = s.freeDraws ∧ t.pending = s.pending)

/-- A good reading is stored with its run lengths in every state. At or above the trip limit it trips a socket under
control or in HELD; 10 °C below the limit it lets TRIPPED go, and a standing THERMAL with OFF; the fourth in a row ends a
SENSOR-FAULT. In SENSOR-FAULT one at or above the limit with THERMAL absent adds THERMAL and sends a THERMAL-TRIP record;
the socket stays SENSOR-FAULT and the reading counts, and as the fourth in a row it leaves the socket TRIPPED (R51, R53,
R65 to R67). -/
def Obligations.GoodReadingsAreHandled : Prop :=
  ∀ (s : State) (i : SocketId) (e : Nat) (x : Int), (s.sock i).therm.answerTimer = some e → -400 ≤ x → x ≤ 2000 →
    let k := s.sock i
    let z := zoneOf i
    let good := { k.therm with
      reading := some x, goodSince := true, goodRun := min 255 (k.therm.goodRun + 1), badRun := 0, answerTimer := none }
    let stored := { s with sockets := s.sockets.set i { k with therm := good } }
    let back := if s.run.state = .held ∧ s.run.holds.permit = true then { good with state := .held }
      else { good with state := .approach, teff := x }
    let frame := fun t : State => (∀ j, j ≠ i → (t.sock j).life = (s.sock j).life ∧ (t.sock j).acct = (s.sock j).acct) ∧
      t.store.mem = s.store.mem ∧ t.store.pages = s.store.pages ∧ t.store.programs = s.store.programs ∧
      t.link = s.link ∧ t.now = s.now ∧ t.straps = s.straps ∧ t.freeDraws = s.freeDraws ∧ t.pending = s.pending
    ((s.zone z).thermProf = none → exec (.sensorAnswer i x) s = .next stored) ∧
    ∀ p, (s.zone z).thermProf = some p →
      (k.therm.state = .held → x < p.limit → exec (.sensorAnswer i x) s = .next stored) ∧
      (k.therm.state = .tripped ∨ k.therm.state = .off → p.limit - 100 < x →
        exec (.sensorAnswer i x) s = .next stored) ∧
      (k.therm.state = .tripped → x ≤ p.limit - 100 → ∃ t, exec (.sensorAnswer i x) s = .next t ∧
        (t.sock i).therm = back ∧ (t.sock i).rail.inhibit = { k.rail.inhibit with thermal := false } ∧
        (t.sock i).life = k.life ∧ (t.sock i).acct = k.acct ∧ t.run = s.run ∧ t.notices = s.notices ∧ frame t) ∧
      (k.therm.state = .off → x ≤ p.limit - 100 → ∃ t, exec (.sensorAnswer i x) s = .next t ∧
        (t.sock i).therm = good ∧ (t.sock i).rail.inhibit = { k.rail.inhibit with thermal := false } ∧
        (t.sock i).life = k.life ∧ (t.sock i).acct = k.acct ∧ t.run = s.run ∧ t.notices = s.notices ∧ frame t) ∧
      (k.therm.state = .sensorFault → x < p.limit ∨ k.rail.inhibit.thermal = true → k.therm.goodRun ≠ 3 →
        exec (.sensorAnswer i x) s = .next stored) ∧
      (k.therm.state = .sensorFault → x < p.limit ∨ k.rail.inhibit.thermal = true → k.therm.goodRun = 3 →
        ∃ t, exec (.sensorAnswer i x) s = .next t ∧
        (t.sock i).therm = (if k.rail.inhibit.thermal then { good with state := .tripped } else back) ∧
        (t.sock i).rail.inhibit = { k.rail.inhibit with sensor := false } ∧
        (t.sock i).life = k.life ∧ (t.sock i).acct = k.acct ∧ t.run = s.run ∧
        t.notices = routineAfter ⟨.socket i, s.run.clock, .sensorOk x⟩ s.notices ∧ frame t) ∧
      (k.therm.state = .approach ∨ k.therm.state = .inband ∨ k.therm.state = .outband ∨ k.therm.state = .held →
        p.limit ≤ x → ∃ t, exec (.sensorAnswer i x) s = .next t ∧
          let disp := s.disposition .thermalTrip
          let fail := recordOf s i .thermalTrip (s.passStamp z) disp (.reading x)
          let final := taking s i && (disp == .retire || nextIsLast s i)
          (t.sock i).therm = { good with
            state := if final then .off else .tripped, duty := 0, grant := 0, sat := .none, integral := 0 } ∧
          (t.sock i).rail.inhibit.thermal = true ∧ (RailLaws s → RailDown t i) ∧
          (taking s i = false → (t.sock i).life = k.life ∧ (t.sock i).acct = k.acct) ∧
          (taking s i = true → (t.sock i).life = (if final then .retired else .stressing) ∧
            (t.sock i).acct = (if final then
                { counted k.acct fail with
                  deciding := some ⟨.thermalTrip, min 6 (k.acct.log.length + 1)⟩, byHost := false }
              else counted k.acct fail)) ∧ frame t) ∧
      (k.therm.state = .sensorFault → p.limit ≤ x → k.rail.inhibit.thermal = false →
        ∃ t, exec (.sensorAnswer i x) s = .next t ∧
          let disp := s.disposition .thermalTrip
          let fail := recordOf s i .thermalTrip (s.passStamp z) disp (.reading x)
          let slot := min 6 (k.acct.log.length + 1)
          let final := taking s i && (disp == .retire || nextIsLast s i)
          let fourth := k.therm.goodRun = 3
          (t.sock i).therm = (if final then
              { good with state := .off, duty := 0, grant := 0, sat := .none, integral := 0 }
            else if fourth then { good with state := .tripped } else good) ∧
          (t.sock i).rail.inhibit.thermal = true ∧ (RailLaws s → RailDown t i) ∧
          (final = false → t.run = s.run ∧ (t.sock i).rail.inhibit = { k.rail.inhibit with
            thermal := true, sensor := if fourth then false else k.rail.inhibit.sensor }) ∧
          (final = false → RailDown s i →
            let told := if taking s i then urgentAfter ⟨.socket i, s.run.clock, .fail .thermalTrip slot⟩ s.notices
              else s.notices
            t.notices = if fourth then routineAfter ⟨.socket i, s.run.clock, .sensorOk x⟩ told else told) ∧
          (taking s i = false → (t.sock i).life = k.life ∧ (t.sock i).acct = k.acct) ∧
          (taking s i = true → (t.sock i).life = (if final then .retired else .stressing) ∧
            (t.sock i).acct = (if final then
                { counted k.acct fail with deciding := some ⟨.thermalTrip, slot⟩, byHost := false }
              else counted k.acct fail)) ∧ frame t)

/-- The heater step: a good reading below the trip limit under control moves Teff, tracks the band, and sets the
integral, the flag, the duty and the grant under the cap that the zone's headroom gives; the first entry to INBAND lets
go of COLD (R56, R57, R59 to R64, R72). That the flag of a raw duty of 0 under a cap of 0 is NONE is the model's (DESIGN
CHOICE, log entry 33). -/
def Obligations.HeaterStepComputes : Prop :=
  ∀ (s : State) (i : SocketId) (e : Nat) (x : Int) (p : ThermalProfile), (s.sock i).therm.answerTimer = some e →
    -400 ≤ x → x ≤ 2000 → (s.zone (zoneOf i)).thermProf = some p → x < p.limit →
    ((s.sock i).therm.state = .approach ∨ (s.sock i).therm.state = .inband ∨ (s.sock i).therm.state = .outband) →
    let k := s.sock i
    let z := zoneOf i
    let target := max 250 (min 1800 (p.setpoint + k.therm.trim))
    let st := if k.therm.teff = target then k.therm.state else .approach
    let teff := if st ≠ .approach then k.therm.teff
      else if k.therm.teff < target then k.therm.teff + min (p.rampRate : Int) (target - k.therm.teff)
      else k.therm.teff - min (p.rampRate : Int) (k.therm.teff - target)
    let diff := (x - target).natAbs
    let band : ThermalState := match st with
      | .inband => if p.outer < diff then .outband else .inband
      | .outband => if diff ≤ p.inner then .inband else .outband
      | _ => if teff = target ∧ diff ≤ p.inner then .inband else .approach
    let enters := band = .inband ∧ st ≠ .inband
    let err := max (-500) (min 500 (teff - x))
    let inc := ((p.ki : Int) * err).tdiv 10
    let sum := if (k.therm.sat = .high ∧ 0 < inc) ∨ (k.therm.sat = .low ∧ inc < 0) then k.therm.integral
      else max 0 (min 16000 (k.therm.integral + inc))
    let raw := (p.base : Int) + ((p.kp : Int) * err).tdiv 10 + sum.tdiv 16 - ((p.kff * k.rail.power / 10 : Nat) : Int)
    let room : Int := ((s.zone z).budget : Int) - s.dutSum z - (s.grantSum z - k.therm.grant)
    let cap : Nat := if room ≤ 0 then 0 else min 1000 (room.toNat * 1000 / k.therm.rating)
    let duty := (max 0 (min (cap : Int) raw)).toNat
    ∃ t, exec (.sensorAnswer i x) s = .next t ∧
      (t.sock i).therm = { k.therm with
        reading := some x, goodSince := true, goodRun := min 255 (k.therm.goodRun + 1), badRun := 0,
        answerTimer := none, state := band, teff := teff, integral := sum, duty := duty, grant := duty * k.therm.rating / 1000,
        sat := if (cap : Int) < raw then .high else if raw < 0 then .low else .none,
        firstInband := k.therm.firstInband || decide enters } ∧
      (t.sock i).rail.inhibit = (if enters then { k.rail.inhibit with cold := false } else k.rail.inhibit) ∧
      (¬ enters → t = { s with sockets := s.sockets.set i { k with therm := (t.sock i).therm } }) ∧
      (∀ j, (t.sock j).life = (s.sock j).life ∧ (t.sock j).bin = (s.sock j).bin ∧ (t.sock j).live = (s.sock j).live ∧
        (t.sock j).pass = (s.sock j).pass ∧ (t.sock j).acct = (s.sock j).acct) ∧
      (∀ j, j ≠ i → (t.sock j).therm = (s.sock j).therm) ∧
      (∀ y, (t.zone y).seq = (s.zone y).seq ∧ (t.zone y).budget = (s.zone y).budget) ∧
      t.run = s.run ∧ t.store = s.store ∧ t.link = s.link ∧ t.notices = s.notices ∧ t.straps = s.straps ∧
      t.now = s.now ∧ t.freeDraws = s.freeDraws ∧ t.pending = s.pending

/-! ## The port, playback and the checker -/

/-- Whatever waits when a transfer ends, be it a burst of any fetch, good or bad, the last or not, or the staging
writer's, is granted by class: the next zone, after the one last granted in its class, among the fetches of STALLED and
PRIMING zones, then the staging writer at a wait count of 4, then the next zone among the other fetches, then the staging
writer; with nothing waiting the port is idle. A grant takes one cycle for each vector; one to a fetcher counts for a
waiting writer, and one to the writer ends its request and its count. The states and fetches are those after the
completion (R95 to R97; 05 §5.6 for the count). -/
def Obligations.PortGrantsByClass : Prop :=
  ∀ (s : State) (c : Instr),
    (∃ z wrong, c = .fetchBurstDone wrong ∧ s.store.port = some (.burst z) ∧ (s.zone z).seq.fetch.isSome = true) ∨
      (c = .stagingWriteDone ∧ s.store.port = some .staging ∧ s.store.staging.isSome = true) →
    let now := max s.now s.store.portEnd
    let dist := fun (p y : ZoneId) => (y.val + 3 - p.val) % 4
    ∃ t, exec c s = .next t ∧
      t = { s with store := t.store, zones := t.zones, sockets := t.sockets, notices := t.notices, now := now } ∧
      (c = .stagingWriteDone → t.zones = s.zones ∧ t.sockets = s.sockets ∧ t.notices = s.notices ∧
        t.store.staging = none) ∧
      (c ≠ .stagingWriteDone → t.store.mem = s.store.mem ∧ t.store.staging = s.store.staging) ∧
      let first := fun y : ZoneId => (t.zone y).seq.fetch.isSome = true ∧
        ((t.zone y).seq.state = .stalled ∨ (t.zone y).seq.state = .priming)
      let third := fun y : ZoneId => (t.zone y).seq.fetch.isSome = true ∧
        (t.zone y).seq.state ≠ .stalled ∧ (t.zone y).seq.state ≠ .priming
      let size := fun y : ZoneId =>
        ((t.zone y).seq.fetch.map fun h => min 64 (h.tag.count - 64 * h.burst)).getD 0
      let left := { s.store with mem := t.store.mem, staging := t.store.staging }
      let writer := { left with
        port := some .staging, portEnd := now + (t.store.staging.map (·.vecs.length)).getD 0, waitCount := 0 }
      let fetcher := fun y : ZoneId => { left with
        port := some (.burst y), portEnd := now + size y,
        waitCount := if t.store.staging.isSome then min 255 (s.store.waitCount + 1) else s.store.waitCount }
      (∀ y, first y → (∀ x, first x → dist s.store.ptr1 y ≤ dist s.store.ptr1 x) →
        t.store = { fetcher y with ptr1 := y }) ∧
      ((∀ y, ¬ first y) → t.store.staging.isSome = true → 4 ≤ s.store.waitCount → t.store = writer) ∧
      (∀ y, (∀ x, ¬ first x) → t.store.staging = none ∨ s.store.waitCount < 4 →
        third y → (∀ x, third x → dist s.store.ptr3 y ≤ dist s.store.ptr3 x) →
        t.store = { fetcher y with ptr3 := y }) ∧
      ((∀ y, ¬ first y ∧ ¬ third y) → t.store.staging.isSome = true → t.store = writer) ∧
      ((∀ y, ¬ first y ∧ ¬ third y) → t.store.staging = none → t.store = { left with port := none })

/-- The end of a vector's period samples its strobe and then applies the vector that R109 and R110 choose: the
LOOP-MARK vector while repeats remain, the next vector of the page, or vector 0 of the next page, and stalls where that
page is not yet full. The ordinal and the period index rise by 1, and the period index sets the next period's length
(R103, R104, R108 to R111, R129, R130). At a page change the next page after it is chosen with its count and fetched
into the buffer just played (R105); its tag holds the page and the count too (DESIGN CHOICE, log entry 36), and with none
staged at the last position that buffer's mark stays (DESIGN CHOICE, log entry 43). -/
def Obligations.VectorPeriodsPlayOn : Prop :=
  ∀ (s : State) (z : ZoneId) (resp : Vector Byte 8) (tag : PageTag) (vs : List Vec) (v : Vec) (d : Program),
    let q := (s.zone z).seq
    q.state = .playing → q.buf q.play.buf = .full tag vs → vs[q.play.idx]? = some v → s.program tag.slot = some d →
    let now := max s.now q.periodEnd
    let signed := (s.zone z).chk.mode = some .signature ∨ (s.zone z).chk.mode = some .both
    let sampled := fun (i : SocketId) (p : Pass) =>
      let masked := resp[i.val % 8]'(Nat.mod_lt _ (by decide)) &&& v.mask
      let diff := (resp[i.val % 8]'(Nat.mod_lt _ (by decide)) ^^^ v.expect) &&& v.mask
      if zoneOf i = z ∧ v.strobe = true ∧ p.checked = true then
        { p with
          count := if diff = 0 then p.count else min 65535 (p.count + 1)
          first := if diff ≠ 0 ∧ p.count = 0 then some ⟨q.ordinal, diff⟩ else p.first
          crc := if signed then crcByte p.crc masked else p.crc
          lpc := if signed then p.lpc ^^^ masked else p.lpc }
      else p
    let k := (q.period + 1) % 16
    let long := k * q.fracF / 16 < (k + 1) * q.fracF / 16
    let applied := fun (b : BufId) (idx loop : Nat) (w : Vec) => { q with
      state := .playing, play := ⟨b, idx, loop⟩, drive := w.drive, ordinal := q.ordinal + 1, period := k,
      periodEnd := now + if long then q.divN + 1 else q.divN }
    let loops := v.loopBack = true ∧ q.play.loop + 1 < d.loopRep
    let lastPage := tag.pos + 1 = d.pages.length
    let goto := fun q' : Seq => { s with
      sockets := Vector.ofFn fun i => { s.sock i with pass := sampled i (s.sock i).pass }
      zones := s.zones.set z { s.zone z with seq := q' }
      now := now }
    (∀ m w, loops → vs[m]? = some w → w.loopMark = true → (∀ j < m, flagAt Vec.loopMark vs j = false) →
      exec (.vectorPeriodEnd z resp) s = .next (goto (applied q.play.buf m (q.play.loop + 1) w))) ∧
    (∀ w, ¬ loops → v.last = false → vs[q.play.idx + 1]? = some w →
      exec (.vectorPeriodEnd z resp) s = .next (goto (applied q.play.buf (q.play.idx + 1) q.play.loop w))) ∧
    (¬ loops → v.last = false → vs.length = q.play.idx + 1 → ¬ lastPage →
      ((∀ g ws, q.next = some g → q.buf q.play.buf.other ≠ .full g ws) →
        exec (.vectorPeriodEnd z resp) s =
          .next (goto { q with state := .stalled, void := some (q.void.getD .stall) })) ∧
      (∀ g ws w, SeqInv s → q.next = some g → q.buf q.play.buf.other = .full g ws → ws[0]? = some w →
        ∃ t, exec (.vectorPeriodEnd z resp) s = .next t ∧
          (t.zone z).seq = { applied q.play.buf.other 0 0 w with
            bufA := (t.zone z).seq.bufA, bufB := (t.zone z).seq.bufB, fetch := (t.zone z).seq.fetch,
            next := (t.zone z).seq.next } ∧
          (t.zone z).seq.buf q.play.buf.other = .full g ws ∧
          (∀ e, s.program g.slot = some e →
            let after := (t.zone z).seq.next
            (∀ pg, e.pages[g.pos + 1]? = some pg → after = some ⟨g.slot, g.pos + 1, pg,
              if g.pos + 2 = e.pages.length then e.lastCount else (s.page pg).count.getD 0⟩) ∧
            (e.pages.length ≤ g.pos + 1 → after = match q.staged with
              | some .noProgram => none
              | some (.slot p) => s.tagAt p 0
              | none => s.firstTag z) ∧
            (e.pages.length ≤ g.pos + 1 → q.staged = some .noProgram →
              (t.zone z).seq.buf q.play.buf = q.buf q.play.buf) ∧
            ∀ w, after = some w → (t.zone z).seq.buf q.play.buf = .filling w ∧
              (t.zone z).seq.fetch = some { tag := w, target := q.play.buf, burst := 0, data := [] }) ∧
          t = { goto (t.zone z).seq with store := t.store } ∧ t.store.mem = s.store.mem ∧
          t.store.pages = s.store.pages ∧ t.store.programs = s.store.programs ∧ t.store.staging = s.store.staging))

/-- The end of a pass (R112, R113, R129 to R133, R144, R145, R156). A last vector that carries STROBE is sampled first.
A void pass is counted, told and not judged. In a pass that is judged, each checked socket counts one pass more, and one
failed pass more where it made a record, and, from a state that keeps laws 1 to 3, its mismatches of the kinds that the
mode checks make its records, STROBE-MISMATCH first, under COUNT, RETIRE and RESET, up to the retire limit and the cycle
limit; a HEARTBEAT-EXHAUSTED record that the first one leads to comes before the second, which is then discarded (DESIGN
CHOICE, log entry 37). After a pass without a mismatch the staged program is assigned and the zone goes on: STATIC with
no program, GAP with a gap, else a new pass from a buffer that holds position 0, its tag compared by slot, position, page and
count (DESIGN CHOICE, log entry 36), or PRIMING. The buffer just played holds its page while the other one holds or is
receiving it, and is else emptied, so that the fetch of position 0 starts (DESIGN CHOICE, log entry 35). That the records, and the reset cycle one
asks for, come before the swap, and so under the program played, is the model's too (DESIGN CHOICE, log entry 12). -/
def Obligations.PassEndsAreJudged : Prop :=
  ∀ (s : State) (z : ZoneId) (resp : Vector Byte 8) (tag : PageTag) (vs : List Vec) (v : Vec) (d : Program),
    let q := (s.zone z).seq
    q.state = .playing → q.buf q.play.buf = .full tag vs → vs[q.play.idx]? = some v → s.program tag.slot = some d →
    ¬ (v.loopBack = true ∧ q.play.loop + 1 < d.loopRep) →
    v.last = true ∨ (tag.pos + 1 = d.pages.length ∧ vs.length = q.play.idx + 1) →
    let now := max s.now q.periodEnd
    let chk := (s.zone z).chk
    let was := fun i : SocketId =>
      let p := (s.sock i).pass
      let masked := resp[i.val % 8]'(Nat.mod_lt _ (by decide)) &&& v.mask
      let diff := (resp[i.val % 8]'(Nat.mod_lt _ (by decide)) ^^^ v.expect) &&& v.mask
      let signed := chk.mode = some .signature ∨ chk.mode = some .both
      if zoneOf i = z ∧ v.strobe = true ∧ p.checked = true then
        { p with
          count := if diff = 0 then p.count else min 65535 (p.count + 1)
          first := if diff ≠ 0 ∧ p.count = 0 then some ⟨q.ordinal, diff⟩ else p.first
          crc := if signed then crcByte p.crc masked else p.crc
          lpc := if signed then p.lpc ^^^ masked else p.lpc }
      else p
    let strobes := fun i : SocketId => (chk.mode = some .strobe ∨ chk.mode = some .both) ∧ 0 < (was i).count
    let signs := fun i : SocketId => (chk.mode = some .signature ∨ chk.mode = some .both) ∧
      chk.expect ≠ some ⟨(was i).crc, (was i).lpc⟩
    let joined := fun i : SocketId => zoneOf i = z ∧ (s.sock i).pass.checked = true
    let entry := if q.staged.isSome then q.staged else q.assigned
    ∃ t, exec (.vectorPeriodEnd z resp) s = .next t ∧ t.now = now ∧
      t.store.mem = s.store.mem ∧ t.store.pages = s.store.pages ∧ t.store.programs = s.store.programs ∧
      t.store.staging = s.store.staging ∧ t.link = s.link ∧ t.straps = s.straps ∧ t.freeDraws = s.freeDraws ∧
      t.pending = s.pending ∧
      (∀ y, y ≠ z → (s.run.state = .active ∧ ∃ j, zoneOf j = y ∧ (s.sock j).life = .stressing) → t.zone y = s.zone y) ∧
      (∀ c, q.void = some c → (t.zone z).seq.voidCount = min 4294967295 (q.voidCount + 1) ∧
        t.notices = routineAfter ⟨.zone z, s.run.clock, .passVoid q.passNo c⟩ s.notices ∧
        ∀ i, (t.sock i).acct = (s.sock i).acct ∧ (t.sock i).pass.nChecked = (s.sock i).pass.nChecked ∧
          (t.sock i).pass.nFailed = (s.sock i).pass.nFailed) ∧
      (q.void = none → (∀ i, joined i → ¬ strobes i ∧ ¬ signs i) →
        (t.zone z).seq.voidCount = q.voidCount ∧ t.notices = s.notices ∧
        ∀ i, (t.sock i).acct = (s.sock i).acct ∧ (t.sock i).pass.nFailed = (s.sock i).pass.nFailed ∧
          (t.sock i).pass.nChecked = (if joined i then min 4294967295 ((s.sock i).pass.nChecked + 1)
            else (s.sock i).pass.nChecked)) ∧
      (q.void.isSome = true ∨ (∀ i, joined i → ¬ strobes i ∧ ¬ signs i) →
        t.run = s.run ∧ (t.zone z).seq.assigned = entry ∧ (t.zone z).seq.staged = none ∧
        (∀ i, t.sock i = { s.sock i with pass := (t.sock i).pass, live := (t.sock i).live } ∧
          (zoneOf i ≠ z → t.sock i = s.sock i) ∧ (q.staged = none → (t.sock i).live = (s.sock i).live)) ∧
        (entry = some .noProgram → (t.zone z).seq.state = .static ∧ (t.zone z).seq.drive = 0 ∧
          (t.zone z).seq.bufA = .empty ∧ (t.zone z).seq.bufB = .empty ∧ (t.zone z).seq.fetch = none ∧
          ∀ i, zoneOf i = z → (t.sock i).pass = { was i with
            checked := false, nChecked := (t.sock i).pass.nChecked, nFailed := (t.sock i).pass.nFailed }) ∧
        (∀ k e, entry = some (.slot k) → s.program k = some e → 0 < e.gap →
          (t.zone z).seq.state = .gap ∧ (t.zone z).seq.gapTimer = some (now + e.gap * 50000) ∧
          (t.zone z).seq.drive = e.idleWord ∧ (t.zone z).seq.passNo = q.passNo ∧
          ∀ i, zoneOf i = z → (t.sock i).pass = { was i with
            checked := false, nChecked := (t.sock i).pass.nChecked, nFailed := (t.sock i).pass.nFailed }) ∧
        (∀ k e pg, entry = some (.slot k) → s.program k = some e → e.pages[0]? = some pg →
          let first : PageTag := ⟨k, 0, pg, if e.pages.length = 1 then e.lastCount else (s.page pg).count.getD 0⟩
          let other := q.buf q.play.buf.other
          let full := other.holds first = true ∨ (other = .filling first ∧ tag = first)
          (other.tag? ≠ some first → q.fetch = none →
            (t.zone z).seq.fetch = some { tag := first, target := q.play.buf.other, burst := 0, data := [] } ∧
            (t.zone z).seq.buf q.play.buf.other = .filling first ∧ (t.zone z).seq.buf q.play.buf = .empty) ∧
          (e.gap = 0 → full → (t.zone z).seq.state = .playing ∧ (t.zone z).seq.passNo = (q.passNo + 1) % 4294967296 ∧
            (t.zone z).seq.ordinal = 0 ∧ (t.zone z).seq.void = none) ∧
          (e.gap = 0 → ¬ full → (t.zone z).seq.state = .priming ∧ (t.zone z).seq.passNo = q.passNo ∧
            (t.zone z).seq.drive = e.idleWord))) ∧
      (q.void = none → ∀ i,
        (t.sock i).pass.nChecked = (if joined i then min 4294967295 ((s.sock i).pass.nChecked + 1)
          else (s.sock i).pass.nChecked) ∧
        (t.sock i).pass.nFailed = (if joined i ∧ (strobes i ∨ signs i) then
            min 4294967295 ((s.sock i).pass.nFailed + 1)
          else (s.sock i).pass.nFailed)) ∧
      (q.void = none → RailLaws s → ∀ i, joined i → taking s i = true →
        let p := was i
        let m := p.first.getD ⟨0, 0⟩
        let acct := (s.sock i).acct
        let live := (s.sock i).live
        let ra := recordOf s i .strobeMismatch (some chk.passNo) (s.disposition .strobeMismatch)
          (.strobe m.ordinal m.bits p.count)
        let rb := recordOf s i .signatureMismatch (some chk.passNo) (s.disposition .signatureMismatch)
          (.signature p.crc p.lpc)
        let spent := recordOf s i .heartbeatExhausted (s.passStamp z) .retire .nothing
        let fits := fun n : Nat => s.cycleLimit z = 0 ∨ min 255 (live.cycles + n) ≤ s.cycleLimit z
        let second := ∃ r, s.run.record = some r ∧ acct.counted + 2 = r.retireLimit
        let goesOn := fun a : Accounts => (t.sock i).acct = a ∧ (t.sock i).life = .stressing
        let retires := fun (a : Accounts) (k : FailKind) (n : Nat) => (t.sock i).life = .retired ∧
          (t.sock i).acct = { a with deciding := some ⟨k, min 6 (acct.log.length + n)⟩, byHost := false }
        let asks := fun r : FailRec => r.disp = .reset ∧ (s.sock i).rail.state = .on
        let asked := fun n : Nat => (n = 0 → (t.sock i).live.cycles = live.cycles) ∧
          (0 < n → (t.sock i).live =
            if live.state = .paused then { live with cycles := min 255 (live.cycles + n), owed := true }
            else { live with
              cycles := min 255 (live.cycles + n), state := .resetHeld, timer := some (now / 50000 + s.tReset z) })
        (strobes i → ra.disp = .retire ∨ nextIsLast s i = true → retires (counted acct ra) .strobeMismatch 1) ∧
        (∀ k r, (strobes i ∧ ¬ signs i ∧ k = .strobeMismatch ∧ r = ra) ∨
            (¬ strobes i ∧ signs i ∧ k = .signatureMismatch ∧ r = rb) →
          (r.disp = .retire ∨ nextIsLast s i = true → retires (counted acct r) k 1) ∧
          (r.disp ≠ .retire → nextIsLast s i = false →
            (¬ asks r → goesOn (counted acct r) ∧ asked 0) ∧
            (asks r → fits 1 → goesOn (counted acct r) ∧ asked 1) ∧
            (asks r → ¬ fits 1 → retires (counted (counted acct r) spent) .heartbeatExhausted 2))) ∧
        (strobes i → signs i → ra.disp ≠ .retire → nextIsLast s i = false →
          let both := counted (counted acct ra) rb
          let n := if asks ra then 1 else 0
          (asks ra → ¬ fits 1 → retires (counted (counted acct ra) spent) .heartbeatExhausted 2) ∧
          (¬ asks ra ∨ fits 1 →
            (rb.disp = .retire ∨ second → retires both .signatureMismatch 2) ∧
            (rb.disp ≠ .retire → ¬ second →
              (¬ asks rb → goesOn both ∧ asked n) ∧
              (asks rb → fits (n + 1) → goesOn both ∧ asked (n + 1)) ∧
              (asks rb → ¬ fits (n + 1) → retires (counted both spent) .heartbeatExhausted 3)))))

/-- The gap timer's expiry starts a pass where position 0 of the assigned program is full in a buffer, and else leaves
the zone PRIMING; which page a buffer holds is compared by slot, position, page and count (DESIGN CHOICE, log entry 36).
At the pass start every eligible socket of the zone joins with its context cleared, and the flag of
every other one is clear (R107, R114, R126). -/
def Obligations.GapExpiryStartsThePass : Prop :=
  ∀ (s : State) (z : ZoneId) (e : Nat) (k : ProgId) (d : Program) (pg : PageId),
    let q := (s.zone z).seq
    q.state = .gap → q.gapTimer = some e → q.assigned = some (.slot k) → s.program k = some d → d.pages[0]? = some pg →
    let now := max s.now e
    let first : PageTag := ⟨k, 0, pg, if d.pages.length = 1 then d.lastCount else (s.page pg).count.getD 0⟩
    ∃ t, exec (.gapTimerExpiry z) s = .next t ∧
      t = { s with sockets := t.sockets, zones := t.zones, store := t.store, now := now } ∧
      t.store.mem = s.store.mem ∧ t.store.pages = s.store.pages ∧ t.store.programs = s.store.programs ∧
      t.store.staging = s.store.staging ∧ (∀ y, y ≠ z → t.zone y = s.zone y) ∧
      (t.zone z).seq.gapTimer = none ∧
      (q.bufA.holds first = false → q.bufB.holds first = false →
        (t.zone z).seq.state = .priming ∧ (t.zone z).seq.passNo = q.passNo ∧ (t.zone z).seq.drive = d.idleWord ∧
        (t.zone z).seq.fetch.isSome = true ∧ t.sockets = s.sockets) ∧
      ∀ b vs w, q.buf b = .full first vs → (q.buf b.other).holds first = false →
        vs[0]? = some w →
        (t.zone z).seq.state = .playing ∧ (t.zone z).seq.passNo = (q.passNo + 1) % 4294967296 ∧
        (t.zone z).seq.void = none ∧ (t.zone z).seq.period = 0 ∧ (t.zone z).seq.ordinal = 0 ∧
        (t.zone z).seq.play = ⟨b, 0, 0⟩ ∧ (t.zone z).seq.drive = w.drive ∧ (t.zone z).seq.divN = d.divN ∧
        (t.zone z).seq.fracF = d.fracF ∧
        (t.zone z).seq.periodEnd = now + (if 1 ≤ d.fracF / 16 then d.divN + 1 else d.divN) ∧
        (t.zone z).chk = { opened := true, passNo := (q.passNo + 1) % 4294967296, slot := some k, mode := some d.mode,
                           expect := d.sig } ∧
        ∀ i, t.sock i = { s.sock i with
          pass := if zoneOf i ≠ z then (s.sock i).pass
            else if (s.sock i).life = .stressing ∧ (s.sock i).rail.state = .on ∧
                (s.sock i).live.state ≠ .resetHeld ∧ (s.sock i).live.state ≠ .ignore then
              { (s.sock i).pass with checked := true, count := 0, first := none, crc := 0xFFFF, lpc := 0 }
            else { (s.sock i).pass with checked := false } }

/-! ## Heartbeats -/

/-- A first edge in WAIT-FIRST, and one at least Tmin after the last valid edge in WATCH, is valid: its time is
recorded, the reset-cycle count clears and the window restarts in WATCH. Elsewhere an edge has no effect. RESET-HELD
ends in IGNORE, and IGNORE, or RESET-HELD with a Tignore of 0, in WAIT-FIRST, or in IDLE without a heartbeat part
(R137, R138, R140 to R142). That an expiry sent outside its state is no event is the model's (DESIGN CHOICE, log entry
2). -/
def Obligations.HeartbeatsAreJudged : Prop :=
  ∀ (s : State) (i : SocketId),
    let k := s.sock i
    let part := s.hbPart (zoneOf i)
    let goto := fun (now : Nat) (l : Liveness) =>
      { s with sockets := s.sockets.set i { k with live := l }, now := now }
    let waits := fun (now : Nat) => match part with
      | some h => { k.live with state := .waitFirst, timer := some (now / 50000 + (h.tMin + h.tWin)) }
      | none => { k.live with state := .idle, timer := none }
    (∀ atMs, k.live.state ≠ .waitFirst → k.live.state ≠ .watch →
      exec (.heartbeatEdge i atMs) s = .next { s with now := max s.now (atMs * 50000) }) ∧
    (∀ atMs h, part = some h →
      let now := max s.now (atMs * 50000)
      (k.live.state = .waitFirst ∨
        (k.live.state = .watch ∧ ∃ last, k.live.lastEdge = some last ∧ h.tMin ≤ now / 50000 - last) →
      exec (.heartbeatEdge i atMs) s = .next (goto now { k.live with
        state := .watch, timer := some (now / 50000 + (h.tMin + h.tWin)), lastEdge := some (now / 50000),
        cycles := 0 }))) ∧
    (k.live.state ≠ .resetHeld → exec (.resetHeldExpiry i) s = .next s) ∧
    (∀ e, k.live.state = .resetHeld → k.live.timer = some e →
      let now := max s.now (e * 50000)
      let ignore := (part.map (·.tIgnore)).getD 100
      exec (.resetHeldExpiry i) s = .next (goto now (
        if ignore = 0 then waits now
        else { k.live with state := .ignore, timer := some (now / 50000 + ignore) }))) ∧
    (k.live.state ≠ .ignore → exec (.ignoreExpiry i) s = .next s) ∧
    (∀ e, k.live.state = .ignore → k.live.timer = some e →
      exec (.ignoreExpiry i) s = .next (goto (max s.now (e * 50000)) (waits (max s.now (e * 50000)))))

/-- An edge in WATCH less than Tmin after the last valid one, and the expiry of the timer in WAIT-FIRST or WATCH, are
failures: the record is sent, and the disposition gives COUNT a new first window, RESET a failure cycle, or exhausts the
socket past its cycle limit, and RETIRE retires it (R141 to R144, R151, R154, R156, R157). -/
def Obligations.HeartbeatFailuresAreHandled : Prop :=
  ∀ (s : State) (i : SocketId) (h : HbPart) (c : Instr) (now : Nat) (kind : FailKind) (detail : Detail),
    let k := s.sock i
    s.hbPart (zoneOf i) = some h → taking s i = true → k.rail.state = .on →
    ((∃ atMs last, c = .heartbeatEdge i atMs ∧ k.live.state = .watch ∧ k.live.lastEdge = some last ∧
        now = max s.now (atMs * 50000) ∧ now / 50000 - last < h.tMin ∧ kind = .heartbeatEarly ∧
        detail = .interval (now / 50000 - last)) ∨
      (∃ e, c = .heartbeatLate i ∧ (k.live.state = .waitFirst ∨ k.live.state = .watch) ∧ k.live.timer = some e ∧
        now = max s.now (e * 50000) ∧ kind = .heartbeatLate ∧ detail = .elapsed (h.tMin + h.tWin))) →
    let disp := s.disposition kind
    let fail := recordOf s i kind (s.passStamp (zoneOf i)) disp detail
    let slot := min 6 (k.acct.log.length + 1)
    let cycles := min 255 (k.live.cycles + 1)
    let spent := h.cycleLimit ≠ 0 ∧ h.cycleLimit < cycles
    ∃ t, exec c s = .next t ∧ t.now = now ∧
      (disp = .retire ∨ nextIsLast s i = true → (t.sock i).life = .retired ∧ (t.sock i).live.state = .idle ∧
        (t.sock i).live.timer = none ∧ (t.sock i).rail.inhibit.final = true ∧
        (t.sock i).acct = { counted k.acct fail with deciding := some ⟨kind, slot⟩, byHost := false }) ∧
      (disp = .count → nextIsLast s i = false →
        t = { s with
          sockets := s.sockets.set i { k with
            acct := counted k.acct fail
            live := { k.live with state := .waitFirst, timer := some (now / 50000 + (h.tMin + h.tWin)) } }
          notices := urgentAfter ⟨.socket i, s.run.clock, .fail kind slot⟩ s.notices
          now := now }) ∧
      (disp = .reset → nextIsLast s i = false → ¬ spent →
        t = { s with
          sockets := s.sockets.set i { k with
            acct := counted k.acct fail
            pass := { k.pass with checked := false }
            live := { k.live with
              state := .resetHeld, cycles := cycles, timer := some (now / 50000 + h.tReset) } }
          notices := urgentAfter ⟨.socket i, s.run.clock, .fail kind slot⟩ s.notices
          now := now }) ∧
      (disp = .reset → nextIsLast s i = false → spent →
        (t.sock i).life = .retired ∧ (t.sock i).live = { k.live with
          state := .idle, timer := none, cycles := cycles, owed := false } ∧
        (t.sock i).acct = { counted (counted k.acct fail)
            (recordOf s i .heartbeatExhausted (s.passStamp (zoneOf i)) .retire .nothing) with
          deciding := some ⟨.heartbeatExhausted, min 6 (slot + 1)⟩, byHost := false }) ∧
      (∀ j, j ≠ i → (t.sock j).life = (s.sock j).life ∧ (t.sock j).acct = (s.sock j).acct) ∧
      t.store.mem = s.store.mem ∧ t.store.pages = s.store.pages ∧ t.store.programs = s.store.programs ∧
      t.link = s.link ∧ t.straps = s.straps ∧ t.freeDraws = s.freeDraws ∧ t.pending = s.pending

/-! ## Stress credit -/

/-- An expiry of the accounting timer in a started run, from a state that keeps laws 1 to 3: the clock rises and the
next expiry stands a second after this one; in an ACTIVE run each STRESSING socket that is ON, INBAND, under a zone
in PLAYING, GAP or STATIC and in neither RESET-HELD nor IGNORE gains a second, and completes at the target; and
where no socket waits or is under stress any more the run is FINISHED (R9, R17, R160, R161, R163, R165). Each completion
sends its COMPLETE notice, in ascending socket number, and the end of the run its RUN-STATE notice after them; no zone
over its budget and still armed is asked for, as one would send BUDGET-OVER beside them (R8, R76, R160, R163). -/
def Obligations.AccountingCreditsSeconds : Prop :=
  ∀ (s : State) (r : RunRecord) (e : Nat), s.run.acctTimer = some e → s.run.record = some r →
    s.run.state = .active ∨ s.run.state = .held → RailLaws s →
    let due := fun i : SocketId => s.run.state = .active ∧ (s.sock i).life = .stressing ∧
      (s.sock i).rail.state = .on ∧ (s.sock i).therm.state = .inband ∧
      ((s.zone (zoneOf i)).seq.state = .playing ∨ (s.zone (zoneOf i)).seq.state = .gap ∨
        (s.zone (zoneOf i)).seq.state = .static) ∧
      (s.sock i).live.state ≠ .resetHeld ∧ (s.sock i).live.state ≠ .ignore
    let done := fun i : SocketId => due i ∧ r.target ≤ (s.sock i).acct.credit + 1
    let run := { s.run with clock := min 4294967295 (s.run.clock + 1), acctTimer := some (e + 50000000) }
    let goes := ∃ i, (s.sock i).life = .waiting ∨ ((s.sock i).life = .stressing ∧ ¬ done i)
    ∃ t, exec .accountingTimerExpiry s = .next t ∧ t.now = max s.now e ∧
      (goes → t.run = run) ∧
      (¬ goes → t.run = { run with state := .finished, holds := ⟨false, false⟩, acctTimer := none }) ∧
      (∀ i, (due i → (t.sock i).acct = { (s.sock i).acct with credit := (s.sock i).acct.credit + 1 }) ∧
        (¬ due i → (t.sock i).acct = (s.sock i).acct) ∧
        (done i → (t.sock i).life = .complete ∧ (t.sock i).rail.inhibit.final = true ∧
          (t.sock i).therm.state = .off ∧ (t.sock i).therm.duty = 0 ∧ (t.sock i).live.state = .idle ∧
          (t.sock i).pass.checked = false) ∧
        (¬ done i → (t.sock i).life = (s.sock i).life ∧
          (goes → (t.sock i).bin = (s.sock i).bin ∧ (t.sock i).therm = (s.sock i).therm ∧
            (t.sock i).live = (s.sock i).live ∧ (t.sock i).rail.inhibit = (s.sock i).rail.inhibit))) ∧
      ((∀ i, ¬ done i) → goes → t = { s with
        run := run, sockets := t.sockets, now := max s.now e }) ∧
      (∀ l : List SocketId, l.Pairwise (· < ·) → (∀ i, i ∈ l ↔ done i) →
        (∀ z, (s.zone z).armed = false ∨ s.dutSum z ≤ (s.zone z).budget) →
        let told := l.foldl (fun q i => routineAfter
          ⟨.socket i, run.clock, .complete ((s.sock i).acct.credit + 1) (s.sock i).acct.total⟩ q) s.notices
        (goes → t.notices = told) ∧
        (¬ goes → t.notices = routineAfter ⟨.board, run.clock, .runState .finished ⟨false, false⟩⟩ told)) ∧
      t.store.mem = s.store.mem ∧ t.store.pages = s.store.pages ∧ t.store.programs = s.store.programs ∧
      t.store.staging = s.store.staging ∧ t.link = s.link ∧ t.straps = s.straps ∧ t.freeDraws = s.freeDraws ∧
      t.pending = s.pending

/-! ## The line -/

/-- Events of the line. An unknown kind is answered; a frame that R172 or R173 discards draws no reply; a closed receiver
takes neither frames nor characters; a broken frame leaves the receiver in HUNT; a PENDING reply is sent, and ends, or is
abandoned at a start bit; and a character moves the receiver (R171 to R174, R176 to R178). That a broken frame leaves a
PENDING reply alone is the model's (DESIGN CHOICE, log entry 30), and so is that the end and the start of a reply outside
their states are no events (DESIGN CHOICE, log entry 2). -/
def Obligations.LineEventsMoveTheLink : Prop :=
  ∀ s : State,
    let l := s.link
    let listens := l.inReset = false ∧ l.replyState ≠ .sending
    let hears := fun l' : Link => { s with link := l' }
    (∀ kind f, Addressed kind f s → kind ∉ requestKinds →
      exec (.unknownKind kind f) s = .next (hears (answered kind f .unknownKind [] l))) ∧
    (∀ kind f, listens → f.payload.length ≤ 250 →
      crcOf (frameCovered kind f) ≠ f.crc ∨ (f.addr ≠ 0 ∧ f.addr ≠ l.slot.zeroExtend 8) ∨
        (f.addr = 0 ∧ kind ∉ ([0x04, 0x12, 0x13, 0x14] : List Byte)) →
      exec (.frameDiscard kind f) s = .next (hears (unanswered l))) ∧
    (∀ c kind f, requestOf c = some (kind, f) → ¬ listens →
      ∃ t, exec c s = .next t ∧ t = { s with straps := t.straps }) ∧
    (∀ ch bad, ¬ listens → exec (.lineCharacter ch bad) s = .next s) ∧
    (∀ c, c = .frameAbandon ∨ c = .frameGapExpiry →
      exec c s = .next (if l.inReset = false ∧ l.replyState ≠ .sending then hears { l with rx := .hunt, rxBuf := [] }
        else s)) ∧
    exec .replyBegin s = .next (if l.replyState = .pending then hears { l with replyState := .sending } else s) ∧
    exec .replyEnd s = .next (if l.replyState = .sending then
        hears { l with rx := .hunt, rxBuf := [], reply := none, replyState := .none }
      else s) ∧
    exec .replyAbandon s = .next (if l.replyState = .pending then hears { l with reply := none, replyState := .none }
      else s) ∧
    (∀ ch, listens → exec (.lineCharacter ch true) s = .next (hears (unanswered l))) ∧
    (∀ ch, listens → l.rx = .hunt → l.rxBuf = [] →
      exec (.lineCharacter ch false) s =
        .next (hears { unanswered l with rx := if ch = 0xC3 then .header else .hunt })) ∧
    (∀ ch, listens → l.rx = .header → l.rxBuf.length = 3 → 250 < ch.toNat →
      exec (.lineCharacter ch false) s = .next (hears (unanswered l)))
end

