-- ==== Sys2Proof/Laws/State.lean ====
section
/-! SUPPORT. The small lemmas of the state's updates: what each update leaves of each field, and what a socket, a zone or
a page reads as after it. -/

namespace Sys2Proof.Machine

/-! ## Fields that an update leaves alone -/

@[simp] theorem modSock_run (i : SocketId) (f : Socket → Socket) (s : State) : (modSock i f s).run = s.run := rfl
@[simp] theorem modSock_zones (i : SocketId) (f : Socket → Socket) (s : State) : (modSock i f s).zones = s.zones := rfl
@[simp] theorem modSock_store (i : SocketId) (f : Socket → Socket) (s : State) : (modSock i f s).store = s.store := rfl
@[simp] theorem modSock_link (i : SocketId) (f : Socket → Socket) (s : State) : (modSock i f s).link = s.link := rfl
@[simp] theorem modSock_notices (i : SocketId) (f : Socket → Socket) (s : State) : (modSock i f s).notices = s.notices := rfl
@[simp] theorem modSock_straps (i : SocketId) (f : Socket → Socket) (s : State) : (modSock i f s).straps = s.straps := rfl
@[simp] theorem modSock_now (i : SocketId) (f : Socket → Socket) (s : State) : (modSock i f s).now = s.now := rfl
@[simp] theorem modSock_freeDraws (i : SocketId) (f : Socket → Socket) (s : State) : (modSock i f s).freeDraws = s.freeDraws := rfl
@[simp] theorem modSock_pending (i : SocketId) (f : Socket → Socket) (s : State) : (modSock i f s).pending = s.pending := rfl

@[simp] theorem modRail_run (i : SocketId) (f : Rail → Rail) (s : State) : (modRail i f s).run = s.run := rfl
@[simp] theorem modRail_zones (i : SocketId) (f : Rail → Rail) (s : State) : (modRail i f s).zones = s.zones := rfl
@[simp] theorem modRail_store (i : SocketId) (f : Rail → Rail) (s : State) : (modRail i f s).store = s.store := rfl
@[simp] theorem modRail_link (i : SocketId) (f : Rail → Rail) (s : State) : (modRail i f s).link = s.link := rfl
@[simp] theorem modRail_notices (i : SocketId) (f : Rail → Rail) (s : State) : (modRail i f s).notices = s.notices := rfl
@[simp] theorem modRail_straps (i : SocketId) (f : Rail → Rail) (s : State) : (modRail i f s).straps = s.straps := rfl
@[simp] theorem modRail_now (i : SocketId) (f : Rail → Rail) (s : State) : (modRail i f s).now = s.now := rfl
@[simp] theorem modRail_freeDraws (i : SocketId) (f : Rail → Rail) (s : State) : (modRail i f s).freeDraws = s.freeDraws := rfl
@[simp] theorem modRail_pending (i : SocketId) (f : Rail → Rail) (s : State) : (modRail i f s).pending = s.pending := rfl

@[simp] theorem modTherm_run (i : SocketId) (f : Thermal → Thermal) (s : State) : (modTherm i f s).run = s.run := rfl
@[simp] theorem modTherm_zones (i : SocketId) (f : Thermal → Thermal) (s : State) : (modTherm i f s).zones = s.zones := rfl
@[simp] theorem modTherm_store (i : SocketId) (f : Thermal → Thermal) (s : State) : (modTherm i f s).store = s.store := rfl
@[simp] theorem modTherm_link (i : SocketId) (f : Thermal → Thermal) (s : State) : (modTherm i f s).link = s.link := rfl
@[simp] theorem modTherm_notices (i : SocketId) (f : Thermal → Thermal) (s : State) : (modTherm i f s).notices = s.notices := rfl
@[simp] theorem modTherm_straps (i : SocketId) (f : Thermal → Thermal) (s : State) : (modTherm i f s).straps = s.straps := rfl
@[simp] theorem modTherm_now (i : SocketId) (f : Thermal → Thermal) (s : State) : (modTherm i f s).now = s.now := rfl
@[simp] theorem modTherm_freeDraws (i : SocketId) (f : Thermal → Thermal) (s : State) : (modTherm i f s).freeDraws = s.freeDraws := rfl
@[simp] theorem modTherm_pending (i : SocketId) (f : Thermal → Thermal) (s : State) : (modTherm i f s).pending = s.pending := rfl

@[simp] theorem modLive_run (i : SocketId) (f : Liveness → Liveness) (s : State) : (modLive i f s).run = s.run := rfl
@[simp] theorem modLive_zones (i : SocketId) (f : Liveness → Liveness) (s : State) : (modLive i f s).zones = s.zones := rfl
@[simp] theorem modLive_store (i : SocketId) (f : Liveness → Liveness) (s : State) : (modLive i f s).store = s.store := rfl
@[simp] theorem modLive_link (i : SocketId) (f : Liveness → Liveness) (s : State) : (modLive i f s).link = s.link := rfl
@[simp] theorem modLive_notices (i : SocketId) (f : Liveness → Liveness) (s : State) : (modLive i f s).notices = s.notices := rfl
@[simp] theorem modLive_straps (i : SocketId) (f : Liveness → Liveness) (s : State) : (modLive i f s).straps = s.straps := rfl
@[simp] theorem modLive_now (i : SocketId) (f : Liveness → Liveness) (s : State) : (modLive i f s).now = s.now := rfl
@[simp] theorem modLive_freeDraws (i : SocketId) (f : Liveness → Liveness) (s : State) : (modLive i f s).freeDraws = s.freeDraws := rfl
@[simp] theorem modLive_pending (i : SocketId) (f : Liveness → Liveness) (s : State) : (modLive i f s).pending = s.pending := rfl

@[simp] theorem modPass_run (i : SocketId) (f : Pass → Pass) (s : State) : (modPass i f s).run = s.run := rfl
@[simp] theorem modPass_zones (i : SocketId) (f : Pass → Pass) (s : State) : (modPass i f s).zones = s.zones := rfl
@[simp] theorem modPass_store (i : SocketId) (f : Pass → Pass) (s : State) : (modPass i f s).store = s.store := rfl
@[simp] theorem modPass_link (i : SocketId) (f : Pass → Pass) (s : State) : (modPass i f s).link = s.link := rfl
@[simp] theorem modPass_notices (i : SocketId) (f : Pass → Pass) (s : State) : (modPass i f s).notices = s.notices := rfl
@[simp] theorem modPass_straps (i : SocketId) (f : Pass → Pass) (s : State) : (modPass i f s).straps = s.straps := rfl
@[simp] theorem modPass_now (i : SocketId) (f : Pass → Pass) (s : State) : (modPass i f s).now = s.now := rfl
@[simp] theorem modPass_freeDraws (i : SocketId) (f : Pass → Pass) (s : State) : (modPass i f s).freeDraws = s.freeDraws := rfl
@[simp] theorem modPass_pending (i : SocketId) (f : Pass → Pass) (s : State) : (modPass i f s).pending = s.pending := rfl

@[simp] theorem modAcct_run (i : SocketId) (f : Accounts → Accounts) (s : State) : (modAcct i f s).run = s.run := rfl
@[simp] theorem modAcct_zones (i : SocketId) (f : Accounts → Accounts) (s : State) : (modAcct i f s).zones = s.zones := rfl
@[simp] theorem modAcct_store (i : SocketId) (f : Accounts → Accounts) (s : State) : (modAcct i f s).store = s.store := rfl
@[simp] theorem modAcct_link (i : SocketId) (f : Accounts → Accounts) (s : State) : (modAcct i f s).link = s.link := rfl
@[simp] theorem modAcct_notices (i : SocketId) (f : Accounts → Accounts) (s : State) : (modAcct i f s).notices = s.notices := rfl
@[simp] theorem modAcct_straps (i : SocketId) (f : Accounts → Accounts) (s : State) : (modAcct i f s).straps = s.straps := rfl
@[simp] theorem modAcct_now (i : SocketId) (f : Accounts → Accounts) (s : State) : (modAcct i f s).now = s.now := rfl
@[simp] theorem modAcct_freeDraws (i : SocketId) (f : Accounts → Accounts) (s : State) : (modAcct i f s).freeDraws = s.freeDraws := rfl
@[simp] theorem modAcct_pending (i : SocketId) (f : Accounts → Accounts) (s : State) : (modAcct i f s).pending = s.pending := rfl

@[simp] theorem modZone_run (z : ZoneId) (f : Zone → Zone) (s : State) : (modZone z f s).run = s.run := rfl
@[simp] theorem modZone_sockets (z : ZoneId) (f : Zone → Zone) (s : State) : (modZone z f s).sockets = s.sockets := rfl
@[simp] theorem modZone_store (z : ZoneId) (f : Zone → Zone) (s : State) : (modZone z f s).store = s.store := rfl
@[simp] theorem modZone_link (z : ZoneId) (f : Zone → Zone) (s : State) : (modZone z f s).link = s.link := rfl
@[simp] theorem modZone_notices (z : ZoneId) (f : Zone → Zone) (s : State) : (modZone z f s).notices = s.notices := rfl
@[simp] theorem modZone_straps (z : ZoneId) (f : Zone → Zone) (s : State) : (modZone z f s).straps = s.straps := rfl
@[simp] theorem modZone_now (z : ZoneId) (f : Zone → Zone) (s : State) : (modZone z f s).now = s.now := rfl
@[simp] theorem modZone_freeDraws (z : ZoneId) (f : Zone → Zone) (s : State) : (modZone z f s).freeDraws = s.freeDraws := rfl
@[simp] theorem modZone_pending (z : ZoneId) (f : Zone → Zone) (s : State) : (modZone z f s).pending = s.pending := rfl

@[simp] theorem modSeq_run (z : ZoneId) (f : Seq → Seq) (s : State) : (modSeq z f s).run = s.run := rfl
@[simp] theorem modSeq_sockets (z : ZoneId) (f : Seq → Seq) (s : State) : (modSeq z f s).sockets = s.sockets := rfl
@[simp] theorem modSeq_store (z : ZoneId) (f : Seq → Seq) (s : State) : (modSeq z f s).store = s.store := rfl
@[simp] theorem modSeq_link (z : ZoneId) (f : Seq → Seq) (s : State) : (modSeq z f s).link = s.link := rfl
@[simp] theorem modSeq_notices (z : ZoneId) (f : Seq → Seq) (s : State) : (modSeq z f s).notices = s.notices := rfl
@[simp] theorem modSeq_straps (z : ZoneId) (f : Seq → Seq) (s : State) : (modSeq z f s).straps = s.straps := rfl
@[simp] theorem modSeq_now (z : ZoneId) (f : Seq → Seq) (s : State) : (modSeq z f s).now = s.now := rfl
@[simp] theorem modSeq_freeDraws (z : ZoneId) (f : Seq → Seq) (s : State) : (modSeq z f s).freeDraws = s.freeDraws := rfl
@[simp] theorem modSeq_pending (z : ZoneId) (f : Seq → Seq) (s : State) : (modSeq z f s).pending = s.pending := rfl

@[simp] theorem modChk_run (z : ZoneId) (f : CheckZone → CheckZone) (s : State) : (modChk z f s).run = s.run := rfl
@[simp] theorem modChk_sockets (z : ZoneId) (f : CheckZone → CheckZone) (s : State) : (modChk z f s).sockets = s.sockets := rfl
@[simp] theorem modChk_store (z : ZoneId) (f : CheckZone → CheckZone) (s : State) : (modChk z f s).store = s.store := rfl
@[simp] theorem modChk_link (z : ZoneId) (f : CheckZone → CheckZone) (s : State) : (modChk z f s).link = s.link := rfl
@[simp] theorem modChk_notices (z : ZoneId) (f : CheckZone → CheckZone) (s : State) : (modChk z f s).notices = s.notices := rfl
@[simp] theorem modChk_straps (z : ZoneId) (f : CheckZone → CheckZone) (s : State) : (modChk z f s).straps = s.straps := rfl
@[simp] theorem modChk_now (z : ZoneId) (f : CheckZone → CheckZone) (s : State) : (modChk z f s).now = s.now := rfl
@[simp] theorem modChk_freeDraws (z : ZoneId) (f : CheckZone → CheckZone) (s : State) : (modChk z f s).freeDraws = s.freeDraws := rfl
@[simp] theorem modChk_pending (z : ZoneId) (f : CheckZone → CheckZone) (s : State) : (modChk z f s).pending = s.pending := rfl

@[simp] theorem modRun_sockets (f : Run → Run) (s : State) : (modRun f s).sockets = s.sockets := rfl
@[simp] theorem modRun_zones (f : Run → Run) (s : State) : (modRun f s).zones = s.zones := rfl
@[simp] theorem modRun_store (f : Run → Run) (s : State) : (modRun f s).store = s.store := rfl
@[simp] theorem modRun_link (f : Run → Run) (s : State) : (modRun f s).link = s.link := rfl
@[simp] theorem modRun_notices (f : Run → Run) (s : State) : (modRun f s).notices = s.notices := rfl
@[simp] theorem modRun_straps (f : Run → Run) (s : State) : (modRun f s).straps = s.straps := rfl
@[simp] theorem modRun_now (f : Run → Run) (s : State) : (modRun f s).now = s.now := rfl
@[simp] theorem modRun_freeDraws (f : Run → Run) (s : State) : (modRun f s).freeDraws = s.freeDraws := rfl
@[simp] theorem modRun_pending (f : Run → Run) (s : State) : (modRun f s).pending = s.pending := rfl

@[simp] theorem modStore_run (f : Store → Store) (s : State) : (modStore f s).run = s.run := rfl
@[simp] theorem modStore_sockets (f : Store → Store) (s : State) : (modStore f s).sockets = s.sockets := rfl
@[simp] theorem modStore_zones (f : Store → Store) (s : State) : (modStore f s).zones = s.zones := rfl
@[simp] theorem modStore_link (f : Store → Store) (s : State) : (modStore f s).link = s.link := rfl
@[simp] theorem modStore_notices (f : Store → Store) (s : State) : (modStore f s).notices = s.notices := rfl
@[simp] theorem modStore_straps (f : Store → Store) (s : State) : (modStore f s).straps = s.straps := rfl
@[simp] theorem modStore_now (f : Store → Store) (s : State) : (modStore f s).now = s.now := rfl
@[simp] theorem modStore_freeDraws (f : Store → Store) (s : State) : (modStore f s).freeDraws = s.freeDraws := rfl
@[simp] theorem modStore_pending (f : Store → Store) (s : State) : (modStore f s).pending = s.pending := rfl

@[simp] theorem modPage_run (p : PageId) (f : Page → Page) (s : State) : (modPage p f s).run = s.run := rfl
@[simp] theorem modPage_sockets (p : PageId) (f : Page → Page) (s : State) : (modPage p f s).sockets = s.sockets := rfl
@[simp] theorem modPage_zones (p : PageId) (f : Page → Page) (s : State) : (modPage p f s).zones = s.zones := rfl
@[simp] theorem modPage_link (p : PageId) (f : Page → Page) (s : State) : (modPage p f s).link = s.link := rfl
@[simp] theorem modPage_notices (p : PageId) (f : Page → Page) (s : State) : (modPage p f s).notices = s.notices := rfl
@[simp] theorem modPage_straps (p : PageId) (f : Page → Page) (s : State) : (modPage p f s).straps = s.straps := rfl
@[simp] theorem modPage_now (p : PageId) (f : Page → Page) (s : State) : (modPage p f s).now = s.now := rfl
@[simp] theorem modPage_freeDraws (p : PageId) (f : Page → Page) (s : State) : (modPage p f s).freeDraws = s.freeDraws := rfl
@[simp] theorem modPage_pending (p : PageId) (f : Page → Page) (s : State) : (modPage p f s).pending = s.pending := rfl

@[simp] theorem modLink_run (f : Link → Link) (s : State) : (modLink f s).run = s.run := rfl
@[simp] theorem modLink_sockets (f : Link → Link) (s : State) : (modLink f s).sockets = s.sockets := rfl
@[simp] theorem modLink_zones (f : Link → Link) (s : State) : (modLink f s).zones = s.zones := rfl
@[simp] theorem modLink_store (f : Link → Link) (s : State) : (modLink f s).store = s.store := rfl
@[simp] theorem modLink_notices (f : Link → Link) (s : State) : (modLink f s).notices = s.notices := rfl
@[simp] theorem modLink_straps (f : Link → Link) (s : State) : (modLink f s).straps = s.straps := rfl
@[simp] theorem modLink_now (f : Link → Link) (s : State) : (modLink f s).now = s.now := rfl
@[simp] theorem modLink_freeDraws (f : Link → Link) (s : State) : (modLink f s).freeDraws = s.freeDraws := rfl
@[simp] theorem modLink_pending (f : Link → Link) (s : State) : (modLink f s).pending = s.pending := rfl

@[simp] theorem modNotices_run (f : NoticeQueue → NoticeQueue) (s : State) : (modNotices f s).run = s.run := rfl
@[simp] theorem modNotices_sockets (f : NoticeQueue → NoticeQueue) (s : State) : (modNotices f s).sockets = s.sockets := rfl
@[simp] theorem modNotices_zones (f : NoticeQueue → NoticeQueue) (s : State) : (modNotices f s).zones = s.zones := rfl
@[simp] theorem modNotices_store (f : NoticeQueue → NoticeQueue) (s : State) : (modNotices f s).store = s.store := rfl
@[simp] theorem modNotices_link (f : NoticeQueue → NoticeQueue) (s : State) : (modNotices f s).link = s.link := rfl
@[simp] theorem modNotices_straps (f : NoticeQueue → NoticeQueue) (s : State) : (modNotices f s).straps = s.straps := rfl
@[simp] theorem modNotices_now (f : NoticeQueue → NoticeQueue) (s : State) : (modNotices f s).now = s.now := rfl
@[simp] theorem modNotices_freeDraws (f : NoticeQueue → NoticeQueue) (s : State) : (modNotices f s).freeDraws = s.freeDraws := rfl
@[simp] theorem modNotices_pending (f : NoticeQueue → NoticeQueue) (s : State) : (modNotices f s).pending = s.pending := rfl

@[simp] theorem advanceTo_run (t : Nat) (s : State) : (advanceTo t s).run = s.run := rfl
@[simp] theorem advanceTo_sockets (t : Nat) (s : State) : (advanceTo t s).sockets = s.sockets := rfl
@[simp] theorem advanceTo_zones (t : Nat) (s : State) : (advanceTo t s).zones = s.zones := rfl
@[simp] theorem advanceTo_store (t : Nat) (s : State) : (advanceTo t s).store = s.store := rfl
@[simp] theorem advanceTo_link (t : Nat) (s : State) : (advanceTo t s).link = s.link := rfl
@[simp] theorem advanceTo_notices (t : Nat) (s : State) : (advanceTo t s).notices = s.notices := rfl
@[simp] theorem advanceTo_straps (t : Nat) (s : State) : (advanceTo t s).straps = s.straps := rfl
@[simp] theorem advanceTo_freeDraws (t : Nat) (s : State) : (advanceTo t s).freeDraws = s.freeDraws := rfl
@[simp] theorem advanceTo_pending (t : Nat) (s : State) : (advanceTo t s).pending = s.pending := rfl

/-! ## The field an update changes -/

@[simp] theorem modRun_run (f : Run → Run) (s : State) : (modRun f s).run = f s.run := rfl

@[simp] theorem modStore_store (f : Store → Store) (s : State) : (modStore f s).store = f s.store := rfl

@[simp] theorem modLink_link (f : Link → Link) (s : State) : (modLink f s).link = f s.link := rfl

@[simp] theorem modNotices_notices (f : NoticeQueue → NoticeQueue) (s : State) :
    (modNotices f s).notices = f s.notices := rfl

@[simp] theorem advanceTo_now (t : Nat) (s : State) : (advanceTo t s).now = max s.now t := rfl

/-! ## Reading a socket, a zone or a page after an update -/

theorem modSock_sock (i j : SocketId) (f : Socket → Socket) (s : State) :
    (modSock i f s).sock j = if j = i then f (s.sock i) else s.sock j := by
  unfold modSock State.sock
  by_cases h : j = i
  · subst h; simp
  · have : i.val ≠ j.val := fun e => h (Fin.ext e.symm)
    simp [h, this]

@[simp] theorem modSock_sock_self (i : SocketId) (f : Socket → Socket) (s : State) :
    (modSock i f s).sock i = f (s.sock i) := by simp [modSock_sock]

theorem modSock_sock_ne {i j : SocketId} (h : j ≠ i) (f : Socket → Socket) (s : State) :
    (modSock i f s).sock j = s.sock j := by simp [modSock_sock, h]

@[simp] theorem modSock_zone (i : SocketId) (f : Socket → Socket) (s : State) (z : ZoneId) :
    (modSock i f s).zone z = s.zone z := rfl

theorem modZone_zone (z y : ZoneId) (f : Zone → Zone) (s : State) :
    (modZone z f s).zone y = if y = z then f (s.zone z) else s.zone y := by
  unfold modZone State.zone
  by_cases h : y = z
  · subst h; simp
  · have : z.val ≠ y.val := fun e => h (Fin.ext e.symm)
    simp [h, this]

@[simp] theorem modZone_zone_self (z : ZoneId) (f : Zone → Zone) (s : State) :
    (modZone z f s).zone z = f (s.zone z) := by simp [modZone_zone]

theorem modZone_zone_ne {z y : ZoneId} (h : y ≠ z) (f : Zone → Zone) (s : State) :
    (modZone z f s).zone y = s.zone y := by simp [modZone_zone, h]

@[simp] theorem modZone_sock (z : ZoneId) (f : Zone → Zone) (s : State) (i : SocketId) :
    (modZone z f s).sock i = s.sock i := rfl

theorem modPage_page (p q : PageId) (f : Page → Page) (s : State) :
    (modPage p f s).page q = if q = p then f (s.page p) else s.page q := by
  unfold modPage modStore State.page
  by_cases h : q = p
  · subst h; simp
  · have : p.val ≠ q.val := fun e => h (Fin.ext e.symm)
    simp [h, this]

@[simp] theorem modPage_mem (p : PageId) (f : Page → Page) (s : State) : (modPage p f s).store.mem = s.store.mem := rfl

@[simp] theorem modPage_staging (p : PageId) (f : Page → Page) (s : State) :
    (modPage p f s).store.staging = s.store.staging := rfl

@[simp] theorem modPage_programs (p : PageId) (f : Page → Page) (s : State) :
    (modPage p f s).store.programs = s.store.programs := rfl

@[simp] theorem modPage_port (p : PageId) (f : Page → Page) (s : State) : (modPage p f s).store.port = s.store.port := rfl

@[simp] theorem modRun_sock (f : Run → Run) (s : State) (i : SocketId) : (modRun f s).sock i = s.sock i := rfl

@[simp] theorem modRun_zone (f : Run → Run) (s : State) (z : ZoneId) : (modRun f s).zone z = s.zone z := rfl

@[simp] theorem modStore_sock (f : Store → Store) (s : State) (i : SocketId) : (modStore f s).sock i = s.sock i := rfl

@[simp] theorem modStore_zone (f : Store → Store) (s : State) (z : ZoneId) : (modStore f s).zone z = s.zone z := rfl

@[simp] theorem modLink_sock (f : Link → Link) (s : State) (i : SocketId) : (modLink f s).sock i = s.sock i := rfl

@[simp] theorem modLink_zone (f : Link → Link) (s : State) (z : ZoneId) : (modLink f s).zone z = s.zone z := rfl

@[simp] theorem modNotices_sock (f : NoticeQueue → NoticeQueue) (s : State) (i : SocketId) : (modNotices f s).sock i = s.sock i := rfl

@[simp] theorem modNotices_zone (f : NoticeQueue → NoticeQueue) (s : State) (z : ZoneId) : (modNotices f s).zone z = s.zone z := rfl

@[simp] theorem advanceTo_sock (t : Nat) (s : State) (i : SocketId) : (advanceTo t s).sock i = s.sock i := rfl

@[simp] theorem advanceTo_zone (t : Nat) (s : State) (z : ZoneId) : (advanceTo t s).zone z = s.zone z := rfl

/-! ## Parts of a socket record, and of a zone -/

theorem modRail_sock (i j : SocketId) (f : Rail → Rail) (s : State) :
    (modRail i f s).sock j = if j = i then { s.sock i with rail := f (s.sock i).rail } else s.sock j := modSock_sock i j _ s

@[simp] theorem modRail_rail_self (i : SocketId) (f : Rail → Rail) (s : State) :
    ((modRail i f s).sock i).rail = f (s.sock i).rail := by simp [modRail_sock]

@[simp] theorem modRail_zone (i : SocketId) (f : Rail → Rail) (s : State) (z : ZoneId) :
    (modRail i f s).zone z = s.zone z := rfl

@[simp] theorem modRail_life (i j : SocketId) (f : Rail → Rail) (s : State) :
    ((modRail i f s).sock j).life = (s.sock j).life := by rw [modRail_sock]; split <;> simp_all

@[simp] theorem modRail_bin (i j : SocketId) (f : Rail → Rail) (s : State) :
    ((modRail i f s).sock j).bin = (s.sock j).bin := by rw [modRail_sock]; split <;> simp_all

@[simp] theorem modRail_therm (i j : SocketId) (f : Rail → Rail) (s : State) :
    ((modRail i f s).sock j).therm = (s.sock j).therm := by rw [modRail_sock]; split <;> simp_all

@[simp] theorem modRail_live (i j : SocketId) (f : Rail → Rail) (s : State) :
    ((modRail i f s).sock j).live = (s.sock j).live := by rw [modRail_sock]; split <;> simp_all

@[simp] theorem modRail_pass (i j : SocketId) (f : Rail → Rail) (s : State) :
    ((modRail i f s).sock j).pass = (s.sock j).pass := by rw [modRail_sock]; split <;> simp_all

@[simp] theorem modRail_acct (i j : SocketId) (f : Rail → Rail) (s : State) :
    ((modRail i f s).sock j).acct = (s.sock j).acct := by rw [modRail_sock]; split <;> simp_all

theorem modTherm_sock (i j : SocketId) (f : Thermal → Thermal) (s : State) :
    (modTherm i f s).sock j = if j = i then { s.sock i with therm := f (s.sock i).therm } else s.sock j := modSock_sock i j _ s

@[simp] theorem modTherm_therm_self (i : SocketId) (f : Thermal → Thermal) (s : State) :
    ((modTherm i f s).sock i).therm = f (s.sock i).therm := by simp [modTherm_sock]

@[simp] theorem modTherm_zone (i : SocketId) (f : Thermal → Thermal) (s : State) (z : ZoneId) :
    (modTherm i f s).zone z = s.zone z := rfl

@[simp] theorem modTherm_life (i j : SocketId) (f : Thermal → Thermal) (s : State) :
    ((modTherm i f s).sock j).life = (s.sock j).life := by rw [modTherm_sock]; split <;> simp_all

@[simp] theorem modTherm_bin (i j : SocketId) (f : Thermal → Thermal) (s : State) :
    ((modTherm i f s).sock j).bin = (s.sock j).bin := by rw [modTherm_sock]; split <;> simp_all

@[simp] theorem modTherm_rail (i j : SocketId) (f : Thermal → Thermal) (s : State) :
    ((modTherm i f s).sock j).rail = (s.sock j).rail := by rw [modTherm_sock]; split <;> simp_all

@[simp] theorem modTherm_live (i j : SocketId) (f : Thermal → Thermal) (s : State) :
    ((modTherm i f s).sock j).live = (s.sock j).live := by rw [modTherm_sock]; split <;> simp_all

@[simp] theorem modTherm_pass (i j : SocketId) (f : Thermal → Thermal) (s : State) :
    ((modTherm i f s).sock j).pass = (s.sock j).pass := by rw [modTherm_sock]; split <;> simp_all

@[simp] theorem modTherm_acct (i j : SocketId) (f : Thermal → Thermal) (s : State) :
    ((modTherm i f s).sock j).acct = (s.sock j).acct := by rw [modTherm_sock]; split <;> simp_all

theorem modLive_sock (i j : SocketId) (f : Liveness → Liveness) (s : State) :
    (modLive i f s).sock j = if j = i then { s.sock i with live := f (s.sock i).live } else s.sock j := modSock_sock i j _ s

@[simp] theorem modLive_live_self (i : SocketId) (f : Liveness → Liveness) (s : State) :
    ((modLive i f s).sock i).live = f (s.sock i).live := by simp [modLive_sock]

@[simp] theorem modLive_zone (i : SocketId) (f : Liveness → Liveness) (s : State) (z : ZoneId) :
    (modLive i f s).zone z = s.zone z := rfl

@[simp] theorem modLive_life (i j : SocketId) (f : Liveness → Liveness) (s : State) :
    ((modLive i f s).sock j).life = (s.sock j).life := by rw [modLive_sock]; split <;> simp_all

@[simp] theorem modLive_bin (i j : SocketId) (f : Liveness → Liveness) (s : State) :
    ((modLive i f s).sock j).bin = (s.sock j).bin := by rw [modLive_sock]; split <;> simp_all

@[simp] theorem modLive_rail (i j : SocketId) (f : Liveness → Liveness) (s : State) :
    ((modLive i f s).sock j).rail = (s.sock j).rail := by rw [modLive_sock]; split <;> simp_all

@[simp] theorem modLive_therm (i j : SocketId) (f : Liveness → Liveness) (s : State) :
    ((modLive i f s).sock j).therm = (s.sock j).therm := by rw [modLive_sock]; split <;> simp_all

@[simp] theorem modLive_pass (i j : SocketId) (f : Liveness → Liveness) (s : State) :
    ((modLive i f s).sock j).pass = (s.sock j).pass := by rw [modLive_sock]; split <;> simp_all

@[simp] theorem modLive_acct (i j : SocketId) (f : Liveness → Liveness) (s : State) :
    ((modLive i f s).sock j).acct = (s.sock j).acct := by rw [modLive_sock]; split <;> simp_all

theorem modPass_sock (i j : SocketId) (f : Pass → Pass) (s : State) :
    (modPass i f s).sock j = if j = i then { s.sock i with pass := f (s.sock i).pass } else s.sock j := modSock_sock i j _ s

@[simp] theorem modPass_pass_self (i : SocketId) (f : Pass → Pass) (s : State) :
    ((modPass i f s).sock i).pass = f (s.sock i).pass := by simp [modPass_sock]

@[simp] theorem modPass_zone (i : SocketId) (f : Pass → Pass) (s : State) (z : ZoneId) :
    (modPass i f s).zone z = s.zone z := rfl

@[simp] theorem modPass_life (i j : SocketId) (f : Pass → Pass) (s : State) :
    ((modPass i f s).sock j).life = (s.sock j).life := by rw [modPass_sock]; split <;> simp_all

@[simp] theorem modPass_bin (i j : SocketId) (f : Pass → Pass) (s : State) :
    ((modPass i f s).sock j).bin = (s.sock j).bin := by rw [modPass_sock]; split <;> simp_all

@[simp] theorem modPass_rail (i j : SocketId) (f : Pass → Pass) (s : State) :
    ((modPass i f s).sock j).rail = (s.sock j).rail := by rw [modPass_sock]; split <;> simp_all

@[simp] theorem modPass_therm (i j : SocketId) (f : Pass → Pass) (s : State) :
    ((modPass i f s).sock j).therm = (s.sock j).therm := by rw [modPass_sock]; split <;> simp_all

@[simp] theorem modPass_live (i j : SocketId) (f : Pass → Pass) (s : State) :
    ((modPass i f s).sock j).live = (s.sock j).live := by rw [modPass_sock]; split <;> simp_all

@[simp] theorem modPass_acct (i j : SocketId) (f : Pass → Pass) (s : State) :
    ((modPass i f s).sock j).acct = (s.sock j).acct := by rw [modPass_sock]; split <;> simp_all

theorem modAcct_sock (i j : SocketId) (f : Accounts → Accounts) (s : State) :
    (modAcct i f s).sock j = if j = i then { s.sock i with acct := f (s.sock i).acct } else s.sock j := modSock_sock i j _ s

@[simp] theorem modAcct_acct_self (i : SocketId) (f : Accounts → Accounts) (s : State) :
    ((modAcct i f s).sock i).acct = f (s.sock i).acct := by simp [modAcct_sock]

@[simp] theorem modAcct_zone (i : SocketId) (f : Accounts → Accounts) (s : State) (z : ZoneId) :
    (modAcct i f s).zone z = s.zone z := rfl

@[simp] theorem modAcct_life (i j : SocketId) (f : Accounts → Accounts) (s : State) :
    ((modAcct i f s).sock j).life = (s.sock j).life := by rw [modAcct_sock]; split <;> simp_all

@[simp] theorem modAcct_bin (i j : SocketId) (f : Accounts → Accounts) (s : State) :
    ((modAcct i f s).sock j).bin = (s.sock j).bin := by rw [modAcct_sock]; split <;> simp_all

@[simp] theorem modAcct_rail (i j : SocketId) (f : Accounts → Accounts) (s : State) :
    ((modAcct i f s).sock j).rail = (s.sock j).rail := by rw [modAcct_sock]; split <;> simp_all

@[simp] theorem modAcct_therm (i j : SocketId) (f : Accounts → Accounts) (s : State) :
    ((modAcct i f s).sock j).therm = (s.sock j).therm := by rw [modAcct_sock]; split <;> simp_all

@[simp] theorem modAcct_live (i j : SocketId) (f : Accounts → Accounts) (s : State) :
    ((modAcct i f s).sock j).live = (s.sock j).live := by rw [modAcct_sock]; split <;> simp_all

@[simp] theorem modAcct_pass (i j : SocketId) (f : Accounts → Accounts) (s : State) :
    ((modAcct i f s).sock j).pass = (s.sock j).pass := by rw [modAcct_sock]; split <;> simp_all

theorem modSeq_zone (z y : ZoneId) (f : Seq → Seq) (s : State) :
    (modSeq z f s).zone y = if y = z then { s.zone z with seq := f (s.zone z).seq } else s.zone y := modZone_zone z y _ s

@[simp] theorem modSeq_seq_self (z : ZoneId) (f : Seq → Seq) (s : State) :
    ((modSeq z f s).zone z).seq = f (s.zone z).seq := by simp [modSeq_zone]

@[simp] theorem modSeq_sock (z : ZoneId) (f : Seq → Seq) (s : State) (i : SocketId) :
    (modSeq z f s).sock i = s.sock i := rfl

@[simp] theorem modSeq_railProf (z y : ZoneId) (f : Seq → Seq) (s : State) :
    ((modSeq z f s).zone y).railProf = (s.zone y).railProf := by rw [modSeq_zone]; split <;> simp_all

@[simp] theorem modSeq_rampQueue (z y : ZoneId) (f : Seq → Seq) (s : State) :
    ((modSeq z f s).zone y).rampQueue = (s.zone y).rampQueue := by rw [modSeq_zone]; split <;> simp_all

@[simp] theorem modSeq_thermProf (z y : ZoneId) (f : Seq → Seq) (s : State) :
    ((modSeq z f s).zone y).thermProf = (s.zone y).thermProf := by rw [modSeq_zone]; split <;> simp_all

@[simp] theorem modSeq_budget (z y : ZoneId) (f : Seq → Seq) (s : State) :
    ((modSeq z f s).zone y).budget = (s.zone y).budget := by rw [modSeq_zone]; split <;> simp_all

@[simp] theorem modSeq_armed (z y : ZoneId) (f : Seq → Seq) (s : State) :
    ((modSeq z f s).zone y).armed = (s.zone y).armed := by rw [modSeq_zone]; split <;> simp_all

@[simp] theorem modSeq_chk (z y : ZoneId) (f : Seq → Seq) (s : State) :
    ((modSeq z f s).zone y).chk = (s.zone y).chk := by rw [modSeq_zone]; split <;> simp_all

theorem modChk_zone (z y : ZoneId) (f : CheckZone → CheckZone) (s : State) :
    (modChk z f s).zone y = if y = z then { s.zone z with chk := f (s.zone z).chk } else s.zone y := modZone_zone z y _ s

@[simp] theorem modChk_chk_self (z : ZoneId) (f : CheckZone → CheckZone) (s : State) :
    ((modChk z f s).zone z).chk = f (s.zone z).chk := by simp [modChk_zone]

@[simp] theorem modChk_sock (z : ZoneId) (f : CheckZone → CheckZone) (s : State) (i : SocketId) :
    (modChk z f s).sock i = s.sock i := rfl

@[simp] theorem modChk_railProf (z y : ZoneId) (f : CheckZone → CheckZone) (s : State) :
    ((modChk z f s).zone y).railProf = (s.zone y).railProf := by rw [modChk_zone]; split <;> simp_all

@[simp] theorem modChk_rampQueue (z y : ZoneId) (f : CheckZone → CheckZone) (s : State) :
    ((modChk z f s).zone y).rampQueue = (s.zone y).rampQueue := by rw [modChk_zone]; split <;> simp_all

@[simp] theorem modChk_thermProf (z y : ZoneId) (f : CheckZone → CheckZone) (s : State) :
    ((modChk z f s).zone y).thermProf = (s.zone y).thermProf := by rw [modChk_zone]; split <;> simp_all

@[simp] theorem modChk_budget (z y : ZoneId) (f : CheckZone → CheckZone) (s : State) :
    ((modChk z f s).zone y).budget = (s.zone y).budget := by rw [modChk_zone]; split <;> simp_all

@[simp] theorem modChk_armed (z y : ZoneId) (f : CheckZone → CheckZone) (s : State) :
    ((modChk z f s).zone y).armed = (s.zone y).armed := by rw [modChk_zone]; split <;> simp_all

@[simp] theorem modChk_seq (z y : ZoneId) (f : CheckZone → CheckZone) (s : State) :
    ((modChk z f s).zone y).seq = (s.zone y).seq := by rw [modChk_zone]; split <;> simp_all

end Sys2Proof.Machine
end

