-- ==== Sys2Proof/Laws/Memory.lean ====
section
/-! SUPPORT. The pattern memory: its operations keep the canonical form, a read after a write gives the slot written,
and every other slot reads as before. -/

namespace Sys2Proof.Machine

theorem wfFrom_mono {lo lo' : Nat} (h : lo' ≤ lo) : ∀ {m}, Memory.wfFrom lo m = true → Memory.wfFrom lo' m = true := by
  intro m hm
  cases m with
  | nil => rfl
  | cons e m =>
    obtain ⟨a, v⟩ := e
    simp only [Memory.wfFrom, Bool.and_eq_true, decide_eq_true_eq] at hm ⊢
    exact ⟨⟨by omega, hm.1.2⟩, hm.2⟩

theorem memRead_below {lo j : Nat} : ∀ {m}, Memory.wfFrom lo m = true → j < lo → memRead m j = unlistedSlot := by
  intro m hm hj
  cases m with
  | nil => rfl
  | cons e m =>
    obtain ⟨a, v⟩ := e
    simp only [Memory.wfFrom, Bool.and_eq_true, decide_eq_true_eq] at hm
    simp [memRead, show j ≠ a by omega, show j < a by omega]

theorem memWrite_wfFrom (k : Nat) (w : Slot) : ∀ {m : List (Nat × Slot)} {lo : Nat}, Memory.wfFrom lo m = true → lo ≤ k →
    Memory.wfFrom lo (memWrite m k w) = true := by
  intro m
  induction m with
  | nil => intro lo _ hk; by_cases hw : w = unlistedSlot <;> simp [memWrite, hw, Memory.wfFrom, hk]
  | cons e m ih =>
    obtain ⟨a, v⟩ := e
    intro lo hm hk
    simp only [Memory.wfFrom, Bool.and_eq_true, decide_eq_true_eq] at hm
    obtain ⟨⟨h1, h2⟩, h3⟩ := hm
    unfold memWrite
    by_cases hka : k < a
    · by_cases hw : w = unlistedSlot
      · simp [hka, hw, Memory.wfFrom, h1, h2, h3]
      · simp [hka, hw, Memory.wfFrom, h2, h3, hk]
    · by_cases hke : k = a
      · subst hke
        by_cases hw : w = unlistedSlot
        · simpa [hw] using wfFrom_mono (by omega) h3
        · simp [hw, Memory.wfFrom, h3, hk]
      · simp [hka, hke, Memory.wfFrom, h1, h2, ih h3 (by omega)]

/-- A write keeps the canonical form. -/
theorem memWrite_wf (m : List (Nat × Slot)) (k : Nat) (w : Slot) (h : Memory.wf m = true) :
    Memory.wf (memWrite m k w) = true := memWrite_wfFrom k w h (Nat.zero_le k)

/-- A run of writes keeps the canonical form. -/
theorem memWriteRun_wf (ws : List Slot) : ∀ (m : List (Nat × Slot)) (k : Nat), Memory.wf m = true →
    Memory.wf (memWriteRun m k ws) = true := by
  induction ws with
  | nil => intro m k h; exact h
  | cons w ws ih => intro m k h; exact ih _ _ (memWrite_wf m k w h)

theorem memRead_memWriteFrom (k j : Nat) (w : Slot) : ∀ {m : List (Nat × Slot)} {lo : Nat}, Memory.wfFrom lo m = true →
    memRead (memWrite m k w) j = if j = k then w else memRead m j := by
  intro m
  induction m with
  | nil =>
    intro lo _
    by_cases hw : w = unlistedSlot
    · simp [memWrite, hw, memRead]
    · simp [memWrite, hw, memRead]
  | cons e m ih =>
    obtain ⟨a, v⟩ := e
    intro lo hm
    simp only [Memory.wfFrom, Bool.and_eq_true, decide_eq_true_eq] at hm
    obtain ⟨⟨-, -⟩, h3⟩ := hm
    unfold memWrite
    by_cases hka : k < a
    · by_cases hw : w = unlistedSlot
      · simp only [hka, hw, if_true]
        by_cases hjk : j = k
        · subst hjk; simp [memRead, hka, show j ≠ a by omega]
        · simp [hjk]
      · simp only [hka, hw, if_true, if_false]
        by_cases hjk : j = k
        · simp [memRead, hjk]
        · by_cases hlt : j < k
          · simp [memRead, hjk, hlt, show j ≠ a by omega, show j < a by omega]
          · rw [memRead]; simp [hjk, hlt]
    · by_cases hke : k = a
      · subst hke
        by_cases hw : w = unlistedSlot
        · simp only [hw, if_true, lt_irrefl, if_false]
          by_cases hjk : j = k
          · subst hjk; simp [memRead_below h3 (show j < j + 1 by omega)]
          · by_cases hlt : j < k
            · simp [memRead, hjk, hlt, memRead_below h3 (show j < k + 1 by omega)]
            · simp [memRead, hjk, hlt]
        · by_cases hjk : j = k <;> simp [hw, memRead, hjk]
      · simp only [hka, hke, if_false, memRead, ih h3]
        by_cases hja : j = a
        · simp [hja, show a ≠ k by omega]
        · by_cases hlt : j < a
          · simp [hja, hlt, show j ≠ k by omega]
          · simp [hja, hlt]

/-- Reading after a write: the slot written, or what was there. -/
theorem memRead_memWrite (m : List (Nat × Slot)) (k j : Nat) (w : Slot) (h : Memory.wf m = true) :
    memRead (memWrite m k w) j = if j = k then w else memRead m j := memRead_memWriteFrom k j w h

/-- Reading after a run of writes: the slot of the run at its place, or what was there. -/
theorem memRead_memWriteRun (ws : List Slot) : ∀ (m : List (Nat × Slot)) (k j : Nat), Memory.wf m = true →
    memRead (memWriteRun m k ws) j = if k ≤ j ∧ j < k + ws.length then ws.getD (j - k) 0 else memRead m j := by
  induction ws with
  | nil => intro m k j _; simp [memWriteRun, show ¬(k ≤ j ∧ j < k) by omega]
  | cons w ws ih =>
    intro m k j h
    rw [memWriteRun, ih _ _ _ (memWrite_wf m k w h), memRead_memWrite m k j w h]
    by_cases h1 : j = k
    · subst h1; simp
    · by_cases h2 : k + 1 ≤ j ∧ j < k + 1 + ws.length
      · obtain ⟨n, rfl⟩ : ∃ n, j = k + 1 + n := ⟨j - (k + 1), by omega⟩
        simp [show n < ws.length by omega, show k + 1 + n - k = n + 1 by omega,
          show k ≤ k + 1 + n by omega, show k + 1 + n < k + (ws.length + 1) by omega]
      · rw [if_neg h2, if_neg h1, if_neg (by simp; omega)]

/-- A chunk copied in part keeps the canonical form. -/
theorem copyChunk_wf (n : Nat) (c : Chunk) (m : List (Nat × Slot)) (h : Memory.wf m = true) :
    Memory.wf (copyChunk n c m) = true := memWriteRun_wf _ _ _ h

/-- Reading after a chunk was copied in part: the slots of the copied vectors from the first index on, or what was
there. -/
theorem memRead_copyChunk (n : Nat) (c : Chunk) (m : List (Nat × Slot)) (a : Nat) (h : Memory.wf m = true) :
    memRead (copyChunk n c m) a =
      if slotAddr c.page c.first ≤ a ∧ a < slotAddr c.page c.first + min n c.vecs.length then
        ((c.vecs.take n).map slotOf).getD (a - slotAddr c.page c.first) 0
      else memRead m a := by
  rw [copyChunk, memRead_memWriteRun _ _ _ _ h]
  simp only [List.length_map, List.length_take]

/-- A reset keeps the canonical form of the memory. -/
theorem memAtReset_wf (now : Nat) (st : Store) (h : Memory.wf st.mem = true) :
    Memory.wf (st.memAtReset now) = true := by
  unfold Store.memAtReset; split
  · exact copyChunk_wf _ _ _ h
  · exact h

/-- The memory of the machine after reset has the canonical form. -/
theorem reset_memory_wf : Memory.wf State.reset.store.mem = true := rfl

end Sys2Proof.Machine
end

