-- ==== Sys2Proof/Laws/Ops.lean ====
section
/-! SUPPORT. What the shared operations can do, said once: loops over sockets and zones, the lanes, the port, the buffers at
the end of a pass, time, and the link port's taking of a frame. -/

namespace Sys2Proof.Machine

/-! ## Loops -/

@[simp] theorem forEach_nil {α : Type} (f : α → State → State) (s : State) : forEach [] f s = s := rfl

@[simp] theorem forEach_cons {α : Type} (a : α) (l : List α) (f : α → State → State) (s : State) :
    forEach (a :: l) f s = forEach l f (f a s) := rfl

theorem forEach_append {α : Type} (l m : List α) (f : α → State → State) (s : State) :
    forEach (l ++ m) f s = forEach m f (forEach l f s) := List.foldl_append

/-- What each turn of a loop keeps, the loop keeps. -/
theorem forEach_keeps {α : Type} {P : State → Prop} {l : List α} {f : α → State → State}
    (hf : ∀ a ∈ l, ∀ s, P s → P (f a s)) : ∀ s, P s → P (forEach l f s) := by
  induction l with
  | nil => intro s h; exact h
  | cons a l ih =>
    intro s h
    exact ih (fun b hb => hf b (List.mem_cons_of_mem a hb)) _ (hf a List.mem_cons_self s h)

/-- A function of the state that each turn of a loop leaves, the loop leaves. -/
theorem forEach_same {α β : Type} {g : State → β} {l : List α} {f : α → State → State}
    (hf : ∀ a ∈ l, ∀ s, g (f a s) = g s) (s : State) : g (forEach l f s) = g s :=
  forEach_keeps (P := fun t => g t = g s) (fun a ha t ht => (hf a ha t).trans ht) s rfl

/-- A loop that changes one socket each, over sockets that are all different. -/
theorem forEach_modSock (f : SocketId → Socket → Socket) : ∀ (l : List SocketId) (s : State), l.Nodup → ∀ j,
    (forEach l (fun i => modSock i (f i)) s).sock j = if j ∈ l then f j (s.sock j) else s.sock j := by
  intro l
  induction l with
  | nil => intro s _ j; simp
  | cons a l ih =>
    intro s hl j
    rw [forEach_cons, ih _ (List.nodup_cons.mp hl).2, modSock_sock]
    by_cases hja : j = a
    · subst hja; simp [(List.nodup_cons.mp hl).1]
    · simp [hja]

theorem allSockets_nodup : allSockets.Nodup := List.nodup_finRange 32

@[simp] theorem mem_allSockets (i : SocketId) : i ∈ allSockets := List.mem_finRange i

theorem allZones_nodup : allZones.Nodup := List.nodup_finRange 4

@[simp] theorem mem_allZones (z : ZoneId) : z ∈ allZones := List.mem_finRange z

/-- Socket k of zone z is socket 8z + k, and every socket is its place in its zone (00 §0.3). -/
theorem socketOf_zoneOf (i : SocketId) : socketOf (zoneOf i) (placeOf i) = i := by
  apply Fin.ext; simp [socketOf, zoneOf, placeOf]; omega

@[simp] theorem zoneOf_socketOf (z : ZoneId) (k : Fin 8) : zoneOf (socketOf z k) = z := by
  apply Fin.ext; simp [socketOf, zoneOf]; omega

theorem mem_zoneSockets (z : ZoneId) (i : SocketId) : i ∈ zoneSockets z ↔ zoneOf i = z := by
  simp only [zoneSockets, List.mem_map, List.mem_finRange, true_and]
  constructor
  · rintro ⟨k, rfl⟩; exact zoneOf_socketOf z k
  · rintro rfl; exact ⟨placeOf i, socketOf_zoneOf i⟩

theorem zoneSockets_nodup (z : ZoneId) : (zoneSockets z).Nodup := by
  refine (List.nodup_finRange 8).map ?_
  intro a b h
  have := congrArg Fin.val h
  apply Fin.ext; simp [socketOf] at this; omega

/-! ## The lanes (R181) -/

theorem pushUrgent_cases (n : Notice) (s : State) :
    (s.notices.urgent.length < 16 ∧
      pushUrgent n s = { s with notices := { s.notices with urgent := s.notices.urgent ++ [n] } }) ∨
    (16 ≤ s.notices.urgent.length ∧ pushUrgent n s = { s with notices := { s.notices with urgentOver := true } }) := by
  unfold pushUrgent modNotices
  by_cases h : s.notices.urgent.length < 16
  · exact .inl ⟨h, by simp [h]⟩
  · exact .inr ⟨by omega, by simp [h]⟩

theorem pushRoutine_cases (n : Notice) (s : State) :
    (s.notices.routine.length < 32 ∧
      pushRoutine n s = { s with notices := { s.notices with routine := s.notices.routine ++ [n] } }) ∨
    (32 ≤ s.notices.routine.length ∧ pushRoutine n s = { s with notices := { s.notices with routineOver := true } }) := by
  unfold pushRoutine modNotices
  by_cases h : s.notices.routine.length < 32
  · exact .inl ⟨h, by simp [h]⟩
  · exact .inr ⟨by omega, by simp [h]⟩

/-! ## The over-budget test (R75, R76) -/

theorem budgetTest_cases (z : ZoneId) (s : State) :
    ((s.zone z).armed = true ∧ (s.zone z).budget < s.dutSum z ∧
      budgetTest z s = modZone z (fun k => { k with armed := false })
        (sendRoutine (.zone z) (.budgetOver (s.dutSum z) (s.zone z).budget) s)) ∨
    ((s.zone z).armed = false ∧ s.dutSum z ≤ rearmLevel (s.zone z).budget ∧
      budgetTest z s = modZone z (fun k => { k with armed := true }) s) ∨
    budgetTest z s = s := by
  unfold budgetTest
  by_cases ha : (s.zone z).armed = true
  · by_cases hd : (s.zone z).budget < s.dutSum z
    · exact .inl ⟨ha, hd, by simp [ha, hd]⟩
    · exact .inr (.inr (by simp [ha, hd]))
  · by_cases hd : s.dutSum z ≤ rearmLevel (s.zone z).budget
    · exact .inr (.inl ⟨by simpa using ha, hd, by simp [ha, hd]⟩)
    · exact .inr (.inr (by simp [ha, hd]))

/-! ## The port (R95, R96) -/

/-- A grant decision changes the pattern store's port fields and nothing else. -/
theorem arbitrate_frame (s : State) : ∃ p e w a b,
    arbitrate s = { s with store := { s.store with port := p, portEnd := e, waitCount := w, ptr1 := a, ptr3 := b } } := by
  unfold arbitrate
  repeat' split
  all_goals exact ⟨_, _, _, _, _, rfl⟩

@[simp] theorem arbitrate_run (s : State) : (arbitrate s).run = s.run := by
  obtain ⟨p, e, w, a, b, h⟩ := arbitrate_frame s; rw [h]

@[simp] theorem arbitrate_sockets (s : State) : (arbitrate s).sockets = s.sockets := by
  obtain ⟨p, e, w, a, b, h⟩ := arbitrate_frame s; rw [h]

@[simp] theorem arbitrate_zones (s : State) : (arbitrate s).zones = s.zones := by
  obtain ⟨p, e, w, a, b, h⟩ := arbitrate_frame s; rw [h]

@[simp] theorem arbitrate_link (s : State) : (arbitrate s).link = s.link := by
  obtain ⟨p, e, w, a, b, h⟩ := arbitrate_frame s; rw [h]

@[simp] theorem arbitrate_notices (s : State) : (arbitrate s).notices = s.notices := by
  obtain ⟨p, e, w, a, b, h⟩ := arbitrate_frame s; rw [h]

@[simp] theorem arbitrate_straps (s : State) : (arbitrate s).straps = s.straps := by
  obtain ⟨p, e, w, a, b, h⟩ := arbitrate_frame s; rw [h]

@[simp] theorem arbitrate_now (s : State) : (arbitrate s).now = s.now := by
  obtain ⟨p, e, w, a, b, h⟩ := arbitrate_frame s; rw [h]

@[simp] theorem arbitrate_freeDraws (s : State) : (arbitrate s).freeDraws = s.freeDraws := by
  obtain ⟨p, e, w, a, b, h⟩ := arbitrate_frame s; rw [h]

@[simp] theorem arbitrate_pending (s : State) : (arbitrate s).pending = s.pending := by
  obtain ⟨p, e, w, a, b, h⟩ := arbitrate_frame s; rw [h]

@[simp] theorem arbitrate_mem (s : State) : (arbitrate s).store.mem = s.store.mem := by
  obtain ⟨p, e, w, a, b, h⟩ := arbitrate_frame s; rw [h]

@[simp] theorem arbitrate_pages (s : State) : (arbitrate s).store.pages = s.store.pages := by
  obtain ⟨p, e, w, a, b, h⟩ := arbitrate_frame s; rw [h]

@[simp] theorem arbitrate_programs (s : State) : (arbitrate s).store.programs = s.store.programs := by
  obtain ⟨p, e, w, a, b, h⟩ := arbitrate_frame s; rw [h]

@[simp] theorem arbitrate_staging (s : State) : (arbitrate s).store.staging = s.store.staging := by
  obtain ⟨p, e, w, a, b, h⟩ := arbitrate_frame s; rw [h]

/-! ## The buffers at the end of a pass (R113) -/

/-- The end of a pass leaves the sequencer as it is but for its buffers (R113). -/
theorem Seq.keepFirst_frame (t : Option PageTag) (q : Seq) :
    q.keepFirst t = { q with bufA := (q.keepFirst t).bufA, bufB := (q.keepFirst t).bufB } := by
  unfold Seq.keepFirst Seq.setBuf
  split
  · rfl
  · split
    · cases q.play.buf <;> rfl
    · rfl

/-- A buffer that the end of a pass leaves marked is as it was, holds or is receiving position 0, and so does the
buffer not just played (R113, log entry 35). -/
theorem Seq.keepFirst_kept (t : Option PageTag) (q : Seq) (b : BufId) (h : (q.keepFirst t).buf b ≠ .empty) :
    (q.keepFirst t).buf b = q.buf b ∧ (q.buf b).tag? = t ∧ (q.buf q.play.buf.other).tag? = t := by
  unfold Seq.keepFirst at h ⊢
  split at h
  · cases b <;> exact absurd rfl h
  · rename_i ho
    rw [if_neg ho]
    have ho := not_not.mp ho
    split at h
    · rename_i hp
      rw [if_pos hp]
      revert h ho
      cases hb : q.play.buf <;> cases b <;> simp_all [Seq.buf, Seq.setBuf, BufId.other]
    · rename_i hp
      rw [if_neg hp]
      have hp := not_not.mp hp
      revert ho hp
      cases hb : q.play.buf <;> cases b <;> simp_all [Seq.buf, BufId.other]

/-! ## Taking a frame (R171 to R176) -/

open Sys2Proof.Safety in
/-- Every row whose frame is of kind BOARD-RESET is among those that may reset the board (log entry 27). -/
theorem mayReset_of_boardReset {c : Instr} {f : Frame} (h : requestOf c = some (0x04, f)) : mayReset c = true := by
  cases c <;> simp_all [requestOf, mayReset]

open Sys2Proof.Safety in
/-- An addressed request: its owner takes it, and its reply is built. -/
theorem takeFrame_addressed {kind : Byte} {f : Frame} {s : State} (op : Op) (h : Addressed kind f s) :
    takeFrame kind op f s =
      buildReply kind f.tag (op f.payload (modLink (fun l => l.dropPending.hunt) s)).2
        (op f.payload (modLink (fun l => l.dropPending.hunt) s)).1 := by
  obtain ⟨⟨h1, h2, h3, h4⟩, h5, h6⟩ := h
  have hslot : (modLink (fun l => l.dropPending.hunt) s).link.slot = s.link.slot := by
    simp only [modLink_link, Link.hunt, Link.dropPending]; split <;> rfl
  have hz : (s.link.slot.zeroExtend 8) ≠ (0 : Byte) := by
    intro hc; apply h6; revert hc; generalize s.link.slot = x; revert x; decide
  simp only [takeFrame, Link.isOpen, h1, Bool.not_false, Bool.true_and]
  simp only [bne_iff_ne, ne_eq, h2, not_false_eq_true, if_true, show ¬(250 < f.payload.length) by omega, if_false]
  simp only [judged, judgeFrame, hslot, h4, h5, hz, ne_eq, not_true_eq_false, if_false, if_true]

end Sys2Proof.Machine
end

