-- ==== Sys2Proof/Laws/PerInstr.lean ====
section
/-! SUPPORT. A statement made per command: a well-formed command's frame has a length byte that tells its payload, so that
the characters of the frame spell it whole (10 §10.2). -/

namespace Sys2Proof.Laws.Frames

open Sys2Proof.Machine Sys2Proof.Safety

/-- The length byte of the frame that the command carries tells the payload's length. -/
def Statement (i : Instr) : Prop :=
  ∀ k f, i.wf = true → requestOf i = some (k, f) → (BitVec.ofNat 8 f.payload.length).toNat = f.payload.length

/-- A frame whose payload is within 250 bytes has a length byte that tells it. -/
theorem lengthByte {f : Frame} (h : f.wf = true) : (BitVec.ofNat 8 f.payload.length).toNat = f.payload.length := by
  have h' : f.payload.length ≤ 250 := by simpa [Frame.wf] using h
  simp only [BitVec.toNat_ofNat]
  omega

/-- A command that carries a well-formed frame. -/
theorem ofFrame {i : Instr} {k : Byte} {f : Frame} (hr : requestOf i = some (k, f)) (hf : i.wf = true → f.wf = true) :
    Statement i := by
  intro k' f' hw h
  rw [hr] at h
  cases h
  exact lengthByte (hf hw)

/-- A command that carries no frame. -/
theorem ofNone {i : Instr} (hr : requestOf i = none) : Statement i := by
  intro k f _ h
  rw [hr] at h
  cases h

theorem powerOn (slot : BitVec 5) (rate : BitVec 2) : Statement (.powerOn slot rate) := ofNone rfl

theorem resetn : Statement .resetn := ofNone rfl

theorem resetnRelease (slot : BitVec 5) (rate : BitVec 2) : Statement (.resetnRelease slot rate) := ofNone rfl

theorem ident (f : Frame) : Statement (.ident f) := ofFrame rfl id

theorem collect (f : Frame) : Statement (.collect f) := ofFrame rfl id

theorem boardSetup (f : Frame) : Statement (.boardSetup f) := ofFrame rfl id

theorem boardResetRun (f : Frame) : Statement (.boardResetRun f) := ofFrame rfl fun h => ((Bool.and_eq_true _ _).mp h).1

theorem boardResetFull (f : Frame) (slot : BitVec 5) (rate : BitVec 2) : Statement (.boardResetFull f slot rate) := ofFrame rfl fun h => ((Bool.and_eq_true _ _).mp h).1

theorem runDefine (f : Frame) : Statement (.runDefine f) := ofFrame rfl id

theorem runStart (f : Frame) : Statement (.runStart f) := ofFrame rfl id

theorem runPause (f : Frame) : Statement (.runPause f) := ofFrame rfl id

theorem runResume (f : Frame) : Statement (.runResume f) := ofFrame rfl id

theorem runAbort (f : Frame) : Statement (.runAbort f) := ofFrame rfl id

theorem runClear (f : Frame) : Statement (.runClear f) := ofFrame rfl id

theorem runReport (f : Frame) : Statement (.runReport f) := ofFrame rfl id

theorem zoneRail (f : Frame) : Statement (.zoneRail f) := ofFrame rfl id

theorem zoneThermal (f : Frame) : Statement (.zoneThermal f) := ofFrame rfl id

theorem socketThermal (f : Frame) : Statement (.socketThermal f) := ofFrame rfl id

theorem setpoint (f : Frame) : Statement (.setpoint f) := ofFrame rfl id

theorem zoneBudget (f : Frame) : Statement (.zoneBudget f) := ofFrame rfl id

theorem zoneProgram (f : Frame) : Statement (.zoneProgram f) := ofFrame rfl id

theorem zoneReport (f : Frame) : Statement (.zoneReport f) := ofFrame rfl id

theorem pageOpen (f : Frame) : Statement (.pageOpen f) := ofFrame rfl id

theorem pageData (f : Frame) : Statement (.pageData f) := ofFrame rfl id

theorem pageClose (f : Frame) : Statement (.pageClose f) := ofFrame rfl id

theorem pageFree (f : Frame) : Statement (.pageFree f) := ofFrame rfl id

theorem pageList (f : Frame) : Statement (.pageList f) := ofFrame rfl id

theorem programDefine (f : Frame) : Statement (.programDefine f) := ofFrame rfl id

theorem programDelete (f : Frame) : Statement (.programDelete f) := ofFrame rfl id

theorem programList (f : Frame) : Statement (.programList f) := ofFrame rfl id

theorem socketRetire (f : Frame) : Statement (.socketRetire f) := ofFrame rfl id

theorem socketReport (f : Frame) : Statement (.socketReport f) := ofFrame rfl id

theorem failLog (f : Frame) : Statement (.failLog f) := ofFrame rfl id

theorem unknownKind (kind : Byte) (f : Frame) : Statement (.unknownKind kind f) := ofFrame rfl fun h => ((Bool.and_eq_true _ _).mp h).1

theorem frameDiscard (kind : Byte) (f : Frame) : Statement (.frameDiscard kind f) := ofFrame rfl id

theorem frameAbandon : Statement .frameAbandon := ofNone rfl

theorem frameGapExpiry : Statement .frameGapExpiry := ofNone rfl

theorem replyBegin : Statement .replyBegin := ofNone rfl

theorem replyEnd : Statement .replyEnd := ofNone rfl

theorem replyAbandon : Statement .replyAbandon := ofNone rfl

theorem ovenPermitEdge : Statement .ovenPermitEdge := ofNone rfl

theorem permitTimerExpiry : Statement .permitTimerExpiry := ofNone rfl

theorem railSample (i : SocketId) (mA : Nat) (mV : Nat) : Statement (.railSample i mA mV) := ofNone rfl

theorem phase1TimerExpiry (i : SocketId) : Statement (.phase1TimerExpiry i) := ofNone rfl

theorem rampTimeout (i : SocketId) : Statement (.rampTimeout i) := ofNone rfl

theorem stableTimerExpiry (i : SocketId) : Statement (.stableTimerExpiry i) := ofNone rfl

theorem offTimeExpiry (i : SocketId) : Statement (.offTimeExpiry i) := ofNone rfl

theorem sensorRequest (i : SocketId) : Statement (.sensorRequest i) := ofNone rfl

theorem sensorAnswer (i : SocketId) (reading : Int) : Statement (.sensorAnswer i reading) := ofNone rfl

theorem sensorTimeout (i : SocketId) : Statement (.sensorTimeout i) := ofNone rfl

theorem stagingWriteDone : Statement .stagingWriteDone := ofNone rfl

theorem fetchBurstDone (wrong : List (Nat × Slot)) : Statement (.fetchBurstDone wrong) := ofNone rfl

theorem vectorPeriodEnd (z : ZoneId) (resp : Vector Byte 8) : Statement (.vectorPeriodEnd z resp) := ofNone rfl

theorem gapTimerExpiry (z : ZoneId) : Statement (.gapTimerExpiry z) := ofNone rfl

theorem heartbeatEdge (i : SocketId) (atMs : Nat) : Statement (.heartbeatEdge i atMs) := ofNone rfl

theorem resetHeldExpiry (i : SocketId) : Statement (.resetHeldExpiry i) := ofNone rfl

theorem ignoreExpiry (i : SocketId) : Statement (.ignoreExpiry i) := ofNone rfl

theorem heartbeatLate (i : SocketId) : Statement (.heartbeatLate i) := ofNone rfl

theorem accountingTimerExpiry : Statement .accountingTimerExpiry := ofNone rfl

theorem lineCharacter (ch : Byte) (framingError : Bool) : Statement (.lineCharacter ch framingError) := ofNone rfl

end Sys2Proof.Laws.Frames
end

