-- ==== Sys2Proof/Tests/Slice0.lean ====
section
/-! SUPPORT. The model's own tests: ill-formed commands are refused, the worked cases of the manual come out, and for every
statement of the obligations a concrete state and operands meet its hypotheses, clause by clause. -/

namespace Sys2Proof.Tests

-- One theorem at a time: each waits for the kernel, and waiting threads hold their stacks.
set_option Elab.async false

open Sys2Proof.Machine Sys2Proof.Safety

/-! ## Helpers -/

/-- An addressed frame to slot 1, its CRC right. -/
def frame (kind : Byte) (p : List Byte) : Frame :=
  { addr := 1, tag := 7, payload := p, crc := crcOf (frameCovered kind ⟨1, 7, p, 0⟩) }

/-- A broadcast frame, its CRC right. -/
def toAll (kind : Byte) (p : List Byte) : Frame :=
  { addr := 0, tag := 7, payload := p, crc := crcOf (frameCovered kind ⟨0, 7, p, 0⟩) }

/-- An addressed frame is one to a board that listens at slot 1. -/
theorem addressed (kind : Byte) (p : List Byte) (s : State) (h : s.link = Link.ofStraps 1 0) (hp : p.length ≤ 250) :
    Addressed kind (frame kind p) s := by
  refine ⟨⟨by rw [h]; rfl, by rw [h]; decide, hp, by simp only [frame, frameCovered]⟩, by rw [h]; rfl, by rw [h]; decide⟩

/-- A broadcast frame comes clean to a board that listens. -/
theorem clean (kind : Byte) (p : List Byte) (s : State) (h : s.link = Link.ofStraps 1 0) (hp : p.length ≤ 250) :
    Clean kind (toAll kind p) s := by
  exact ⟨by rw [h]; rfl, by rw [h]; decide, hp, by simp only [toAll, frameCovered]⟩

/-- The rail profile of the worked run-start of 02 §2.11: 12 V, a limited first phase, an off-time of 50 ms. -/
def railP : RailProfile :=
  { vbus := 1200, vok := 60, i1 := 800, t1 := 4, i2 := 5000, rampMs := 40, iFast := 9000, iAvg := 6000, win := 8,
    offCode := 5, retryLimit := 2, stableS := 300 }

/-- A thermal profile: setpoint 125.0 °C, trip limit 140.0 °C. -/
def thermP : ThermalProfile :=
  { setpoint := 1250, rampRate := 50, inner := 20, outer := 50, limit := 1400, kp := 40, ki := 8, kff := 25,
    base := 400 }

/-- A one-page program with a heartbeat part. -/
def prog : Program :=
  { pages := [2], lastCount := 2, loopRep := 2, divN := 12, fracF := 8, gap := 1, idleWord := 0xAAAA, mode := .strobe,
    sig := none, hb := some ⟨200, 100, 20, 500, 1⟩ }

/-- A run record that declares socket 0 and program slot 0. -/
def record : RunRecord :=
  { label := [0x41], declared := 1, target := 60, progs := #v[.slot 0, .noProgram, .noProgram, .noProgram],
    disp := ⟨none, none, none, none, none, none, none, none⟩, retireLimit := 3, powerAtTemp := false }

/-- A configured board: zone 0 has its profiles, page 2 is SEALED and slot 0 holds the program. -/
def configured : State :=
  modStore (fun st => { st with programs := st.programs.set 0 (some prog) })
    (modPage 2 (fun e => { e with state := .sealed, cursor := 2, count := some 2, refs := 1 })
      (modZone 0 (fun k => { k with railProf := some railP, thermProf := some thermP }) State.reset))

/-- The board in READY with a valid permit. -/
def ready : State :=
  modSock 0 (fun k => { k with life := .waiting })
    (modRun (fun r => { r with state := .ready, record := some record, permitValid := true })
      (modSeq 0 (fun q => { q with assigned := some (.slot 0) }) configured))

/-- The board in ACTIVE with socket 0 under stress, in control, its sensor asked. -/
def active : State :=
  modSock 0 (fun k => { k with
      life := .stressing
      rail := { k.rail with inhibit := ⟨false, false, false, false, false, false⟩ }
      therm := { k.therm with state := .approach, teff := 1200, reading := some 1200, goodSince := true, answerTimer := some 9 } })
    (modRun (fun r => { r with state := .active, acctTimer := some 50000000 }) ready)

/-- The board in ACTIVE with the rail of socket 0 in a state, with all its timers running. -/
def withRail (st : RailState) : State :=
  modRail 0 (fun r => { r with
    state := st, window := [100], offTimer := some 5, stableTimer := some 5, phase1Timer := some 5,
    rampTimer := some 5 }) active

/-- The board in ACTIVE with the rails of sockets 0 and 1 in RAMP-2 and that of socket 2 waiting for a slot, each with the
timers of its state. -/
def crowded : State :=
  let up := fun (st : RailState) (k : Socket) => { k with
    life := .stressing
    rail := { k.rail with
      state := st, inhibit := ⟨false, false, false, false, false, false⟩
      rampTimer := if st.ramping then some 5 else none } }
  modZone 0 (fun k => { k with rampQueue := [2] })
    (modSock 0 (up .ramp2) (modSock 1 (up .ramp2) (modSock 2 (up .queued)
      (modRun (fun r => { r with record := some { record with declared := 7 } }) active))))

/-- The board in ACTIVE with socket 0 ON, its heartbeat in a state with a last edge and a timer. -/
def withBeat (st : HbState) : State :=
  modLive 0 (fun l => { l with state := st, lastEdge := some 100, timer := some 300 }) (withRail .on)

/-- The tag of position 0 of slot 0. -/
def tag0 : PageTag := ⟨0, 0, 2, 2⟩

/-- A vector with its flags STROBE and LOOP-BACK as given. -/
def vec (strobe back : Bool) : Vec :=
  { drive := 0x1234, expect := 0x55, mask := 0x0F, strobe := strobe, loopMark := false, loopBack := back, last := false }

/-- A vector that carries LOOP-MARK. -/
def markVec : Vec := { vec true false with loopMark := true }

/-- Zone 0 plays vector `idx` of a buffer full of `vs` with position 0 of slot 0. -/
def playing (vs : List Vec) (idx : Nat) : State :=
  modChk 0 (fun c => { c with opened := true, mode := some .strobe })
    (modSeq 0 (fun q => { q with state := .playing, bufA := .full tag0 vs, play := ⟨.A, idx, 0⟩ }) (withRail .on))

/-- The tag of position 0 of slot 0 with a last-page vector count of `n`. -/
def tagOf (n : Nat) : PageTag := { tag0 with count := n }

/-- Slot 0 holds a program other than `prog`. -/
def withProg (d : Program) (s : State) : State :=
  modStore (fun t => { t with programs := t.programs.set 0 (some d) }) s

/-- Zone 0 fetches `n` vectors of page 2 in a sequencer state, and burst `b` of the fetch is at the port. -/
def fetching (st : SeqState) (n b : Nat) : State :=
  modStore (fun t => { t with port := some (.burst 0) })
    (modSeq 0 (fun q => { q with
      state := st, bufA := .filling (tagOf n), next := some (tagOf n), fetch := some ⟨tagOf n, .A, b, []⟩ })
      (withProg { prog with lastCount := n } active))

/-- The state after a command that completes. -/
def after (c : Instr) (s : State) : State :=
  match exec c s with
  | .next t => t
  | _ => s

/-! ## Well-formedness: each check refuses an ill-formed command -/

theorem test_wf_long_payload_refused : (Instr.ident ⟨1, 0, List.replicate 251 0, 0⟩).wf = false := by decide +kernel

theorem test_wf_longest_payload : (Instr.ident ⟨1, 0, List.replicate 250 0, 0⟩).wf = true := by decide +kernel

theorem test_wf_scope_full_is_not_run : (Instr.boardResetRun ⟨1, 0, [1], 0⟩).wf = false := by decide

theorem test_wf_scope_run_is_not_full : (Instr.boardResetFull ⟨1, 0, [0], 0⟩ 1 0).wf = false := by decide

theorem test_wf_known_kind_is_not_unknown : (Instr.unknownKind 0x42 ⟨1, 0, [], 0⟩).wf = false := by decide

theorem test_wf_burst_error_named_twice : (Instr.fetchBurstDone [(3, 1), (3, 2)]).wf = false := by decide

/-! ## Worked cases of the manual -/

/-- The check values of R124. -/
theorem test_crc_check_values : crcOf [0x00] = 0xE1F0 ∧ crcOf [0x00, 0x00] = 0x1D0F ∧
    crcOf [0x31, 0x32, 0x33, 0x34, 0x35, 0x36, 0x37, 0x38, 0x39] = 0x29B1 := by decide +kernel

/-- 06 §6.2.1: with N 12 and F 8 the odd periods are long. -/
theorem test_periods_12_8 :
    (List.range 16).map (periodCycles 12 8) = [12, 13, 12, 13, 12, 13, 12, 13, 12, 13, 12, 13, 12, 13, 12, 13] := by
  decide

/-- 06 §6.2.1: with F 3 the long periods are 5, 10 and 15. -/
theorem test_periods_f3 : (List.range 16).filter (fun k => periodCycles 4 3 k = 5) = [5, 10, 15] := by decide

/-- R60: Kp 200 with an error clamped at −500, and Kp 7 with an error of −3. -/
theorem test_proportional_term : stepProp 200 (-500) = -10000 ∧ stepProp 7 (-3) = -2 := by decide

/-- R72: headroom 250 under ratings 250 and 400, and no headroom. -/
theorem test_duty_cap : dutyCap 250 250 = 1000 ∧ dutyCap 250 400 = 625 ∧ dutyCap 0 400 = 0 := by decide

/-- R63: a cap of 0 with a positive raw duty, and a negative raw duty. -/
theorem test_saturation : stepDuty 30 0 = 0 ∧ stepSat 30 0 = .high ∧ stepDuty (-1) 900 = 0 ∧ stepSat (-1) 900 = .low := by
  decide

/-- 03 §3.7.1 and §3.7.2: the step inside the budget, and the same step against a spent budget. -/
theorem test_heater_step :
    let t : Thermal := { Thermal.init with state := .inband, teff := 1250, integral := 5200 }
    (t.heat thermP 1232 142 270).duty = 442 ∧ (t.heat thermP 1232 142 270).integral = 5214 ∧
    (t.heat thermP 1232 142 270).grant = 132 ∧ (t.heat thermP 1232 142 (-1120)).duty = 0 ∧
    (t.heat thermP 1232 142 (-1120)).sat = .high ∧
    ((t.heat thermP 1232 142 (-1120)).heat thermP 1228 142 (-1120)).integral = 5214 := by decide

/-- R76: the re-arm levels of budgets 2400 and 517. -/
theorem test_rearm_level : rearmLevel 2400 = 2280 ∧ rearmLevel 517 = 491 := by decide

/-- R79: the parity of a stored vector is even, and one inverted bit breaks it. -/
theorem test_parity : parityBad (slotOf (vec true false)) = false ∧ parityBad (slotOf (vec true false) ^^^ 1) = true ∧
    vecOf (slotOf (vec true false)) = vec true false := by decide +kernel

/-- R85: a loop, a second LOOP-MARK at its index, and a LOOP-MARK left open. -/
theorem test_flag_scan : firstBadFlag [markVec, vec false true] = none ∧ firstBadFlag [markVec, markVec] = some 1 ∧
    firstBadFlag [vec false false, markVec] = some 1 := by decide

/-- R42: the off-time codes. -/
theorem test_off_times : [0, 1, 2, 3, 63].map offTimeMs = [0, 20, 20, 30, 630] := by decide

/-- R129: a masked-out bit does not mismatch, and the first mismatch of a pass is kept. -/
theorem test_strobe_mismatch :
    strobePass (some .strobe) 4 (vec true false) 0xF5 Pass.init = Pass.init ∧
    strobePass (some .strobe) 5 (vec true false) 0x04 { Pass.init with count := 1, first := some ⟨4, 2⟩ } =
      { Pass.init with count := 2, first := some ⟨4, 2⟩ } := by decide

/-- 08 §8.4: with Tmin 200 an edge 199 ms after the last one is early, and one at 200 ms is valid. -/
theorem test_heartbeat_window :
    (∃ t, exec (.heartbeatEdge 0 299) (withBeat .watch) = .next t ∧ (t.sock 0).live.state = .resetHeld) ∧
    (∃ t, exec (.heartbeatEdge 0 300) (withBeat .watch) = .next t ∧ (t.sock 0).live.state = .watch) := by
  exact ⟨⟨_, rfl, by decide +kernel⟩, ⟨_, rfl, by decide +kernel⟩⟩

/-- The frame of IDENT, character by character, is answered. -/
theorem test_ident_on_the_line :
    (match hear (wire 0x01 (frame 0x01 [])) State.reset with
      | .next t => t.link.reply.map (·.payload)
      | _ => none) = some [0, 0x0D, 0x32, 0x20, 3, 1, 0, 32, 1, 0] := by decide +kernel

/-- A reply of the payload 00 under the CRC 29B1: SYNC, header, payload, and the CRC's high byte first (10 §10.2, R186). -/
theorem test_reply_on_the_line :
    let r : Reply := ⟨0x81, 0x11, 7, [0], 0x29B1⟩
    let s := modLink (fun l => { l with reply := some r, replyState := .sending }) State.reset
    lineSent s = [0xC3, 0x81, 0x11, 7, 1, 0, 0x29, 0xB1] ∧ lineSent State.reset = [] := by decide +kernel

/-- A chunk of two vectors for page 2, whose transfer ends `left` cycles from now. -/
def copying (left : Nat) : State :=
  modStore (fun st => { st with
    port := some .staging, staging := some ⟨2, 0, [vec true false, vec false true]⟩, portEnd := left }) State.reset

/-- R83: a reset one cycle into the transfer of two vectors leaves the first in its slot, and the second is not copied. -/
theorem test_reset_keeps_the_copied_part :
    let t := fullReset (copying 1)
    vecOf (memRead t.store.mem (slotAddr 2 0)) = vec true false ∧
    memRead t.store.mem (slotAddr 2 1) = memRead State.reset.store.mem (slotAddr 2 1) ∧ t.store.staging = none := by
  decide +kernel

/-! ## Witnesses: the hypotheses of each statement are met -/

theorem test_meets_StepTakesTheFront :
    { State.reset with pending := [.resetn] }.pending = .resetn :: [] ∧ State.reset.pending = [] := ⟨rfl, rfl⟩

theorem test_meets_EveryCommandCompletes : ∀ slot rate, Instr.resetn ≠ .powerOn slot rate := by simp

/-- COLLECT without its byte is a refused request: the four clauses of the statement, at the ends of their ranges. -/
theorem test_meets_RefusedRequestsChangeNothing :
    (∃ t r, Addressed 0x02 (frame 0x02 []) State.reset ∧ exec (.collect (frame 0x02 [])) State.reset = .next t ∧
      t.link.reply = some r ∧ r.payload.head? = some Status.badLength.code ∧ Status.badLength.code ≠ Status.ok.code ∧
      Status.badLength.code ≠ Status.clamped.code ∧ Status.badLength.code ≠ Status.permitAbsent.code) ∧
    (∀ r ∈ ([(0x01, [0]), (0x40, [32]), (0x24, [4, 0, 0])] : List (Byte × List Byte)),
      Addressed r.1 (frame r.1 r.2) State.reset) ∧
    ((frame 0x01 [0]).payload.length ≠ 0 ∧ 31 < u8At (frame 0x40 [32]).payload 0 ∧
      3 < u8At (frame 0x24 [4, 0, 0]).payload 0) ∧
    (Addressed 0x11 (frame 0x11 []) active ∧ active.run.state ∉ [RunState.ready]) ∧
    (Clean 0x13 (toAll 0x13 []) active ∧ (toAll 0x13 []).addr = 0 ∧ active.run.state ∉ [RunState.held]) := by
  refine ⟨⟨takeFrame 2 opCollect (frame 0x02 []) State.reset, replyTo 1 2 7 ⟨.badLength, []⟩,
    addressed _ _ _ rfl (by decide), rfl, ?_, rfl, by decide, by decide, by decide⟩,
    fun r h => addressed _ _ _ rfl (by revert r; decide), by decide,
    ⟨addressed _ _ _ rfl (by decide), by decide +kernel⟩,
    ⟨clean _ _ _ rfl (by decide), rfl, by decide +kernel⟩⟩
  decide +kernel

theorem test_meets_CharactersMakeTheFrame :
    (∀ g slot rate, Instr.ident (frame 0x01 []) ≠ .boardResetFull g slot rate) ∧
    State.reset.link.inReset = false ∧ State.reset.link.replyState ≠ .sending ∧ State.reset.link.rx = .hunt ∧
    State.reset.link.rxBuf = [] ∧ (frame 0x01 []).payload.length ≤ 250 := by
  refine ⟨by simp, rfl, by decide +kernel, rfl, rfl, by decide⟩

theorem test_meets_ResetnAndItsRelease :
    ((∃ t, exec .resetn State.reset = .next t ∧ t.link.inReset = true) ∧ State.reset.link.inReset = false) ∧
    (∀ n ∈ [0, 1, 2], (copying n).store.port = some .staging ∧ (copying n).store.staging.isSome = true ∧
      (copying n).now + 2 - (copying n).store.portEnd = 2 - n) ∧ MemoryWf (copying 0) :=
  ⟨⟨⟨_, rfl, rfl⟩, rfl⟩, by decide +kernel, rfl⟩

theorem test_meets_BoardResetByScope :
    Taken 0x04 (frame 0x04 [1]) active ∧ Taken 0x04 (toAll 0x04 [0]) active ∧
    (∀ n ∈ [0, 2], Taken 0x04 (frame 0x04 [1]) (copying n) ∧ (copying n).store.staging.isSome = true) :=
  ⟨.inl (addressed _ _ _ rfl (by decide)), .inr ⟨clean _ _ _ rfl (by decide), rfl⟩,
    fun _ _ => ⟨.inl (addressed _ _ _ rfl (by decide)), rfl⟩⟩

/-! The invariants are met by boards that are not State.reset: one powered on with other straps, and ones in a run. -/

/-- A powered board that is not State.reset. -/
def awake : State := { State.poweredOn 5 2 with now := 7 }

/-- A board in ACTIVE whose run has a clock and whose sockets 0 and 3 are STRESSING and RETIRED. -/
def midRun : State :=
  modSock 3 (fun k => { k with life := .retired, rail := { k.rail with inhibit := { k.rail.inhibit with final := true } } })
    (modRun (fun r => { r with clock := 60 }) active)

/-- The board HELD by PERMIT, with socket 0 STRESSING. -/
def permitHeld : State :=
  modSock 0 (fun k => { k with
      rail := { k.rail with inhibit := { k.rail.inhibit with permit := true } }
      therm := { k.therm with state := .held } })
    (modRun (fun r => { r with state := .held, holds := ⟨false, true⟩, permitValid := false }) active)

/-- A rail in each state under its profile, a cause under laws 1 to 3, a socket out of control under law 5, RESET-HELD, a
board in RESETN, a reply on its way out, and the resets. -/
theorem test_meets_OutputPinsFollowTheState :
    (∀ st ∈ [RailState.off, .queued, .ramp1, .ramp2, .on, .rest], ((withRail st).sock 0).rail.state = st ∧
      ((withRail st).zone (zoneOf 0)).railProf = some railP) ∧
    (RailLaws active ∧ (active.sock 31).rail.inhibit.isEmpty = false) ∧
    (Law5 active ∧ (active.sock 31).therm.state.control = false) ∧
    ((withBeat .resetHeld).sock 0).live.state = .resetHeld ∧
    (let s := modLink (fun l => { l with inReset := true }) awake;
      LinkInv s ∧ s.link.inReset = true ∧ s.link.replyState ≠ .sending) ∧
    (let s := modLink (fun l => { l with reply := some ⟨0x81, 1, 7, [0], 0⟩, replyState := .sending }) awake;
      s.link.reply = some ⟨0x81, 1, 7, [0], 0⟩ ∧ s.link.replyState = .sending) ∧
    Taken 0x04 (toAll 0x04 [0]) active ∧ Taken 0x04 (frame 0x04 [1]) active := by
  have rails : RailLaws active ∧ (active.sock 31).rail.inhibit.isEmpty = false := by
    unfold RailLaws Law1 Law2 Law3 RailDown; decide +kernel
  have control : Law5 active ∧ (active.sock 31).therm.state.control = false := by unfold Law5; decide +kernel
  refine ⟨by decide +kernel, rails, control, by decide +kernel, ?_, ⟨rfl, rfl⟩, ?_, ?_⟩
  · unfold LinkInv; decide +kernel
  · exact Or.inr ⟨clean _ _ _ rfl (by decide), rfl⟩
  · exact Or.inl (addressed _ _ _ rfl (by decide))

/-- Socket 0 has read its zone's trip limit and is TRIPPED. -/
def hot0 : State :=
  modSock 0 (fun k => { k with
      rail := { k.rail with inhibit := { k.rail.inhibit with thermal := true } }
      therm := { k.therm with state := .tripped, reading := some 1400 } }) active

theorem railLaws_midRun : RailLaws midRun := by unfold RailLaws Law1 Law2 Law3 RailDown; decide +kernel

theorem railLaws_ready : RailLaws ready := by unfold RailLaws Law1 Law2 Law3 RailDown; decide +kernel

theorem railLaws_active : RailLaws active := by unfold RailLaws Law1 Law2 Law3 RailDown; decide +kernel

theorem railLaws_ramp2 : RailLaws (withRail .ramp2) := by unfold RailLaws Law1 Law2 Law3 RailDown; decide +kernel

theorem railInv_crowded : RailInv crowded := by
  unfold RailInv RailTimersFit RailLaws Law1 Law2 Law3 RailDown; decide +kernel

theorem railInv_ready : RailInv ready := by
  unfold RailInv RailTimersFit RailLaws Law1 Law2 Law3 RailDown; decide +kernel

theorem test_meets_StepKeepsRailLaws : RailLaws awake ∧ RailLaws (withRail .ramp2) ∧ step awake = .next (idleTick awake) ∧
    RailInv crowded ∧ step crowded = .next (idleTick crowded) := by
  refine ⟨?_, railLaws_ramp2, rfl, railInv_crowded, rfl⟩
  unfold RailLaws Law1 Law2 Law3 RailDown; decide +kernel

theorem test_meets_StepKeepsHeatLaws : Law4 active ∧ Law5 active := by unfold Law4 Law5; decide +kernel

/-- The run record of midRun, whatever is said of the one it holds. -/
theorem midRun_record {P : RunRecord → Prop} (h : P record) : ∀ r, midRun.run.record = some r → P r := by
  intro r hr
  have : record = r := Option.some.inj (show some record = some r from hr)
  exact this ▸ h

theorem test_meets_StepKeepsRunTableAndRetireLimit : RunTable midRun ∧ LimitInv midRun := by
  refine ⟨by unfold RunTable; decide +kernel, ?_, midRun_record (by decide), by decide +kernel⟩
  exact midRun_record (by decide +kernel)

theorem test_meets_StepKeepsCredit : CreditInv midRun := by
  refine ⟨fun i => ⟨?_, midRun_record ?_⟩, midRun_record (by decide +kernel), by decide +kernel, by decide +kernel⟩
  · revert i; decide +kernel
  · revert i; decide +kernel

theorem test_meets_StepKeepsFinalSockets : FinalInv midRun ∧ (midRun.sock 3).life.final = true := by
  refine ⟨⟨railLaws_midRun, ?_, ?_, ?_⟩, by decide +kernel⟩
  · unfold Law5; decide +kernel
  · unfold FreshLives; decide +kernel
  · decide +kernel

theorem test_meets_StepKeepsPermitHold :
    PermitInv permitHeld ∧ permitHeld.run.holds.permit = true ∧ (permitHeld.sock 0).life = .stressing := by
  refine ⟨?_, rfl, by decide +kernel⟩
  unfold PermitInv RailLaws Law1 Law2 Law3 RailDown Law5 RunTable; decide +kernel

theorem test_meets_StepKeepsTripSafety : TripInv hot0 ∧ hot0.hot 0 = true := by
  refine ⟨?_, by decide +kernel⟩
  unfold TripInv RailLaws Law1 Law2 Law3 RailDown Law5 CausesStand; decide +kernel

theorem test_meets_StepKeepsSealedPages :
    StoreInv configured ∧ MemoryWf configured ∧ step configured = .next (idleTick configured) ∧
    (configured.page 2).state = .sealed ∧ ((idleTick configured).page 2).state = .sealed := by
  refine ⟨⟨?_, fun c h => ?_, ?_⟩, rfl, rfl, by decide +kernel, by decide +kernel⟩
  · unfold Law9; decide +kernel
  · cases h
  · decide +kernel

theorem test_meets_StepKeepsPortAndBuffers : PortInv (fetching .priming 65 0) ∧ SeqInv (playing [vec true false] 0) := by
  refine ⟨by unfold PortInv; decide +kernel, fun z => ⟨?_, fun f h => ?_⟩⟩
  · revert z; decide +kernel
  · have : ∀ z, ((playing [vec true false] 0).zone z).seq.fetch = none := by decide +kernel
    rw [this] at h; cases h

/-- The board with a full urgent lane and a frame in progress. -/
def busyLink : State :=
  modNotices (fun q => { q with urgent := List.replicate 16 ⟨.board, 0, .runState .aborted ⟨false, false⟩⟩ })
    (modLink (fun l => { l with rx := .payload, rxBuf := [1, 1, 1, 250] }) awake)

theorem test_meets_StepKeepsLanesAndLink : Law10 busyLink ∧ LinkInv busyLink := by
  unfold Law10 LinkInv; decide +kernel

theorem test_meets_StepKeepsReplies :
    ReplyInv { State.reset with link := answered 0x02 (frame 0x02 []) .badLength [] State.reset.link } := by
  refine ⟨by unfold Law7; decide +kernel, fun r h => ?_, fun k d h => ?_, fun r h => ?_⟩
  · cases h
  · have : ∀ k, State.reset.program k = none := by decide +kernel
    cases (this k).symm.trans h
  · have h := Option.some.inj h
    subst h; decide +kernel

/-! ### Reports and settings -/

theorem test_meets_IdentAnswers : Addressed 0x01 (frame 0x01 []) State.reset := addressed _ _ _ rfl (by decide)

theorem test_meets_ReportsChangeNothing :
    (∀ r ∈ ([(0x16, []), (0x26, [3]), (0x42, [31]), (0x34, [255, 1]), (0x34, [0, 24]), (0x3A, [15]), (0x3A, [0xFF])] :
      List (Byte × List Byte)), Addressed r.1 (frame r.1 r.2) active ∧ (frame r.1 r.2).payload = r.2) ∧
    (3 : Byte) = BitVec.ofNat 8 (3 : ZoneId).val ∧ (31 : Byte) = BitVec.ofNat 8 (31 : SocketId).val ∧
    (255 : Byte) = BitVec.ofNat 8 (255 : PageId).val ∧ (15 : Byte) = BitVec.ofNat 8 (15 : ProgId).val :=
  ⟨fun r h => ⟨addressed _ _ _ rfl (by revert r; decide), rfl⟩, by decide⟩

theorem test_meets_SocketReportAnswers :
    Addressed 0x41 (frame 0x41 [31]) active ∧ (frame 0x41 [31]).payload = [BitVec.ofNat 8 (31 : SocketId).val] ∧
    (active.zone (zoneOf 31)).thermProf = none ∧ (active.zone (zoneOf 0)).thermProf = some thermP :=
  ⟨addressed _ _ _ rfl (by decide), rfl, by decide +kernel, by decide +kernel⟩

theorem test_meets_CollectTakesTheHeads :
    (Addressed 0x02 (frame 0x02 [1]) State.reset ∧ (frame 0x02 [1]).payload = [BitVec.ofNat 8 1]) ∧
    Addressed 0x02 (frame 0x02 [20]) State.reset ∧ (frame 0x02 [20]).payload = [BitVec.ofNat 8 20] :=
  ⟨⟨addressed _ _ _ rfl (by decide), rfl⟩, addressed _ _ _ rfl (by decide), rfl⟩

theorem test_meets_BoardSetupSetsTheTimeout :
    Addressed 0x03 (frame 0x03 [0, 19]) State.reset ∧ (frame 0x03 [0, 19]).payload = [0, 19] ∧
    Addressed 0x03 (frame 0x03 [0, 0]) active ∧ active.run.state = .active :=
  ⟨addressed _ _ _ rfl (by decide), rfl, addressed _ _ _ rfl (by decide), rfl⟩

/-- The payload of a ZONE-RAIL for zone 3 with window byte `w`. -/
def railPayload (w : Byte) : List Byte :=
  [3, 4, 0xB0, 0, 60, 3, 0x20, 4, 0x13, 0x88, 0, 40, 0x23, 0x28, 0x17, 0x70, w, 5, 2, 1, 0x2C]

/-- The payload of a ZONE-THERMAL for zone 3 with setpoint 25.0 °C and trip limit 30.0 °C, the least of each. -/
def thermPayload : List Byte := [3, 0, 250, 50, 20, 50, 1, 0x2C, 40, 8, 25, 1, 0x90]

theorem test_meets_ZoneProfilesStored :
    (∀ w ∈ ([8, 64] : List Byte), Addressed 0x20 (frame 0x20 (railPayload w)) State.reset ∧
      (railPayload w).length = 21 ∧ u8At (railPayload w) 0 = (3 : ZoneId).val ∧ u8At (railPayload w) 16 = w.toNat) ∧
    Addressed 0x21 (frame 0x21 thermPayload) State.reset ∧ thermPayload.length = 13 ∧
    u8At thermPayload 0 = (3 : ZoneId).val ∧ 300 ≤ s16At thermPayload 6 ∧ s16At thermPayload 6 ≤ 2000 ∧
    max 250 (min 1800 (s16At thermPayload 1)) + 50 ≤ s16At thermPayload 6 ∧ State.reset.run.state = .idle := by
  refine ⟨fun w h => ⟨addressed _ _ _ rfl (by simp [railPayload]), rfl, rfl, ?_⟩, addressed _ _ _ rfl (by decide), rfl, rfl,
    by decide, by decide, by decide, rfl⟩
  simp [railPayload, u8At]

/-- SOCKET-THERMAL of socket 31 with a trim of −51 and a rating of 401. -/
theorem test_meets_SetpointReplacesTheSetpoint_trim :
    Addressed 0x22 (frame 0x22 [31, 0xCD, 1, 0x91]) active ∧
    (frame 0x22 [31, 0xCD, 1, 0x91]).payload = [BitVec.ofNat 8 (31 : SocketId).val, 0xCD, 1, 0x91] :=
  ⟨addressed _ _ _ rfl (by decide), rfl⟩

/-- SETPOINT at the highest setpoint under the trip limit, 135.0 °C, and one step above. -/
theorem test_meets_SetpointReplacesTheSetpoint :
    (Addressed 0x23 (frame 0x23 [0, 5, 0x46]) active ∧ (frame 0x23 [0, 5, 0x46]).payload.length = 3 ∧
      (active.zone 0).thermProf = some thermP ∧ max 250 (min 1800 (s16At [0, 5, 0x46] 1)) = thermP.limit - 50) ∧
    Addressed 0x23 (frame 0x23 [0, 5, 0x47]) active ∧
      thermP.limit - 50 < max 250 (min 1800 (s16At [0, 5, 0x47] 1)) :=
  ⟨⟨addressed _ _ _ rfl (by decide), rfl, by decide +kernel, by decide⟩, addressed _ _ _ rfl (by decide), by decide⟩

theorem test_meets_ZoneBudgetStored :
    Addressed 0x24 (frame 0x24 [3, 1, 0xF3]) active ∧
    (frame 0x24 [3, 1, 0xF3]).payload = [BitVec.ofNat 8 (3 : ZoneId).val, 1, 0xF3] :=
  ⟨addressed _ _ _ rfl (by decide), rfl⟩

/-! ### The run -/

/-- A RUN-DEFINE of a lot labelled with one character, declaring socket 0 with program slot 0. -/
def definePayload : List Byte :=
  [1, 0x7E, 0, 0, 0, 1, 0, 0, 0, 59, 0, 0xFE, 0xFE, 0xFE, 0, 1, 2, 3, 0, 2, 3, 3, 0xFF, 1]

theorem test_meets_RunDefineStoresTheRecord :
    let p := definePayload
    let declared := BitVec.ofNat 32 (u32At p 2)
    Addressed 0x10 (frame 0x10 p) configured ∧ p.length = 23 + u8At p 0 ∧ configured.run.state = .idle ∧
    u8At p 0 = 1 ∧ (∀ c ∈ (p.drop 1).take 1, 0x20 ≤ c.toNat ∧ c.toNat ≤ 0x7E) ∧ declared ≠ 0 ∧
    (∀ z : ZoneId, zoneDeclared declared z = true → p.getD (10 + z.val) 0 = 0xFE ∨ (p.getD (10 + z.val) 0).toNat < 16) ∧
    (∀ k < 8, (p.getD (14 + k) 0).toNat ≤ 3 ∧ (4 ≤ k → p.getD (14 + k) 0 ≠ 1)) ∧
    (∀ z : ZoneId, zoneDeclared declared z = true →
      (configured.zone z).railProf.isSome = true ∧ (configured.zone z).thermProf.isSome = true) ∧
    (∀ (z : ZoneId) (k : ProgId), zoneDeclared declared z = true → (p.getD (10 + z.val) 0).toNat = k.val →
      (configured.program k).isSome = true) := by
  refine ⟨addressed _ _ _ rfl (by decide), ?_⟩
  decide +kernel

theorem test_meets_RunStartStartsTheRun :
    (Addressed 0x11 (frame 0x11 []) ready ∧ ready.run.state = .ready ∧ ready.run.record = some record ∧
      ready.run.permitValid = true ∧
      (∀ i, ready.declared i = true → ready.startTripped i = false ∧ (ready.sock i).therm.badRun < 2 ∧ RailDown ready i) ∧
      (∀ z, (ready.zone z).seq.state = .idle ∧ (ready.zone z).seq.bufA = .empty ∧ (ready.zone z).seq.bufB = .empty)) ∧
    (Addressed 0x11 (frame 0x11 []) (modRun (fun r => { r with permitValid := false }) ready)) ∧ RailInv ready := by
  refine ⟨⟨addressed _ _ _ rfl (by decide), rfl, rfl, rfl, ?_, by decide +kernel⟩, addressed _ _ _ rfl (by decide),
    railInv_ready⟩
  unfold RailDown; decide +kernel

/-- The board in READY with socket 0 as R55 judges it: its last reading, whether THERMAL stands, its run of bad readings,
and the disposition of THERMAL-TRIP. -/
def readyWith (x : Int) (stands : Bool) (bad : Nat) (d : Disp) : State :=
  modSock 0 (fun k => { k with
      rail := { k.rail with inhibit := { k.rail.inhibit with thermal := stands } }
      therm := { k.therm with reading := some x, badRun := bad } })
    (modRun (fun r => { r with record := some { record with disp := { record.disp with trip := some d } } }) ready)

/-- THERMAL standing, a reading at the limit under each disposition, a dead sensor at its second bad reading, and a socket
one tenth below the limit with one bad reading. -/
theorem test_meets_RunStartStartsTheRun_places :
    (∀ x ∈ [(1399 : Int), 1400], ∀ b ∈ [false, true], ∀ n ∈ [1, 2], ∀ d ∈ [Disp.count, .retire],
      let s := readyWith x b n d
      s.run.state = .ready ∧ s.run.permitValid = true ∧ s.run.record.isSome = true ∧ s.declared 0 = true ∧
      (∀ z, (s.zone z).seq.state = .idle) ∧ (s.sock 0).therm.reading = some x ∧
      (s.zone (zoneOf 0)).thermProf = some thermP ∧ (s.sock 0).rail.inhibit.thermal = b ∧ (s.sock 0).therm.badRun = n ∧
      s.disposition .thermalTrip = d ∧ nextIsLast s 0 = false) ∧
    thermP.limit = 1400 ∧ [(0 : SocketId)].Pairwise (· < ·) ∧
    (∀ i, i ≠ 0 → (readyWith 1400 false 1 .retire).declared i = false ∧
      ((readyWith 1400 false 1 .retire).sock i).life = .empty) ∧
    Addressed 0x11 (frame 0x11 []) (readyWith 1400 false 2 .count) :=
  ⟨by decide +kernel, rfl, by decide, by decide +kernel, addressed _ _ _ rfl (by decide)⟩

/-- The board HELD by HOST. -/
def hostHeld : State := modRun (fun r => { r with state := .held, holds := ⟨true, false⟩ }) active

theorem test_meets_RunPauseHoldsTheRun :
    (Taken 0x12 (frame 0x12 []) hostHeld ∧ hostHeld.run.state = .held) ∧
    (Taken 0x12 (toAll 0x12 []) ready ∧ ready.run.state ≠ .active ∧ ready.run.state ≠ .held) ∧
    Taken 0x12 (toAll 0x12 []) (playing [vec true false] 0) ∧ (playing [vec true false] 0).run.state = .active :=
  ⟨⟨.inl (addressed _ _ _ rfl (by decide)), rfl⟩, ⟨.inr ⟨clean _ _ _ rfl (by decide), rfl⟩, by decide, by decide⟩,
    .inr ⟨clean _ _ _ rfl (by decide), rfl⟩, rfl⟩

/-- The board HELD by PERMIT, the permit valid again, with sockets 1 and 2 in OFF, free and with the off-time running. -/
def crowdHeld : State :=
  let out := fun (off : Option Nat) (k : Socket) => { k with
    rail := { k.rail with
      state := .off, rampTimer := none, offTimer := off, inhibit := { k.rail.inhibit with permit := true } } }
  modZone 0 (fun k => { k with rampQueue := [] })
    (modSock 0 (out none) (modSock 1 (out none) (modSock 2 (out (some 9))
      (modRun (fun r => { r with state := .held, holds := ⟨false, true⟩ }) crowded))))

/-- After the PERMIT hold the rails of sockets 0 and 1 ramp, and that of socket 2 rests out its off-time (R29, R33). -/
theorem test_resume_ramps_or_rests :
    let t := after (.runResume (frame 0x13 [])) crowdHeld
    [(0 : SocketId), 1, 2].map (fun i => (t.sock i).rail.state) = [.ramp1, .ramp1, .rest] ∧
    (t.sock 2).rail.offTimer = some 9 := by decide +kernel

theorem test_meets_RunResumeResumesTheRun :
    (Taken 0x13 (frame 0x13 []) permitHeld ∧ permitHeld.run.state = .held ∧ permitHeld.run.holds.permit = true ∧
      permitHeld.run.permitValid = false) ∧
    Taken 0x13 (toAll 0x13 []) hostHeld ∧ hostHeld.run.state = .held ∧ hostHeld.run.holds.permit = false ∧
    (∀ z, (hostHeld.zone z).seq.state = .held → (hostHeld.zone z).seq.bufA = .empty ∧ (hostHeld.zone z).seq.bufB = .empty) ∧
    Taken 0x13 (toAll 0x13 []) crowdHeld ∧ crowdHeld.run.state = .held ∧ RailInv crowdHeld := by
  refine ⟨⟨.inl (addressed _ _ _ rfl (by decide)), rfl, rfl, rfl⟩, .inr ⟨clean _ _ _ rfl (by decide), rfl⟩, rfl, rfl,
    by decide +kernel, .inr ⟨clean _ _ _ rfl (by decide), rfl⟩, rfl, ?_⟩
  unfold RailInv RailTimersFit RailLaws Law1 Law2 Law3 RailDown; decide +kernel

theorem test_meets_RunAbortEndsTheRun :
    (Taken 0x14 (frame 0x14 []) ready ∧ RailLaws ready ∧ ready.run.state = .ready) ∧
    Taken 0x14 (toAll 0x14 []) midRun ∧ RailLaws midRun ∧ midRun.run.state = .active :=
  ⟨⟨.inl (addressed _ _ _ rfl (by decide)), railLaws_ready, rfl⟩, .inr ⟨clean _ _ _ rfl (by decide), rfl⟩,
    railLaws_midRun, rfl⟩

theorem test_meets_RunClearClearsTheRun :
    Addressed 0x15 (frame 0x15 []) (modRun (fun r => { r with state := .finished }) midRun) ∧
    (modRun (fun r => { r with state := .finished }) midRun).run.state = .finished :=
  ⟨addressed _ _ _ rfl (by decide), rfl⟩

/-- The board in ACTIVE with zone 0 in a sequencer state. -/
def withSeq (st : SeqState) : State := modSeq 0 (fun q => { q with state := st }) active

theorem test_meets_ZoneProgramAssigns :
    (∀ s ∈ [ready, withSeq .priming, withSeq .done, withSeq .halted, withSeq .static], ∀ e ∈ [ProgSel.noProgram, .slot 0],
      Addressed 0x25 (frame 0x25 [0, e.code]) s ∧ s.run.record = some record ∧ zoneDeclared record.declared 0 = true ∧
      (∀ k, e = .slot k → (s.program k).isSome = true)) ∧
    ready.run.state = .ready ∧ (ready.zone 0).seq.state ≠ .done ∧
    (∀ st ∈ [SeqState.priming, .playing, .stalled, .gap, .done], ((withSeq st).zone 0).seq.state = st) ∧
    (∀ st ∈ [SeqState.halted, .static], ((withSeq st).zone 0).seq.state = st ∧
      ((withSeq st).zone 0).seq.bufA = .empty ∧ ((withSeq st).zone 0).seq.bufB = .empty) ∧
    ((modSeq 0 (fun q => { q with state := .held }) hostHeld).zone 0).seq.state = .held ∧ hostHeld.run.state = .held := by
  have h : ∀ s ∈ [ready, withSeq .priming, withSeq .done, withSeq .halted, withSeq .static],
      s.link = Link.ofStraps 1 0 ∧ s.run.record = some record ∧ s.program 0 = some prog := by decide +kernel
  constructor
  · intro s hs e he
    obtain ⟨hl, hr, hp⟩ := h s hs
    refine ⟨addressed _ _ s hl (by simp), hr, by decide, fun k hk => ?_⟩
    obtain rfl : k = 0 := by simpa [hk] using he
    rw [hp]; rfl
  · exact ⟨rfl, by decide +kernel⟩

theorem test_meets_SocketRetireRetires :
    (Addressed 0x40 (frame 0x40 [0]) ready ∧ ready.run.state ≠ .active ∧ ready.run.state ≠ .held) ∧
    (Addressed 0x40 (frame 0x40 [0]) active ∧ active.run.state = .active ∧ (active.sock 0).life = .stressing ∧
      (∀ j, j ≠ 0 → (active.sock j).life ≠ .waiting ∧ (active.sock j).life ≠ .stressing)) ∧
    ((modSock 31 (fun k => { k with life := .waiting }) active).sock 31).life = .waiting :=
  ⟨⟨addressed _ _ _ rfl (by decide), by decide, by decide⟩,
    ⟨addressed _ _ _ rfl (by decide), rfl, by decide +kernel, by decide +kernel⟩, by decide +kernel⟩

/-- The edge timer runs, and the permit is valid or not. -/
def edged (valid : Bool) (s : State) : State := modRun (fun r => { r with edgeTimer := some 5, permitValid := valid }) s

theorem test_meets_PermitMonitorWatches :
    ((edged false active).run.edgeTimer = some 5 ∧ (edged false active).run.permitValid = false) ∧
    (edged true active).run.edgeTimer = some 5 ∧ (edged true active).run.permitValid = true ∧
    (edged true active).run.state = .active ∧ RailLaws (edged true active) ∧ RailInv (edged true crowded) :=
  ⟨⟨rfl, rfl⟩, rfl, rfl, rfl, railLaws_active, railInv_crowded⟩

/-- The permit's loss opens every rail and starts its off-time, the queued one's too (R30, R42). -/
theorem test_permit_loss_starts_the_off_time :
    let t := after .permitTimerExpiry (edged true crowded)
    [(0 : SocketId), 1, 2].map (fun i => ((t.sock i).rail.state, (t.sock i).rail.offTimer)) =
      List.replicate 3 (.off, some (5 + offTimeMs railP.offCode * 50000)) ∧ (t.zone 0).rampQueue = [] := by decide +kernel

/-! ### The pattern store -/

theorem test_meets_PagesOpenAndFree :
    (Addressed 0x30 (frame 0x30 [255]) active ∧ (frame 0x30 [255]).payload = [BitVec.ofNat 8 (255 : PageId).val]) ∧
    Addressed 0x33 (frame 0x33 [2]) active ∧ (frame 0x33 [2]).payload = [BitVec.ofNat 8 (2 : PageId).val] :=
  ⟨⟨addressed _ _ _ rfl (by decide), rfl⟩, addressed _ _ _ rfl (by decide), rfl⟩

/-- Page 255 is OPEN with its cursor at `n`, and a chunk of another page is staged or not. -/
def opened (n : Nat) (c : Option Chunk) : State :=
  modStore (fun st => { st with staging := c })
    (modPage 255 (fun e => { e with state := .opened, cursor := n }) State.reset)

/-- A PAGE-DATA of records of zeros for page 255. -/
def dataPayload (hi lo : Byte) (n : Nat) : List Byte := [255, hi, lo, BitVec.ofNat 8 n] ++ List.replicate (5 * n) 0

/-- PAGE-DATA off the cursor, past the end of the page, with staging full, and into the last slot of the page. -/
theorem test_meets_PageDataStagesTheChunk :
    (∀ s ∈ [opened 511 none, opened 464 none, opened 511 (some ⟨0, 0, []⟩)], ∀ n ∈ [1, 2, 48],
      Addressed 0x31 (frame 0x31 (dataPayload 1 0xFF n)) s ∧ u8At (dataPayload 1 0xFF n) 0 = (255 : PageId).val ∧
      (dataPayload 1 0xFF n).length = 4 + 5 * u8At (dataPayload 1 0xFF n) 3 ∧
      (∀ k < n, ((dataPayload 1 0xFF n).getD (8 + 5 * k) 0).toNat < 16) ∧ (s.page 255).state = .opened) ∧
    (u16At (dataPayload 1 0xFF 1) 1 = 511 ∧ ((opened 464 none).page 255).cursor = 464) ∧
    ((opened 511 none).page 255).cursor + 2 = 513 ∧ (opened 511 (some ⟨0, 0, []⟩)).store.staging.isSome = true ∧
    ((opened 511 none).page 255).cursor + 1 = 512 ∧ (opened 511 none).store.staging = none ∧
    (opened 511 none).store.port = none ∧ (∀ z, ((opened 511 none).zone z).seq.fetch = none) := by
  have h : ∀ s ∈ [opened 511 none, opened 464 none, opened 511 (some ⟨0, 0, []⟩)],
      s.link = Link.ofStraps 1 0 ∧ (s.page 255).state = .opened := by decide +kernel
  have hn : ∀ n ∈ [1, 2, 48], (dataPayload 1 0xFF n).length ≤ 250 ∧
      u8At (dataPayload 1 0xFF n) 0 = (255 : PageId).val ∧
      (dataPayload 1 0xFF n).length = 4 + 5 * u8At (dataPayload 1 0xFF n) 3 ∧
      ∀ k < n, ((dataPayload 1 0xFF n).getD (8 + 5 * k) 0).toNat < 16 := by decide +kernel
  refine ⟨fun s hs n m => ?_, by decide +kernel⟩
  obtain ⟨hlen, hpage, hcount, hflags⟩ := hn n m
  exact ⟨addressed _ _ _ (h s hs).1 hlen, hpage, hcount, hflags, (h s hs).2⟩

theorem test_meets_PageCloseSeals :
    Addressed 0x32 (frame 0x32 [255, 2, 0, 0xE1, 0xF0]) (opened 512 none) ∧
    (frame 0x32 [255, 2, 0, 0xE1, 0xF0]).payload = [BitVec.ofNat 8 (255 : PageId).val, 2, 0, 0xE1, 0xF0] :=
  ⟨addressed _ _ _ rfl (by decide), rfl⟩

/-- A program for slot 15: page 2 alone, with both optional parts. -/
def programPayload : List Byte :=
  [15, 1, 2, 0, 2, 0, 1, 0, 4, 0, 0, 0, 0x12, 0x34, 2, 3, 0x29, 0xB1, 7, 0, 200, 0, 100, 0, 20, 1, 0xF4, 1]

theorem test_meets_ProgramDefineStores :
    let p := programPayload
    Addressed 0x38 (frame 0x38 p) configured ∧ u8At p 0 = (15 : ProgId).val ∧ u8At p 1 = 1 ∧
    (p.getD 15 0).getLsbD 0 = true ∧ (p.getD 15 0).getLsbD 1 = true ∧ p.length = 15 + 1 + 3 + 9 ∧
    1 ≤ u16At p 3 ∧ u16At p 3 ≤ 512 ∧ (p.getD 14 0).toNat ≤ 2 ∧ configured.inUse 15 = false ∧
    (∀ pg ∈ (((p.drop 2).take 1).map fun b => b.toFin : List PageId), (configured.page pg).state = .sealed) ∧
    (∀ pg ∈ (((p.drop 2).take 1).map fun b => b.toFin : List PageId).getLast?,
      u16At p 3 ≤ (configured.page pg).count.getD 0) := by
  refine ⟨addressed _ _ _ rfl (by decide), ?_⟩
  decide +kernel

theorem test_meets_ProgramDeleteEmptiesTheSlot :
    (Addressed 0x39 (frame 0x39 [16]) ready ∧ 15 < (16 : Byte).toNat) ∧
    (Addressed 0x39 (frame 0x39 [15]) ready ∧ ready.program 15 = none) ∧
    (Addressed 0x39 (frame 0x39 [0]) ready ∧ ready.program 0 = some prog ∧ ready.inUse 0 = true) ∧
    Addressed 0x39 (frame 0x39 [0]) configured ∧ configured.program 0 = some prog ∧ configured.inUse 0 = false :=
  ⟨⟨addressed _ _ _ rfl (by decide), by decide⟩, ⟨addressed _ _ _ rfl (by decide), by decide +kernel⟩,
    ⟨addressed _ _ _ rfl (by decide), by decide +kernel, by decide +kernel⟩, addressed _ _ _ rfl (by decide),
    by decide +kernel, by decide +kernel⟩

/-- A chunk whose one vector is the last of the last page. -/
def lastChunk : Chunk := ⟨255, 511, [vec true false]⟩

theorem test_meets_StagingWriteStoresTheVectors :
    let s := modStore (fun st => { st with port := some .staging, staging := some lastChunk }) State.reset
    s.store.port = some .staging ∧ s.store.staging = some lastChunk ∧ MemoryWf s := ⟨rfl, rfl, rfl⟩

/-- The bursts of the statement: one with its first or its last vector read wrong, one with more to come, and the last
of a page in each place. -/
theorem test_meets_FetchBurstsFillOrHalt :
    (∀ st ∈ [SeqState.playing, .gap, .priming, .stalled, .held, .halted],
      (fetching st 64 0).store.port = some (.burst 0) ∧
      ((fetching st 64 0).zone 0).seq.fetch = some ⟨tagOf 64, .A, 0, []⟩ ∧ ((fetching st 64 0).zone 0).seq.state = st ∧
      ((fetching st 64 0).zone 0).seq.next = some (tagOf 64) ∧ (fetching st 64 0).firstTag 0 = some (tagOf 64) ∧
      ((fetching st 64 0).zone 0).seq.play.buf.other = .A) ∧
    (parityBad (memRead (fetching .playing 64 0).store.mem (slotAddr 2 0) ^^^ (([(0, 1)].lookup 0).getD 0)) = true) ∧
    (parityBad (memRead (fetching .playing 64 0).store.mem (slotAddr 2 63) ^^^ (([(63, 1)].lookup 63).getD 0)) = true) ∧
    (∀ k < 64, parityBad (memRead (fetching .playing 64 0).store.mem (slotAddr 2 k)) = false) ∧
    ((fetching .playing 65 0).zone 0).seq.fetch = some ⟨tagOf 65, .A, 0, []⟩ := by decide +kernel

/-- A bad burst that cuts a pass with socket 0 in it, and one that cuts none. -/
theorem test_meets_FetchBurstsFillOrHalt_halts :
    (∀ st ∈ [SeqState.playing, .gap], let s := modPass 0 (fun p => { p with checked := true }) (fetching st 64 0)
      s.store.port = some (.burst 0) ∧ (s.zone 0).seq.fetch = some ⟨tagOf 64, .A, 0, []⟩ ∧
      (s.zone 0).seq.state.inPass = decide (st = .playing) ∧ (s.sock 0).pass.checked = true ∧ s.idleWord 0 = 0xAAAA) := by
  decide +kernel

/-- The last burst of zone 0 brings position 1 of slot 0, while `next` is the tag of the next page and buffer B is as
given. -/
def stale (st : SeqState) (next : Option PageTag) (b : Buffer) : State :=
  modSeq 0 (fun q => { q with
    bufA := .filling ⟨0, 1, 2, 64⟩, bufB := b, next := next, fetch := some ⟨⟨0, 1, 2, 64⟩, .A, 0, []⟩ }) (fetching st 64 0)

/-- A page that is not wanted: nothing is wanted, or position 0, which no buffer, the buffer just played or the other one
holds. -/
theorem test_meets_FetchBurstsFillOrHalt_unwanted :
    (∀ st ∈ [SeqState.playing, .stalled, .priming, .gap], ∀ next ∈ [none, some (tagOf 64)],
      ∀ b ∈ [Buffer.empty, .full (tagOf 64) [vec true false]],
      let s := stale st next b
      (s.zone 0).seq.state = st ∧ (s.zone 0).seq.next = next ∧ next ≠ some ⟨0, 1, 2, 64⟩ ∧
      s.firstTag 0 = some (tagOf 64) ∧ (s.zone 0).seq.assigned = some (.slot 0) ∧
      (s.zone 0).seq.play.buf = .B ∧ (s.zone 0).seq.buf .B = b ∧ s.program 0 = some { prog with lastCount := 64 }) ∧
    ((Buffer.full (tagOf 64) [vec true false]).holds (tagOf 64) = true ∧ Buffer.empty.holds (tagOf 64) = false) ∧
    (modSeq 0 (fun q => { q with assigned := none }) (stale .gap none .empty)).firstTag 0 = none ∧
    (let s := modSeq 0 (fun q => { q with
        bufA := .full (tagOf 64) [vec true false], fetch := some ⟨⟨0, 1, 2, 64⟩, .B, 0, []⟩ })
        (stale .playing (some (tagOf 64)) .empty);
      ((s.zone 0).seq.buf (s.zone 0).seq.play.buf.other).holds (tagOf 64) = true) := by decide +kernel

/-- Requests that fail at one check after another: RUN-DEFINE in a started run, with no socket declared, on an unset board
and with an empty slot; PROGRAM-DEFINE of a slot in use, of a page not SEALED and past its page's count; PAGE-DATA of no
vector and of a FREE page; ZONE-PROGRAM for a zone that is DONE; SETPOINT for an unset zone; BOARD-RESET of no scope. -/
theorem test_meets_RefusedRequestsChangeNothing_order :
    (let status := fun r : Instr × State => ((after r.1 r.2).link.reply.map (·.payload.head?)).getD none
      let define := fun p : List Byte => Instr.runDefine (frame 0x10 p)
      let program := fun p : List Byte => Instr.programDefine (frame 0x38 p)
      let data := fun p : List Byte => Instr.pageData (frame 0x31 p)
      [(define definePayload, active), (define (definePayload.set 5 0), configured), (define definePayload, State.reset),
          (define (definePayload.set 10 15), configured), (program (programPayload.set 0 0), ready),
          (program (programPayload.set 2 3), configured), (program (programPayload.set 4 3), configured),
          (data [255, 0, 0, 0], opened 0 none), (data (dataPayload 0 0 1), State.reset),
          (.zoneProgram (frame 0x25 [0, 0]), withSeq .done), (.setpoint (frame 0x23 [3, 4, 0xE2]), active),
          (.boardResetRun (frame 0x04 [2]), active)].map status =
        ([.wrongState, .badValue, .notConfigured, .notFound, .inUse, .notFound, .badValue, .badValue, .wrongState,
          .wrongState, .notConfigured, .badValue] : List Status).map fun st => some st.code) ∧
    ∀ s ∈ [active, configured, State.reset], Addressed 0x10 (frame 0x10 definePayload) s ∧
      Addressed 0x38 (frame 0x38 programPayload) s ∧ Addressed 0x31 (frame 0x31 (dataPayload 0 0 1)) s := by
  have h : ∀ s ∈ [active, configured, State.reset], s.link = Link.ofStraps 1 0 := by decide +kernel
  exact ⟨by decide +kernel, fun s hs => ⟨addressed _ _ _ (h s hs) (by decide), addressed _ _ _ (h s hs) (by decide),
    addressed _ _ _ (h s hs) (by decide)⟩⟩

/-! ### Rails -/

/-- The board in ACTIVE with the rail of socket 0 ON, its window one sample short of full at I_avg. -/
def nearAverage : State := modRail 0 (fun r => { r with window := List.replicate 7 6000 }) (withRail .on)

theorem test_meets_RailSamplesAreTaken :
    ((withRail .off).sock 0).rail.state = .off ∧
    (((withRail .ramp2).zone (zoneOf 0)).railProf = some railP ∧ ((withRail .ramp2).sock 0).rail.state = .ramp2 ∧
      min 6000 1139 + railP.vok < railP.vbus ∧ railP.vbus ≤ min 6000 1140 + railP.vok ∧ RailLaws (withRail .ramp2)) ∧
    ((withRail .on).sock 0).rail.state = .on ∧ min 20000 8999 < railP.iFast ∧
    ((withRail .on).sock 0).rail.window.length + 1 ≠ railP.win :=
  ⟨by decide +kernel, ⟨by decide +kernel, by decide +kernel, by decide, by decide, railLaws_ramp2⟩, by decide +kernel,
    by decide, by decide +kernel⟩

theorem railLaws_nearAverage : RailLaws nearAverage := by unfold RailLaws Law1 Law2 Law3 RailDown; decide +kernel

theorem railLaws_ramping : ∀ st ∈ [RailState.ramp1, .ramp2], RailLaws (withRail st) := by
  unfold RailLaws Law1 Law2 Law3 RailDown; decide +kernel

theorem test_meets_RailTripsOpenTheRail :
    RailLaws nearAverage ∧ (∀ st ∈ [RailState.ramp1, .ramp2], RailLaws (withRail st)) ∧
    (nearAverage.zone (zoneOf 0)).railProf = some railP ∧ (nearAverage.sock 0).rail.state = .on ∧
    railP.iFast ≤ min 20000 9000 ∧
    (min 20000 6000 < railP.iFast ∧ ((nearAverage.sock 0).rail.window ++ [6000]).length = railP.win ∧
      railP.iAvg ≤ ((nearAverage.sock 0).rail.window ++ [6000]).sum / 8 ∧ 1 ≤ railP.win) ∧
    (∀ st ∈ [RailState.ramp1, .ramp2], ((withRail st).zone (zoneOf 0)).railProf = some railP ∧
      ((withRail st).sock 0).rail.rampTimer = some 5 ∧ ((withRail st).sock 0).rail.state = st) :=
  ⟨railLaws_nearAverage, railLaws_ramping, by decide +kernel⟩

/-- The rail of socket 0 rests, its set empty, while two other rails of the zone ramp. -/
def restWaits : State :=
  modRail 1 (fun r => { r with state := .ramp1 }) (modRail 2 (fun r => { r with state := .ramp2 }) (withRail .rest))

/-- A trip with an off-time, and RUN-START. -/
theorem test_meets_RailsFollowTheirSets :
    (mayReset (.rampTimeout 0) = false ∧ RailInv crowded ∧ movesRail 1 (.rampTimeout 0) = false ∧
      exec (.rampTimeout 0) crowded = .next (after (.rampTimeout 0) crowded) ∧
      (crowded.zone (zoneOf 0)).railProf = some railP ∧ offTimeMs railP.offCode ≠ 0) ∧
    mayReset (.runStart (frame 0x11 [])) = false ∧ RailInv ready ∧
      exec (.runStart (frame 0x11 [])) ready = .next (after (.runStart (frame 0x11 [])) ready) :=
  ⟨⟨rfl, railInv_crowded, by decide, rfl, by decide +kernel, by decide⟩, rfl, railInv_ready, rfl⟩

/-- 10 R172: a frame of kind BOARD-RESET resets the board under either row that carries a kind code, and RailsFollowTheirSets
leaves those rows out; those of another kind are in it. -/
theorem test_reset_frames_under_other_rows :
    (∀ c ∈ [Instr.unknownKind 0x04 (frame 0x04 [0]), .frameDiscard 0x04 (frame 0x04 [0])],
      mayReset c = true ∧ ((after c (withRail .rest)).sock 0).rail.state = .off) ∧
    mayReset (.unknownKind 0x11 (frame 0x11 [])) = false := by decide +kernel

/-- The slot that a trip releases goes to the head of the queue in the same change (R33, R34, R40). -/
theorem test_released_slot_goes_to_the_head :
    let t := after (.rampTimeout 0) crowded
    (t.sock 0).rail.state = .rest ∧ (t.sock 2).rail.state = .ramp1 ∧ (t.zone 0).rampQueue = [] := by decide +kernel

theorem test_meets_RailTimersExpire :
    (((withRail .ramp1).sock 0).rail.phase1Timer = some 5 ∧ ((withRail .ramp1).sock 0).rail.state = .ramp1) ∧
    (((withRail .on).sock 0).rail.stableTimer = some 5 ∧ ((withRail .on).sock 0).rail.offTimer = some 5) ∧
    (((modRail 0 (fun r => { r with inhibit := { r.inhibit with run := true } }) (withRail .rest)).sock
      0).rail.inhibit.isEmpty = false) ∧
    ((restWaits.sock 0).rail.state = .rest ∧ (restWaits.sock 0).rail.inhibit.isEmpty = true ∧
      (restWaits.slotHolders 0).length = 2) ∧
    (((withRail .rest).sock 0).rail.state = .rest ∧ ((withRail .rest).sock 0).rail.inhibit.isEmpty = true ∧
      (withRail .rest).slotHolders 0 = [] ∧ ((withRail .rest).zone 0).rampQueue = [] ∧
      ((withRail .rest).zone 0).railProf = some railP) := by decide +kernel

/-! ### Heat -/

/-- The board in ACTIVE with the loop of socket 0 in a state, with run lengths of bad and of good readings. -/
def withTherm (st : ThermalState) (bad good : Nat) : State :=
  modTherm 0 (fun t => { t with state := st, badRun := bad, goodRun := good }) active

theorem test_meets_SensorsAreWatched :
    (State.reset.sock 31).therm.answerTimer = none ∧
    (((withTherm .approach 0 0).sock 0).therm.answerTimer = some 9 ∧ ((withTherm .approach 0 0).sock 0).therm.badRun = 0) ∧
    (((withTherm .approach 1 0).sock 0).therm.answerTimer = some 9 ∧ ((withTherm .approach 1 0).sock 0).therm.badRun = 1 ∧
      ((withTherm .approach 1 0).sock 0).therm.state = .approach) ∧
    (∃ x : Int, x < -400 ∨ 2000 < x) := ⟨by decide +kernel, by decide +kernel, by decide +kernel, -401, by decide⟩

/-- BOARD-RESET RUN keeps the last reading, and a SENSOR-FAULT record marks it absent until a good one comes (R52, R69). -/
theorem test_fault_reading_absent_after_reset :
    let t := after (.boardResetRun (frame 0x04 [0])) active
    (t.sock 0).therm.reading = some 1200 ∧ (t.sock 0).therm.faultReading = none ∧
    (active.sock 0).therm.faultReading = some 1200 := by decide +kernel

theorem test_meets_GoodReadingsAreHandled :
    (∃ s : State, (s.sock 31).therm.answerTimer = some 9 ∧ (s.zone (zoneOf 31)).thermProf = none) ∧
    (∀ st ∈ [ThermalState.held, .tripped, .off, .approach, .inband, .outband],
      ((withTherm st 0 0).sock 0).therm.answerTimer = some 9 ∧ ((withTherm st 0 0).zone (zoneOf 0)).thermProf = some thermP ∧
      ((withTherm st 0 0).sock 0).therm.state = st) ∧
    (∀ n ∈ [2, 3], ((withTherm .sensorFault 0 n).sock 0).therm.answerTimer = some 9 ∧
      ((withTherm .sensorFault 0 n).sock 0).therm.goodRun = n ∧
      ((withTherm .sensorFault 0 n).sock 0).rail.inhibit.thermal = false ∧
      ((withTherm .sensorFault 0 n).sock 0).rail.state = .off ∧ taking (withTherm .sensorFault 0 n) 0 = true) ∧
    (-400 ≤ thermP.limit ∧ thermP.limit ≤ 2000) ∧ -400 ≤ thermP.limit - 100 ∧ thermP.limit - 100 + 1 ≤ 2000 := by
  refine ⟨⟨modTherm 31 (fun t => { t with answerTimer := some 9 }) active, by decide +kernel, by decide +kernel⟩, ?_⟩
  decide +kernel

theorem test_meets_HeaterStepComputes :
    (∀ st ∈ [ThermalState.approach, .inband, .outband], ((withTherm st 0 0).sock 0).therm.answerTimer = some 9 ∧
      ((withTherm st 0 0).zone (zoneOf 0)).thermProf = some thermP ∧ ((withTherm st 0 0).sock 0).therm.state = st) ∧
    (-400 : Int) ≤ 1399 ∧ (1399 : Int) ≤ 2000 ∧ 1399 < thermP.limit := by decide +kernel

/-! ### The port and playback -/

/-- A burst of zone 0 ends while a chunk waits, overtaken `n` times. -/
def contended (st : SeqState) (n : Nat) : State :=
  modStore (fun t => { t with staging := some lastChunk, waitCount := n }) (fetching st 129 0)

/-- Each way a transfer ends, and each class that may win: a fetch of a PRIMING zone, the writer at its fourth grant
overtaken, a fetch of a PLAYING zone, the writer alone after a last or a bad burst, and nothing after any of them. -/
theorem test_meets_PortGrantsByClass :
    (∀ st ∈ [SeqState.priming, .playing], ∀ n ∈ [3, 4], (contended st n).store.port = some (.burst 0) ∧
      ((contended st n).zone 0).seq.fetch.isSome = true) ∧
    (let t := after (.fetchBurstDone []) (contended .priming 4);
      (t.zone 0).seq.fetch.isSome = true ∧ (t.zone 0).seq.state = .priming ∧ t.store.port = some (.burst 0)) ∧
    (let t := after (.fetchBurstDone []) (contended .playing 4);
      (t.zone 0).seq.fetch.isSome = true ∧ (t.zone 0).seq.state = .playing ∧ t.store.port = some .staging) ∧
    (let t := after (.fetchBurstDone []) (contended .playing 3);
      (∀ y : ZoneId, y ≠ 0 → (t.zone y).seq.fetch = none) ∧ t.store.port = some (.burst 0) ∧ t.store.waitCount = 4) ∧
    (∀ wrong ∈ [[], [(0, 1)]], ∀ c ∈ [none, some lastChunk],
      let s := modStore (fun t => { t with staging := c }) (fetching .playing 64 0)
      let t := after (.fetchBurstDone wrong) s
      (∀ y, (t.zone y).seq.fetch = none) ∧ t.store.staging = c ∧
      t.store.port = if c.isSome then some .staging else none) ∧
    (let s := copying 1;
      s.store.port = some .staging ∧ s.store.staging.isSome = true ∧
      (∀ y, ((after .stagingWriteDone s).zone y).seq.fetch = none) ∧ (after .stagingWriteDone s).store.port = none) := by
  decide +kernel

/-- Zone 0 at the last vector of the first of a program's `pages`, the next page in the other buffer or not, and a
program staged or none. -/
def pageEndOf (pages : List PageId) (staged : Option ProgSel) (b : Buffer) : State :=
  modSeq 0 (fun q => { q with bufB := b, next := some ⟨0, 1, 2, 2⟩, staged := staged })
    (withProg { prog with pages := pages } (playing [vec true false] 0))

/-- The same in a program of two pages with no program staged. -/
def pageEnd : Buffer → State := pageEndOf [2, 2] none

theorem test_meets_VectorPeriodsPlayOn :
    (((playing [markVec, vec false true] 1).zone 0).seq.state = .playing ∧
      ((playing [markVec, vec false true] 1).zone 0).seq.buf .A = .full tag0 [markVec, vec false true] ∧
      (playing [markVec, vec false true] 1).program 0 = some prog ∧ (vec false true).loopBack = true ∧ 0 + 1 < prog.loopRep ∧
      markVec.loopMark = true) ∧
    ((playing [vec true false, vec false false] 0).zone 0).seq.buf .A = .full tag0 [vec true false, vec false false] ∧
    (∀ b ∈ [Buffer.empty, .full ⟨0, 1, 2, 2⟩ [markVec]], ((pageEnd b).zone 0).seq.state = .playing ∧
      ((pageEnd b).zone 0).seq.buf .A = .full tag0 [vec true false] ∧ ((pageEnd b).zone 0).seq.buf .B = b ∧
      ((pageEnd b).program 0).map (·.pages.length) = some 2 ∧ ((pageEnd b).zone 0).seq.next = some ⟨0, 1, 2, 2⟩) := by
  decide +kernel

/-- Page changes to the last position and to one before it, with a slot, no program and nothing staged. -/
theorem test_meets_VectorPeriodsPlayOn_changes :
    ∀ pages ∈ [[2, 2], [2, 2, 2]], ∀ e ∈ [none, some .noProgram, some (.slot 0)],
      let s := pageEndOf pages e (.full ⟨0, 1, 2, 2⟩ [markVec])
      SeqInv s ∧ s.program 0 = some { prog with pages := pages } ∧ (s.zone 0).seq.staged = e := by
  have h : ∀ pages ∈ [[2, 2], [2, 2, 2]], ∀ e ∈ [none, some .noProgram, some (.slot 0)], ∀ z,
      let s := pageEndOf pages e (.full ⟨0, 1, 2, 2⟩ [markVec])
      ((s.zone z).seq.state.inPass = true → isFull ((s.zone z).seq.buf (s.zone z).seq.play.buf) = true) ∧
        (s.zone z).seq.fetch = none := by decide +kernel
  refine fun pages hp e he => ⟨fun z => ⟨(h pages hp e he z).1, fun f hf => ?_⟩, ?_⟩
  · rw [(h pages hp e he z).2] at hf; cases hf
  · revert e; revert pages; decide +kernel

/-- 06 R105: at a page change to the last position with no program staged there is no next page and no fetch; with
nothing staged position 0 of the assigned program is fetched, with its count. -/
theorem test_page_change_chooses_the_next :
    let q := fun e => ((after (.vectorPeriodEnd 0 (Vector.replicate 8 0))
      (pageEndOf [2, 2] e (.full ⟨0, 1, 2, 2⟩ [markVec]))).zone 0).seq
    ((q (some .noProgram)).next = none ∧ (q (some .noProgram)).fetch = none) ∧ (q none).next = some tag0 ∧
      (q none).fetch = some ⟨tag0, .A, 0, []⟩ := by decide +kernel

/-- Zone 0 at its last vector, in a check mode, with socket 0 in the pass after `n` mismatches, under dispositions `d`
of its verdicts. -/
def passEnd (mode : CheckMode) (n : Nat) (d : Disp) (void : Option VoidCause) : State :=
  modRun (fun r => { r with record := some { record with disp :=
      { record.disp with strobe := some d, signature := some d } } })
    (modPass 0 (fun p => { p with checked := true, count := n })
      (modChk 0 (fun c => { c with mode := some mode }) (modSeq 0 (fun q => { q with void := void })
        (playing [vec false false] 0))))

/-- A void pass, a clean one, and failing ones by strobe, by signature and by both under each disposition. -/
theorem test_meets_PassEndsAreJudged :
    (∀ m ∈ [CheckMode.strobe, .signature, .both], ∀ n ∈ [0, 1], ∀ d ∈ [Disp.count, .reset, .retire],
      ∀ v ∈ [none, some VoidCause.stall],
      let s := passEnd m n d v
      (s.zone 0).seq.state = .playing ∧ (s.zone 0).seq.buf .A = .full tag0 [vec false false] ∧
      s.program 0 = some prog ∧ (s.zone 0).seq.void = v ∧ (s.zone 0).chk.mode = some m ∧ (s.zone 0).chk.expect = none ∧
      (s.sock 0).pass.checked = true ∧ (s.sock 0).pass.count = n ∧ taking s 0 = true ∧ nextIsLast s 0 = false ∧
      s.disposition .strobeMismatch = d ∧ s.disposition .signatureMismatch = d ∧ (s.sock 0).rail.state = .on ∧
      (s.sock 0).live.state ≠ .paused ∧ s.cycleLimit 0 = 1) ∧
    tag0.pos + 1 = prog.pages.length ∧ (∀ i : SocketId, i ≠ 0 → ((passEnd .strobe 0 .count none).sock i).pass.checked = false) := by
  decide +kernel

/-- Both kinds of mismatch at the end of a pass under dispositions of each, the last vector a STROBE one, with `n` reset
cycles behind socket 0 and its heartbeat in a state. -/
def bothEnd (ds dg : Disp) (n : Nat) (st : HbState) : State :=
  modRun (fun r => { r with record := some { record with disp :=
      { record.disp with strobe := some ds, signature := some dg } } })
    (modLive 0 (fun l => { l with state := st, cycles := n }) (modPass 0 (fun p => { p with checked := true, count := 1 })
      (modChk 0 (fun c => { c with mode := some .both }) (playing [vec true false] 0))))

/-- A strobe at the last vector, each pair of dispositions, a request that fits the cycle limit and one that does not, and
a socket in PAUSED. -/
theorem test_meets_PassEndsAreJudged_both :
    (∀ ds ∈ [Disp.count, .reset, .retire], ∀ dg ∈ [Disp.count, .reset, .retire], ∀ n ∈ [0, 1],
      ∀ st ∈ [HbState.watch, .paused],
      let s := bothEnd ds dg n st
      (s.zone 0).seq.state = .playing ∧ (s.zone 0).seq.buf .A = .full tag0 [vec true false] ∧
      (s.zone 0).chk.mode = some .both ∧ (s.sock 0).pass.checked = true ∧ taking s 0 = true ∧ nextIsLast s 0 = false ∧
      s.disposition .strobeMismatch = ds ∧ s.disposition .signatureMismatch = dg ∧ (s.sock 0).rail.state = .on ∧
      (s.sock 0).live.state = st ∧ (s.sock 0).live.cycles = n ∧ s.cycleLimit 0 = 1) ∧
    (vec true false).strobe = true ∧ RailLaws (bothEnd .reset .reset 0 .watch) ∧
    RailLaws (passEnd .strobe 1 .count none) := by
  refine ⟨by decide +kernel, rfl, ?_, ?_⟩ <;> unfold RailLaws Law1 Law2 Law3 RailDown <;> decide +kernel

/-- 07 R131, R132: the mismatch that the strobe of the last vector makes enters the verdicts, and a record under RETIRE of
the second kind retires the socket. -/
theorem test_last_strobe_enters_the_verdict :
    let s := modPass 0 (fun p => { p with count := 0 }) (bothEnd .count .retire 0 .watch)
    let t := after (.vectorPeriodEnd 0 (Vector.replicate 8 0)) s
    (t.sock 0).acct.log.map (·.kind) = [.strobeMismatch, .signatureMismatch] ∧ (t.sock 0).life = .retired ∧
    (t.sock 0).pass.nFailed = 1 := by decide +kernel

/-- The places after a clean pass: no program staged in, a gap, and no gap with position 0 buffered. -/
theorem test_meets_PassEndsAreJudged_places :
    let clean := passEnd .strobe 0 .count none
    let stop := modSeq 0 (fun q => { q with staged := some .noProgram }) clean
    let fast := fun b => modSeq 0 (fun q => { q with bufB := b }) (withProg { prog with gap := 0 } clean)
    ((stop.zone 0).seq.staged = some .noProgram ∧ (stop.zone 0).seq.state = .playing) ∧
    ((clean.zone 0).seq.staged = none ∧ (clean.zone 0).seq.assigned = some (.slot 0) ∧ 0 < prog.gap) ∧
    (∀ b ∈ [Buffer.empty, .filling tag0, .full tag0 [vec true false]], ((fast b).program 0).map (·.gap) = some 0 ∧
      ((fast b).zone 0).seq.buf .A = .full tag0 [vec false false] ∧ ((fast b).zone 0).seq.bufB = b ∧
      ((fast b).zone 0).seq.fetch = none ∧ (fast b).firstTag 0 = some tag0) := by decide +kernel

/-- 06 R113, the note after R110: END on the first of two pages with a gap of 0 leads through PRIMING, and position 0 is
fetched anew. -/
theorem test_end_on_the_first_of_two_pages_primes :
    let s := modSeq 0 (fun q => { q with bufB := .full ⟨0, 1, 2, 2⟩ [markVec] })
      (withProg { prog with gap := 0, pages := [2, 2] } (playing [{ vec false false with last := true }, markVec] 0))
    let q := ((after (.vectorPeriodEnd 0 (Vector.replicate 8 0)) s).zone 0).seq
    q.state = .priming ∧ q.fetch = some ⟨tag0, .B, 0, []⟩ ∧ q.bufA = .empty ∧ q.bufB = .filling tag0 := by decide +kernel

/-- Zone 0 in GAP, its buffer A as given. -/
def inGap (b : Buffer) : State := modSeq 0 (fun q => { q with state := .gap, gapTimer := some 5, bufA := b }) active

theorem test_meets_GapExpiryStartsThePass :
    (∀ b ∈ [Buffer.empty, .full tag0 [vec true false]], ((inGap b).zone 0).seq.state = .gap ∧
      ((inGap b).zone 0).seq.gapTimer = some 5 ∧ ((inGap b).zone 0).seq.assigned = some (.slot 0) ∧
      (inGap b).program 0 = some prog ∧ prog.pages[0]? = some 2 ∧ ((inGap b).zone 0).seq.bufA = b ∧
      ((inGap b).zone 0).seq.bufB.holds tag0 = false) := by decide +kernel

/-! ### Heartbeats, credit and the line -/

theorem test_meets_HeartbeatsAreJudged :
    (∀ st ∈ [HbState.idle, .waitFirst, .watch, .resetHeld, .ignore], ((withBeat st).sock 0).live.state = st ∧
      ((withBeat st).sock 0).live.timer = some 300 ∧ ((withBeat st).sock 0).live.lastEdge = some 100) ∧
    (withBeat .watch).hbPart (zoneOf 0) = prog.hb ∧ 200 ≤ max (withBeat .watch).now (300 * 50000) / 50000 - 100 := by
  decide +kernel

/-- Socket 0 in WATCH under a disposition of early edges and late windows, with `n` reset cycles behind it. -/
def beatFails (d : Disp) (n : Nat) : State :=
  modRun (fun r => { r with record := some { record with disp := { record.disp with early := some d, late := some d } } })
    (modLive 0 (fun l => { l with cycles := n }) (withBeat .watch))

theorem test_meets_HeartbeatFailuresAreHandled :
    (∀ d ∈ [Disp.count, .reset, .retire], ∀ n ∈ [0, 1],
      let s := beatFails d n
      s.hbPart (zoneOf 0) = prog.hb ∧ taking s 0 = true ∧ (s.sock 0).rail.state = .on ∧ (s.sock 0).live.state = .watch ∧
      (s.sock 0).live.lastEdge = some 100 ∧ (s.sock 0).live.timer = some 300 ∧ nextIsLast s 0 = false ∧
      s.disposition .heartbeatEarly = d ∧ s.disposition .heartbeatLate = d ∧ (s.sock 0).live.cycles = n) ∧
    max (beatFails .count 0).now (299 * 50000) / 50000 - 100 < 200 ∧ prog.hb.map (·.cycleLimit) = some 1 := by
  decide +kernel

/-- Socket 0 is INBAND under a zone in PLAYING, one second short of the stress target. -/
def dueSoon : State :=
  modAcct 0 (fun a => { a with credit := 59 }) (modTherm 0 (fun t => { t with state := .inband })
    (playing [vec true false] 0))

theorem test_meets_AccountingCreditsSeconds :
    (midRun.run.acctTimer = some 50000000 ∧ midRun.run.record = some record ∧ midRun.run.state = .active ∧
      RailLaws midRun) ∧
    (dueSoon.run.acctTimer = some 50000000 ∧ RailLaws dueSoon ∧ (dueSoon.sock 0).therm.state = .inband ∧
      (dueSoon.sock 0).rail.state = .on ∧ record.target ≤ (dueSoon.sock 0).acct.credit + 1) ∧
    (∀ s ∈ [midRun, dueSoon], ∀ z, (s.zone z).armed = false ∨ s.dutSum z ≤ (s.zone z).budget) ∧
    [(0 : SocketId)].Pairwise (· < ·) ∧
    ∀ i : SocketId, i ≠ 0 → (dueSoon.sock i).life ≠ .stressing ∧ (dueSoon.sock i).life ≠ .waiting := by
  refine ⟨⟨rfl, rfl, rfl, railLaws_midRun⟩, ⟨rfl, ?_, ?_⟩, by decide +kernel, by decide, by decide +kernel⟩
  · unfold RailLaws Law1 Law2 Law3 RailDown; decide +kernel
  · decide +kernel

theorem test_meets_LineEventsMoveTheLink :
    (Addressed 0x43 (frame 0x43 []) State.reset ∧ 0x43 ∉ requestKinds) ∧
    (State.reset.link.inReset = false ∧ State.reset.link.replyState ≠ .sending ∧ (frame 0x01 []).payload.length ≤ 250) ∧
    (crcOf (frameCovered 0x01 { frame 0x01 [] with crc := 0 }) ≠ 0 ∧ (2 : Byte) ≠ State.reset.link.slot.zeroExtend 8 ∧
      (0x01 : Byte) ∉ ([0x04, 0x12, 0x13, 0x14] : List Byte)) ∧
    (modLink (fun l => { l with replyState := .sending }) State.reset).link.replyState = .sending ∧
    State.reset.link.rx = .hunt ∧ State.reset.link.rxBuf = [] ∧
    (modLink (fun l => { l with rx := .header, rxBuf := [1, 1, 1] }) State.reset).link.rxBuf.length = 3 ∧
    250 < (251 : Byte).toNat :=
  ⟨⟨addressed 0x43 _ State.reset rfl (by decide), by decide⟩, by decide, by decide +kernel, by decide⟩

end Sys2Proof.Tests
end

/-! The requests of the pattern store that change a page's state or empty a program slot: how an addressed
request ends, what PAGE-OPEN, PAGE-FREE and PROGRAM-DELETE do case by case, and the statements about them. -/

namespace Sys2Proof.Proofs.PatternStore

open Sys2Proof.Machine Sys2Proof.Safety

/-! ## Addressed requests (R171 to R176) -/

/-- The state as the owner of a request finds it: a PENDING reply abandoned and the receiver in HUNT. -/
def received (s : State) : State := modLink (fun l => l.dropPending.hunt) s

@[simp] theorem received_program (s : State) (k : ProgId) : (received s).program k = s.program k := rfl

@[simp] theorem received_inUse (s : State) (k : ProgId) : (received s).inUse k = s.inUse k := rfl

/-- The reply buffer and the receiver are overwritten whole, so that what the frame's arrival did to them is gone. -/
theorem answered_dropPending_hunt (kind : Byte) (f : Frame) (st : Status) (data : List Byte) (l : Link) :
    answered kind f st data l.dropPending.hunt = answered kind f st data l := by
  unfold Link.dropPending
  split <;> rfl

theorem fixedLen_singleton (op : Op) (b : Byte) (s : State) : fixedLen 1 op [b] s = op [b] s := rfl

section
variable {kind : Byte} {op : Op} {f : Frame} {s : State} {st : Status} {data : List Byte}

/-- An addressed request whose owner leaves the link port alone: the owner's state, with the reply PENDING. -/
theorem execFrame_answers {t : State} (h : Addressed kind f s) (hop : op f.payload (received s) = (t, ⟨st, data⟩))
    (hl : t.link = (received s).link) :
    execFrame kind op f s = .next { t with link := answered kind f st data s.link } := by
  have hlink : answered kind f st data t.link = answered kind f st data s.link := by
    rw [hl]; exact answered_dropPending_hunt kind f st data s.link
  have hreply : buildReply kind f.tag ⟨st, data⟩ t = { t with link := answered kind f st data t.link } := by
    obtain ⟨hrx, hbuf⟩ : t.link.rx = .hunt ∧ t.link.rxBuf = [] := by rw [hl]; exact ⟨rfl, rfl⟩
    simp only [buildReply, modLink, answered, ← hrx, ← hbuf]
  have htake : takeFrame kind op f s = buildReply kind f.tag ⟨st, data⟩ t := by
    rw [takeFrame_addressed op h, ← received, hop]
  rw [execFrame, htake, hreply, hlink]

/-- A refused request leaves everything but the link port as it was (R175). -/
theorem execFrame_refuses (h : Addressed kind f s) (hop : op f.payload (received s) = refuse st (received s) data) :
    execFrame kind op f s = .next { s with link := answered kind f st data s.link } :=
  execFrame_answers (t := received s) h hop rfl

/-- A request that its owner refuses under a condition, and answers otherwise. -/
theorem execFrame_refuses_or_answers {c : Prop} [Decidable c] {t : State} {no : Status} (h : Addressed kind f s)
    (hop : op f.payload (received s) = if c then refuse no (received s) else (t, ⟨st, data⟩))
    (hl : t.link = (received s).link) :
    execFrame kind op f s = .next (
      if c then { s with link := answered kind f no [] s.link }
      else { t with link := answered kind f st data s.link }) := by
  by_cases hc : c
  · rw [if_pos hc] at hop ⊢
    exact execFrame_refuses h hop
  · rw [if_neg hc] at hop ⊢
    exact execFrame_answers h hop hl

end

/-! ## PAGE-OPEN and PAGE-FREE (R80, R87) -/

theorem exec_pageOpen (f : Frame) (s : State) : exec (.pageOpen f) s = execFrame 0x30 opPageOpen f s := rfl

theorem exec_pageFree (f : Frame) (s : State) : exec (.pageFree f) s = execFrame 0x33 opPageFree f s := rfl

/-- The byte of a page's number names that page. -/
theorem pageArg_ofNat (pg : PageId) : pageArg [BitVec.ofNat 8 pg.val] 0 = pg := by
  apply Fin.ext
  simp [pageArg]

theorem stagedFor_iff (s : State) (pg : PageId) : s.stagedFor pg = true ↔ ∃ c ∈ s.store.staging, c.page = pg := by
  unfold State.stagedFor
  cases s.store.staging with
  | none => simp
  | some c => simp

section
variable {s : State} {pg : PageId} {p : List Byte}

theorem opPageOpen_of_free (hp : p = [BitVec.ofNat 8 pg.val]) (hst : (s.page pg).state = .free) :
    opPageOpen p s = done false (openPage pg s) [0, 0, 0xFF, 0xFF] := by
  subst hp
  simp only [opPageOpen, fixedLen_singleton, pageArg_ofNat, hst]
  rfl

theorem opPageOpen_of_opened (hp : p = [BitVec.ofNat 8 pg.val]) (hst : (s.page pg).state = .opened) :
    opPageOpen p s =
      if ∃ c ∈ s.store.staging, c.page = pg then refuse .busy s
      else done false (openPage pg s) [0, 0, 0xFF, 0xFF] := by
  subst hp
  simp only [opPageOpen, fixedLen_singleton, pageArg_ofNat, hst, stagedFor_iff]
  rfl

theorem opPageOpen_of_sealed (hp : p = [BitVec.ofNat 8 pg.val]) (hst : (s.page pg).state = .sealed) :
    opPageOpen p s = if 0 < (s.page pg).refs then refuse .inUse s else refuse .wrongState s := by
  subst hp
  simp only [opPageOpen, fixedLen_singleton, pageArg_ofNat, hst]

theorem opPageFree_of_free (hp : p = [BitVec.ofNat 8 pg.val]) (hst : (s.page pg).state = .free) :
    opPageFree p s = done false s [] := by
  subst hp
  simp only [opPageFree, fixedLen_singleton, pageArg_ofNat, hst]

theorem opPageFree_of_opened (hp : p = [BitVec.ofNat 8 pg.val]) (hst : (s.page pg).state = .opened) :
    opPageFree p s =
      if ∃ c ∈ s.store.staging, c.page = pg then refuse .busy s else done false (modPage pg Page.freed s) [] := by
  subst hp
  simp only [opPageFree, fixedLen_singleton, pageArg_ofNat, hst, stagedFor_iff]

theorem opPageFree_of_sealed (hp : p = [BitVec.ofNat 8 pg.val]) (hst : (s.page pg).state = .sealed) :
    opPageFree p s = if 0 < (s.page pg).refs then refuse .inUse s else done false (modPage pg Page.freed s) [] := by
  subst hp
  simp only [opPageFree, fixedLen_singleton, pageArg_ofNat, hst]

end

/-- Settles O39: a case split over the page's state; the staging buffer decides in OPEN, the count in SEALED. -/
theorem pagesOpenAndFree : Obligations.PagesOpenAndFree := by
  refine ⟨fun f s pg h hp => ?_, fun f s pg h hp => ?_⟩
  · rw [exec_pageOpen]
    cases hst : (s.page pg).state with
    | free => exact execFrame_answers (t := openPage pg (received s)) h (opPageOpen_of_free hp hst) rfl
    | opened =>
      exact execFrame_refuses_or_answers (t := openPage pg (received s)) h (opPageOpen_of_opened hp hst) rfl
    | sealed => exact execFrame_refuses_or_answers (t := received s) h (opPageOpen_of_sealed hp hst) rfl
  · rw [exec_pageFree]
    cases hst : (s.page pg).state with
    | free => exact execFrame_answers (t := received s) h (opPageFree_of_free hp hst) rfl
    | opened =>
      exact execFrame_refuses_or_answers (t := modPage pg Page.freed (received s)) h
        (opPageFree_of_opened hp hst) rfl
    | sealed =>
      exact execFrame_refuses_or_answers (t := modPage pg Page.freed (received s)) h
        (opPageFree_of_sealed hp hst) rfl

/-! ## PROGRAM-DELETE (R93) -/

theorem exec_programDelete (f : Frame) (s : State) :
    exec (.programDelete f) s = execFrame 0x39 opProgramDelete f s := rfl

theorem progArg_of_gt {b : Byte} (h : 15 < b.toNat) : progArg [b] 0 = none :=
  dif_neg (show ¬ b.toNat < 16 by omega)

theorem progArg_of_eq {b : Byte} {k : ProgId} (h : b.toNat = k.val) : progArg [b] 0 = some k := by
  have hb : b.toNat < 16 := h ▸ k.isLt
  exact (dif_pos hb).trans (congrArg some (Fin.ext h))

/-- Emptying or replacing a slot's definition changes that slot and the page table. -/
theorem setProgram_frame (k : ProgId) (d : Option Program) (s : State) :
    setProgram k d s =
      { s with store := { s.store with
        programs := s.store.programs.set k d
        pages := (setProgram k d s).store.pages } } := by
  simp only [setProgram, modStore]

/-- The page table after a slot's definition is replaced or emptied: only the counts move, by the two page lists. -/
theorem setProgram_page (k : ProgId) (d : Option Program) (s : State) (pg : PageId) :
    (setProgram k d s).page pg =
      { s.page pg with
        refs := (s.page pg).refs + ((d.map (·.pages)).getD []).count pg - (s.slotPages k).count pg } := by
  simp only [State.page, setProgram, modStore_store, timesNamed, Fin.getElem_fin, Vector.getElem_ofFn]

theorem slotPages_of_some {s : State} {k : ProgId} {d : Program} (h : s.program k = some d) :
    s.slotPages k = d.pages := by
  simp [State.slotPages, h]

section
variable {s : State} {k : ProgId} {b : Byte} {p : List Byte}

theorem opProgramDelete_of_gt (hp : p = [b]) (hb : 15 < b.toNat) : opProgramDelete p s = refuse .badValue s := by
  subst hp
  simp only [opProgramDelete, fixedLen_singleton, progArg_of_gt hb]

theorem opProgramDelete_of_eq (hp : p = [b]) (hk : b.toNat = k.val) :
    opProgramDelete p s =
      if (s.program k).isNone then refuse .notFound s
      else if s.inUse k then refuse .inUse s
      else done false (setProgram k none s) [] := by
  subst hp
  simp only [opProgramDelete, fixedLen_singleton, progArg_of_eq hk]

end

/-- Settles O44: the refusals in R93's order, and then the emptied slot, whose page list alone moves the counts. -/
theorem programDeleteEmptiesTheSlot : Obligations.ProgramDeleteEmptiesTheSlot := by
  intro f s b h hp
  rw [exec_programDelete]
  refine ⟨fun hb => execFrame_refuses h (opProgramDelete_of_gt hp hb), fun k hk => ?_⟩
  have hop := opProgramDelete_of_eq (s := received s) hp hk
  rw [received_program, received_inUse] at hop
  refine ⟨fun hnone => ?_, fun d hd => ⟨fun huse => ?_, fun huse => ?_⟩⟩
  · rw [hnone, Option.isNone_none, if_pos rfl] at hop
    exact execFrame_refuses h hop
  · rw [hd, Option.isNone_some, if_neg Bool.false_ne_true, if_pos huse] at hop
    exact execFrame_refuses h hop
  · rw [hd, Option.isNone_some, if_neg Bool.false_ne_true, huse, if_neg Bool.false_ne_true] at hop
    refine ⟨_, execFrame_answers h hop rfl, ?_, fun pg => ?_⟩
    · exact congrArg (fun t : State => { t with link := answered 0x39 f .ok [] s.link })
        (setProgram_frame k none (received s))
    · have hpage := setProgram_page k none (received s) pg
      rw [slotPages_of_some (s := received s) hd] at hpage
      exact hpage

end Sys2Proof.Proofs.PatternStore

/-! What IDENT answers, in every run state: the part's identity, with the slot number and the rate code of the link
port. -/

namespace Sys2Proof.Proofs.Ident

open Sys2Proof.Machine Sys2Proof.Safety Sys2Proof.Proofs.PatternStore

/-- Abandoning a PENDING reply leaves the slot number and the rate code, which only the straps set. -/
theorem dropPending_slot_rate (l : Link) : l.dropPending.slot = l.slot ∧ l.dropPending.rate = l.rate := by
  unfold Link.dropPending
  split <;> exact ⟨rfl, rfl⟩

@[simp] theorem received_slot (s : State) : (received s).link.slot = s.link.slot :=
  (dropPending_slot_rate s.link).left

@[simp] theorem received_rate (s : State) : (received s).link.rate = s.link.rate :=
  (dropPending_slot_rate s.link).right

theorem exec_ident (f : Frame) (s : State) : exec (.ident f) s = execFrame 0x01 opIdent f s := rfl

/-- The link port refuses a payload of a request that has none, before the request's owner sees it (R174). -/
theorem fixedLen_zero_of_ne_nil (op : Op) {p : List Byte} (hp : p ≠ []) (s : State) :
    fixedLen 0 op p s = refuse .badLength s :=
  if_neg (mt List.length_eq_zero_iff.mp hp)

/-- A bit field reported in one byte is the field zero-extended. -/
theorem be1_toNat {w : Nat} (x : BitVec w) : be1 x.toNat = [x.zeroExtend 8] :=
  congrArg (fun b : Byte => [b]) (BitVec.ofNat_toNat 8 x)

/-- The identity of R179; the part code and the page count take two bytes each. -/
theorem opIdent_of_nil {p : List Byte} (hp : p = []) (s : State) :
    opIdent p s =
      done false s [0x0D, 0x32, 0x20, 3, s.link.slot.zeroExtend 8, s.link.rate.zeroExtend 8, 32, 1, 0] := by
  have hop : opIdent [] s = done false s ([Config.vendor] ++ be2 Config.part ++ [Config.revision] ++
      be1 s.link.slot.toNat ++ be1 s.link.rate.toNat ++ be1 32 ++ be2 256) := rfl
  rw [hp, hop, be1_toNat, be1_toNat]
  rfl

/-- Settles O21: the payload decides between the link port's refusal and the identity; the frame's arrival leaves the
slot number and the rate code alone. -/
theorem identAnswers : Obligations.IdentAnswers := by
  intro f s h
  rw [exec_ident]
  by_cases hp : f.payload = []
  · have hop := opIdent_of_nil hp (received s)
    rw [received_slot, received_rate] at hop
    rw [if_pos hp]
    exact execFrame_answers (t := received s) h hop rfl
  · rw [if_neg hp]
    exact execFrame_refuses h (fixedLen_zero_of_ne_nil _ hp (received s))

end Sys2Proof.Proofs.Ident

/-! How a request ends that is addressed to the board or broadcast, and how the bytes of a payload are read. -/

namespace Sys2Proof.Proofs.Requests

open Sys2Proof.Machine Sys2Proof.Safety Sys2Proof.Proofs.PatternStore

/-! ## Requests that the board takes (R172 to R176) -/

/-- A frame that draws no reply leaves the link port as its arrival did. -/
theorem unanswered_eq (l : Link) : unanswered l = l.dropPending.hunt := by
  unfold unanswered Link.dropPending Link.hunt
  split <;> rfl

@[simp] theorem received_link (s : State) : (received s).link = unanswered s.link := (unanswered_eq s.link).symm

@[simp] theorem received_run (s : State) : (received s).run = s.run := rfl
@[simp] theorem received_sockets (s : State) : (received s).sockets = s.sockets := rfl
@[simp] theorem received_zones (s : State) : (received s).zones = s.zones := rfl
@[simp] theorem received_store (s : State) : (received s).store = s.store := rfl
@[simp] theorem received_notices (s : State) : (received s).notices = s.notices := rfl
@[simp] theorem received_straps (s : State) : (received s).straps = s.straps := rfl
@[simp] theorem received_now (s : State) : (received s).now = s.now := rfl
@[simp] theorem received_freeDraws (s : State) : (received s).freeDraws = s.freeDraws := rfl
@[simp] theorem received_pending (s : State) : (received s).pending = s.pending := rfl
@[simp] theorem received_sock (s : State) (i : SocketId) : (received s).sock i = s.sock i := rfl
@[simp] theorem received_zone (s : State) (z : ZoneId) : (received s).zone z = s.zone z := rfl
@[simp] theorem received_page (s : State) (pg : PageId) : (received s).page pg = s.page pg := rfl
@[simp] theorem received_started (s : State) : (received s).started = s.started := rfl

/-- The state as a request's owner finds it is the state before, the link port aside. -/
theorem received_eq (s : State) : received s = { s with link := unanswered s.link } := by
  rw [unanswered_eq]; rfl

/-- The slot number never spells the broadcast address unless it is 0. -/
theorem slot_zeroExtend_ne_zero {x : BitVec 5} (h : x ≠ 0) : (x.zeroExtend 8 : Byte) ≠ 0 := by
  revert h; revert x; decide

section
variable {kind : Byte} {op : Op} {f : Frame} {s : State} {st : Status} {data : List Byte}

/-- A broadcast of a kind that takes one: its owner takes it, and no reply is built (R173). -/
theorem takeFrame_broadcast (h : Clean kind f s) (ha : f.addr = 0) (hk : kind ∈ broadcastKinds) :
    takeFrame kind op f s = (op f.payload (received s)).1 := by
  obtain ⟨h1, h2, h3, h4⟩ := h
  have hopen : s.link.isOpen = true := by simp [Link.isOpen, h1, h2]
  have hlen : ¬ 250 < f.payload.length := by omega
  have hj : judgeFrame (received s).link.slot kind f = .broadcast := by simp [judgeFrame, h4, ha, hk]
  simp only [takeFrame, hopen, if_true, hlen, if_false]
  rw [← received, judged, hj]

/-- A request that the board takes, addressed or broadcast: the owner's state, with the reply PENDING or none. -/
theorem execFrame_taken {t : State} (h : Taken kind f s) (hk : kind ∈ broadcastKinds)
    (hop : op f.payload (received s) = (t, ⟨st, data⟩)) (hl : t.link = (received s).link) :
    execFrame kind op f s = .next { t with link := afterTaken kind f st data s.link } := by
  obtain h | ⟨h, ha⟩ := h
  · have hne : f.addr ≠ 0 := by
      obtain ⟨-, hslot, hz⟩ := h
      rw [hslot]; exact slot_zeroExtend_ne_zero hz
    rw [execFrame_answers h hop hl, afterTaken, if_neg hne]
  · rw [execFrame, takeFrame_broadcast h ha hk, hop, afterTaken, if_pos ha, ← received_link, ← hl]

theorem execFrame_taken_refuses (h : Taken kind f s) (hk : kind ∈ broadcastKinds)
    (hop : op f.payload (received s) = refuse st (received s) data) :
    execFrame kind op f s = .next { s with link := afterTaken kind f st data s.link } := by
  rw [execFrame_taken h hk hop rfl]; rfl

end

theorem fixedLen_of_length {n : Nat} {op : Op} {p : List Byte} {s : State} (h : p.length = n) :
    fixedLen n op p s = op p s := if_pos h

theorem fixedLen_of_ne {n : Nat} {op : Op} {p : List Byte} {s : State} (h : p.length ≠ n) :
    fixedLen n op p s = refuse .badLength s := if_neg h

/-! ## Numbers in a payload (R186) -/

theorem u8At_lt (p : List Byte) (k : Nat) : u8At p k < 256 := (p.getD k 0).isLt

theorem u16At_lt (p : List Byte) (k : Nat) : u16At p k < 65536 := by
  have h1 := u8At_lt p k
  have h2 := u8At_lt p (k + 1)
  unfold u16At; omega

theorem be1_u8At (p : List Byte) (k : Nat) : be1 (u8At p k) = [p.getD k 0] :=
  congrArg (fun b : Byte => [b]) ((BitVec.ofNat_toNat 8 _).trans (BitVec.setWidth_eq _))

theorem ofNat_u8_pair (a b : Byte) :
    (BitVec.ofNat 8 ((a.toNat * 256 + b.toNat) / 256) : Byte) = a ∧ (BitVec.ofNat 8 (a.toNat * 256 + b.toNat) : Byte) = b := by
  have ha := a.isLt
  have hb := b.isLt
  constructor <;> apply BitVec.eq_of_toNat_eq <;> simp only [BitVec.toNat_ofNat] <;> omega

theorem be2_pair (a b : Byte) : be2 (a.toNat * 256 + b.toNat) = [a, b] := by
  obtain ⟨h1, h2⟩ := ofNat_u8_pair a b
  rw [be2, h1, h2]

theorem be2_u16At (p : List Byte) (k : Nat) : be2 (u16At p k) = [p.getD k 0, p.getD (k + 1) 0] := be2_pair _ _

theorem be1_inj {a b : Nat} (ha : a < 256) (hb : b < 256) (h : be1 a = be1 b) : a = b := by
  have := congrArg BitVec.toNat (List.cons.inj h).1
  simp only [BitVec.toNat_ofNat] at this
  omega

theorem be2_inj {a b : Nat} (ha : a < 65536) (hb : b < 65536) (h : be2 a = be2 b) : a = b := by
  have h1 := congrArg BitVec.toNat (List.cons.inj h).1
  have h2 := congrArg BitVec.toNat (List.cons.inj (List.cons.inj h).2).1
  simp only [BitVec.toNat_ofNat] at h1 h2
  omega

theorem zoneArg_of_eq {p : List Byte} {k : Nat} {z : ZoneId} (h : u8At p k = z.val) : zoneArg p k = some z := by
  have hb : u8At p k < 4 := h ▸ z.isLt
  exact (dif_pos hb).trans (congrArg some (Fin.ext h))

theorem zoneArg_of_gt {p : List Byte} {k : Nat} (h : 3 < u8At p k) : zoneArg p k = none := dif_neg (by omega)

theorem socketArg_of_eq {p : List Byte} {k : Nat} {i : SocketId} (h : u8At p k = i.val) : socketArg p k = some i := by
  have hb : u8At p k < 32 := h ▸ i.isLt
  exact (dif_pos hb).trans (congrArg some (Fin.ext h))

theorem socketArg_of_gt {p : List Byte} {k : Nat} (h : 31 < u8At p k) : socketArg p k = none := dif_neg (by omega)

@[simp] theorem u8At_cons_zero (b : Byte) (l : List Byte) : u8At (b :: l) 0 = b.toNat := rfl

theorem toNat_ofNat_zone (z : ZoneId) : (BitVec.ofNat 8 z.val : Byte).toNat = z.val := by
  have := z.isLt; simp only [BitVec.toNat_ofNat]; omega

theorem toNat_ofNat_socket (i : SocketId) : (BitVec.ofNat 8 i.val : Byte).toNat = i.val := by
  have := i.isLt; simp only [BitVec.toNat_ofNat]; omega

/-- The value was taken as it came exactly when nothing was clamped. -/
theorem done_eq {a : Prop} [Decidable a] {c : Bool} (s : State) (data : List Byte) (h : (c = false) ↔ a) :
    done c s data = (s, ⟨if a then .ok else .clamped, data⟩) := by
  unfold done
  cases c <;> simp_all

/-- The run has started: ACTIVE or HELD. -/
theorem started_iff (s : State) : s.started = true ↔ s.run.state = .active ∨ s.run.state = .held := by
  simp [State.started]

theorem started_eq_false_iff (s : State) : s.started = false ↔ s.run.state ≠ .active ∧ s.run.state ≠ .held := by
  simp [State.started]

end Sys2Proof.Proofs.Requests

/-! The step, and the settings requests: BOARD-SETUP, ZONE-RAIL, ZONE-THERMAL, SETPOINT, SOCKET-THERMAL and
ZONE-BUDGET. -/

namespace Sys2Proof.Proofs.Settings

open Sys2Proof.Machine Sys2Proof.Safety Sys2Proof.Proofs.PatternStore Sys2Proof.Proofs.Requests

/-- Settles O1: both halves are the two arms of the step. -/
theorem stepTakesTheFront : Obligations.StepTakesTheFront := by
  refine ⟨fun c rest s h => ?_, fun s h => ?_⟩
  · rw [step, h]
  · simp only [step, h, idleTick]

/-! ## BOARD-SETUP (R20) -/

theorem timeoutTaken_eq (n : Nat) :
    timeoutTaken n = if n = 0 then 0 else if n < 20 then 20 else if 2000 < n then 2000 else n := by
  unfold timeoutTaken clampNat
  repeat' split
  all_goals omega

/-- Settles O25: refused in a started run, and else the clamped timeout is set. -/
theorem boardSetupSetsTheTimeout : Obligations.BoardSetupSetsTheTimeout := by
  intro f s hi lo h hp sent t
  have ht : timeoutTaken sent = t := timeoutTaken_eq sent
  have hlen : f.payload.length = 2 := by rw [hp]; rfl
  have hsent : u16At f.payload 0 = sent := by rw [hp]; rfl
  have hop : opBoardSetup f.payload (received s) =
      if s.started then refuse .wrongState (received s)
      else done (t != sent) (modRun (setTimeout t) (received s)) (be2 t) := by
    rw [opBoardSetup, fixedLen_of_length hlen, hsent, ht, received_started]
  show execFrame 0x03 opBoardSetup f s = _
  by_cases hs : s.run.state = .active ∨ s.run.state = .held
  · rw [if_pos ((started_iff s).mpr hs)] at hop
    rw [if_pos hs]
    exact execFrame_refuses h hop
  · rw [if_neg (mt (started_iff s).mp hs), done_eq (a := t = sent) _ _ (by simp)] at hop
    rw [if_neg hs, execFrame_answers h hop rfl]
    have hrun : setTimeout t s.run = if t = s.run.permitTimeout then s.run
        else { s.run with permitTimeout := t, permitValid := t == 0, edgeTimer := none, edgeCount := 0 } := by
      simp only [setTimeout, eq_comm]
    rw [← hrun]; rfl

/-! ## ZONE-RAIL and ZONE-THERMAL (R24, R45) -/

/-- A loop that changes the rails of a zone's sockets leaves every other part of the state. -/
theorem forEach_modSock_frame (f : SocketId → Socket → Socket) (l : List SocketId) (s : State) :
    forEach l (fun i => modSock i (f i)) s = { s with sockets := (forEach l (fun i => modSock i (f i)) s).sockets } := by
  refine forEach_keeps (P := fun t => t = { s with sockets := t.sockets }) (fun a _ t ht => ?_) s rfl
  rw [ht]; rfl

theorem forEach_zoneSockets_sock (f : SocketId → Socket → Socket) (z : ZoneId) (s : State) (j : SocketId) :
    (forEach (zoneSockets z) (fun i => modSock i (f i)) s).sock j = if zoneOf j = z then f j (s.sock j) else s.sock j := by
  rw [forEach_modSock f _ _ (zoneSockets_nodup z)]
  simp only [mem_zoneSockets]

/-- The byte strings of two profiles agree exactly when the profiles do, where every field fits its bytes. -/
theorem railProfile_bytes_inj {p q : RailProfile}
    (hp : p.vbus < 65536 ∧ p.vok < 65536 ∧ p.i1 < 65536 ∧ p.t1 < 256 ∧ p.i2 < 65536 ∧ p.rampMs < 65536 ∧ p.iFast < 65536 ∧
      p.iAvg < 65536 ∧ p.win < 256 ∧ p.offCode < 256 ∧ p.retryLimit < 256 ∧ p.stableS < 65536)
    (hq : q.vbus < 65536 ∧ q.vok < 65536 ∧ q.i1 < 65536 ∧ q.t1 < 256 ∧ q.i2 < 65536 ∧ q.rampMs < 65536 ∧ q.iFast < 65536 ∧
      q.iAvg < 65536 ∧ q.win < 256 ∧ q.offCode < 256 ∧ q.retryLimit < 256 ∧ q.stableS < 65536) :
    p.bytes = q.bytes ↔ p = q := by
  refine ⟨fun h => ?_, fun h => h ▸ rfl⟩
  obtain ⟨a1, a2, a3, a4, a5, a6, a7, a8, a9, a10, a11, a12⟩ := hp
  obtain ⟨b1, b2, b3, b4, b5, b6, b7, b8, b9, b10, b11, b12⟩ := hq
  cases p; cases q
  have e2 : ∀ (a b : Nat) (l m : List Byte), be2 a ++ l = be2 b ++ m → be2 a = be2 b ∧ l = m :=
    fun a b l m h => List.append_inj h rfl
  have e1 : ∀ (a b : Nat) (l m : List Byte), be1 a ++ l = be1 b ++ m → be1 a = be1 b ∧ l = m :=
    fun a b l m h => List.append_inj h rfl
  simp only [RailProfile.bytes, List.append_assoc] at h
  obtain ⟨h1, h⟩ := e2 _ _ _ _ h
  obtain ⟨h2, h⟩ := e2 _ _ _ _ h
  obtain ⟨h3, h⟩ := e2 _ _ _ _ h
  obtain ⟨h4, h⟩ := e1 _ _ _ _ h
  obtain ⟨h5, h⟩ := e2 _ _ _ _ h
  obtain ⟨h6, h⟩ := e2 _ _ _ _ h
  obtain ⟨h7, h⟩ := e2 _ _ _ _ h
  obtain ⟨h8, h⟩ := e2 _ _ _ _ h
  obtain ⟨h9, h⟩ := e1 _ _ _ _ h
  obtain ⟨h10, h⟩ := e1 _ _ _ _ h
  obtain ⟨h11, h12⟩ := e1 _ _ _ _ h
  rw [RailProfile.mk.injEq]
  exact ⟨be2_inj a1 b1 h1, be2_inj a2 b2 h2, be2_inj a3 b3 h3, be1_inj a4 b4 h4, be2_inj a5 b5 h5, be2_inj a6 b6 h6,
    be2_inj a7 b7 h7, be2_inj a8 b8 h8, be1_inj a9 b9 h9, be1_inj a10 b10 h10, be1_inj a11 b11 h11,
    be2_inj a12 b12 h12⟩

/-- The payload of ZONE-RAIL after its zone byte is the byte string of the profile sent. -/
theorem railSent_bytes {p : List Byte} (h : p.length = 21) : (railSent p).bytes = p.drop 1 := by
  simp only [RailProfile.bytes, railSent, be1_u8At, be2_u16At]
  apply List.ext_getElem
  · simp [h]
  · intro n h1 h2
    simp at h1
    have hn : n < 20 := by omega
    rw [List.getElem_drop]
    interval_cases n <;> simp [List.getD_eq_getElem?_getD, h]


/-- The range of each field of a rail profile as taken, written out (02 §2.1, R24). -/
theorem railTaken_sent (p : List Byte) : (railSent p).taken =
    { vbus := (max 600 (min 5000 (u16At p 1))) / 10 * 10, vok := max 10 (min 500 (u16At p 3)),
      i1 := min 12000 (u16At p 5), t1 := max 1 (u8At p 7), i2 := min 12000 (u16At p 8),
      rampMs := max 5 (min 2000 (u16At p 10)), iFast := max 100 (min 12000 (u16At p 12)),
      iAvg := min (max 100 (min 12000 (u16At p 14))) (max 100 (min 12000 (u16At p 12))), win := u8At p 16,
      offCode := min 63 (u8At p 17), retryLimit := min 15 (u8At p 18), stableS := max 1 (min 3600 (u16At p 19)) } := by
  have h7 := u8At_lt p 7
  simp only [RailProfile.taken, railSent, clampNat, RailProfile.mk.injEq, true_and, and_true]
  omega

theorem railTaken_bytes_eq_iff (p : List Byte) :
    (railSent p).taken.bytes = (railSent p).bytes ↔ (railSent p).taken = railSent p := by
  have h1 := u16At_lt p 1
  have h3 := u16At_lt p 3
  have h5 := u16At_lt p 5
  have h7 := u8At_lt p 7
  have h8 := u16At_lt p 8
  have h10 := u16At_lt p 10
  have h12 := u16At_lt p 12
  have h14 := u16At_lt p 14
  have h16 := u8At_lt p 16
  have h17 := u8At_lt p 17
  have h18 := u8At_lt p 18
  have h19 := u16At_lt p 19
  apply railProfile_bytes_inj
  · simp only [railTaken_sent]; omega
  · simp only [railSent]; omega

/-- The profile is stored, and each window of the zone keeps its newest samples (R24, R25). -/
theorem storeRail_sock (z : ZoneId) (p : RailProfile) (s : State) (i : SocketId) :
    (storeRail z p s).sock i = if zoneOf i = z then
        { s.sock i with rail := { (s.sock i).rail with
            window := (s.sock i).rail.window.drop ((s.sock i).rail.window.length - p.win) } }
      else s.sock i :=
  forEach_zoneSockets_sock (fun _ k => { k with rail := { k.rail with window := lastN p.win k.rail.window } }) z
    (modZone z (fun k => { k with railProf := some p }) s) i

theorem storeRail_frame (z : ZoneId) (p : RailProfile) (s : State) :
    storeRail z p s = { s with
      sockets := (storeRail z p s).sockets, zones := s.zones.set z { s.zone z with railProf := some p } } :=
  forEach_modSock_frame (fun _ k => { k with rail := { k.rail with window := lastN p.win k.rail.window } }) _ _

/-- The payload of ZONE-THERMAL after its zone byte is the byte string of the profile sent. -/
theorem thermalSent_bytes {p : List Byte} (h : p.length = 13) : (thermalSent p).bytes = p.drop 1 := by
  have hs : ∀ k, sbe2 (s16At p k) = [p.getD k 0, p.getD (k + 1) 0] := by
    intro k
    rw [sbe2, s16At, BitVec.ofInt_toInt, BitVec.toNat_ofNat, Nat.mod_eq_of_lt (u16At_lt p k), be2_u16At]
  simp only [ThermalProfile.bytes, thermalSent, be1_u8At, be2_u16At, hs]
  apply List.ext_getElem
  · simp [h]
  · intro n h1 h2
    simp at h1
    have hn : n < 12 := by omega
    rw [List.getElem_drop]
    interval_cases n <;> simp [List.getD_eq_getElem?_getD, h]

theorem s16At_range (p : List Byte) (k : Nat) : -32768 ≤ s16At p k ∧ s16At p k ≤ 32767 := by
  have h1 := BitVec.le_toInt (BitVec.ofNat 16 (u16At p k))
  have h2 := BitVec.toInt_lt (x := BitVec.ofNat 16 (u16At p k))
  unfold s16At
  omega

theorem sbe2_inj {a b : Int} (ha : -32768 ≤ a ∧ a ≤ 32767) (hb : -32768 ≤ b ∧ b ≤ 32767) (h : sbe2 a = sbe2 b) :
    a = b := by
  have h1 : (BitVec.ofInt 16 a).toNat = (BitVec.ofInt 16 b).toNat :=
    be2_inj (BitVec.ofInt 16 a).isLt (BitVec.ofInt 16 b).isLt h
  simp only [BitVec.toNat_ofInt] at h1
  omega

theorem thermalProfile_bytes_inj {p q : ThermalProfile}
    (hp : (-32768 ≤ p.setpoint ∧ p.setpoint ≤ 32767) ∧ p.rampRate < 256 ∧ p.inner < 256 ∧ p.outer < 256 ∧
      (-32768 ≤ p.limit ∧ p.limit ≤ 32767) ∧ p.kp < 256 ∧ p.ki < 256 ∧ p.kff < 256 ∧ p.base < 65536)
    (hq : (-32768 ≤ q.setpoint ∧ q.setpoint ≤ 32767) ∧ q.rampRate < 256 ∧ q.inner < 256 ∧ q.outer < 256 ∧
      (-32768 ≤ q.limit ∧ q.limit ≤ 32767) ∧ q.kp < 256 ∧ q.ki < 256 ∧ q.kff < 256 ∧ q.base < 65536) :
    p.bytes = q.bytes ↔ p = q := by
  refine ⟨fun h => ?_, fun h => h ▸ rfl⟩
  obtain ⟨a1, a2, a3, a4, a5, a6, a7, a8, a9⟩ := hp
  obtain ⟨b1, b2, b3, b4, b5, b6, b7, b8, b9⟩ := hq
  cases p; cases q
  have e2 : ∀ (a b : Int) (l m : List Byte), sbe2 a ++ l = sbe2 b ++ m → sbe2 a = sbe2 b ∧ l = m :=
    fun a b l m h => List.append_inj h rfl
  have e1 : ∀ (a b : Nat) (l m : List Byte), be1 a ++ l = be1 b ++ m → be1 a = be1 b ∧ l = m :=
    fun a b l m h => List.append_inj h rfl
  simp only [ThermalProfile.bytes, List.append_assoc] at h
  obtain ⟨h1, h⟩ := e2 _ _ _ _ h
  obtain ⟨h2, h⟩ := e1 _ _ _ _ h
  obtain ⟨h3, h⟩ := e1 _ _ _ _ h
  obtain ⟨h4, h⟩ := e1 _ _ _ _ h
  obtain ⟨h5, h⟩ := e2 _ _ _ _ h
  obtain ⟨h6, h⟩ := e1 _ _ _ _ h
  obtain ⟨h7, h⟩ := e1 _ _ _ _ h
  obtain ⟨h8, h9⟩ := e1 _ _ _ _ h
  rw [ThermalProfile.mk.injEq]
  exact ⟨sbe2_inj a1 b1 h1, be1_inj a2 b2 h2, be1_inj a3 b3 h3, be1_inj a4 b4 h4, sbe2_inj a5 b5 h5, be1_inj a6 b6 h6,
    be1_inj a7 b7 h7, be1_inj a8 b8 h8, be2_inj a9 b9 h9⟩

/-- The range of each field of a thermal profile as taken, written out (03 §3.1, R45). -/
theorem thermalTaken_sent (p : List Byte) : (thermalSent p).taken =
    { setpoint := max 250 (min 1800 (s16At p 1)), rampRate := max 1 (min 50 (u8At p 3)),
      inner := max 5 (min 100 (u8At p 4)), outer := max (max 5 (min 100 (u8At p 4))) (min 200 (u8At p 5)),
      limit := s16At p 6, kp := min 200 (u8At p 8), ki := min 100 (u8At p 9), kff := u8At p 10,
      base := min 1000 (u16At p 11) } := by
  have h10 := u8At_lt p 10
  simp only [ThermalProfile.taken, thermalSent, clampNat, clampInt, ThermalProfile.mk.injEq, true_and]
  omega

theorem thermalTaken_bytes_eq_iff (p : List Byte) :
    (thermalSent p).taken.bytes = (thermalSent p).bytes ↔ (thermalSent p).taken = thermalSent p := by
  have h1 := s16At_range p 1
  have h3 := u8At_lt p 3
  have h4 := u8At_lt p 4
  have h5 := u8At_lt p 5
  have h6 := s16At_range p 6
  have h8 := u8At_lt p 8
  have h9 := u8At_lt p 9
  have h10 := u8At_lt p 10
  have h11 := u16At_lt p 11
  apply thermalProfile_bytes_inj
  · simp only [thermalTaken_sent]; omega
  · simp only [thermalSent]; omega

/-- Settles O26: the checks pass, and the profile taken is the one written out. -/
theorem zoneProfilesStored : Obligations.ZoneProfilesStored := by
  refine ⟨?_, ?_⟩
  · intro f s z h hlen hz ha hh hw p fast w prof
    have hprof : (railSent p).taken = prof := railTaken_sent p
    have hst : (received s).started = false := (started_eq_false_iff s).mpr ⟨ha, hh⟩
    have hop : opZoneRail p (received s) =
        done ((railSent p).taken != railSent p) (storeRail z prof (received s)) (be1 z.val ++ prof.bytes) := by
      rw [opZoneRail, fixedLen_of_length hlen, hst, zoneArg_of_eq hz]
      simp only [Bool.false_eq_true, if_false]
      rw [← hprof]
      exact if_pos hw
    have hiff : ((railSent p).taken != railSent p) = false ↔ p.drop 1 = prof.bytes := by
      rw [← railSent_bytes hlen, ← hprof, bne_eq_false_iff_eq, ← railTaken_bytes_eq_iff, eq_comm]
    rw [done_eq _ _ hiff] at hop
    have hfr := storeRail_frame z prof (received s)
    have hl : (storeRail z prof (received s)).link = (received s).link := by rw [hfr]
    refine ⟨_, execFrame_answers h hop hl, ?_, fun i => storeRail_sock z prof (received s) i⟩
    exact congrArg (fun t : State => { t with
      link := answered 0x20 f (if p.drop 1 = prof.bytes then .ok else .clamped) (be1 z.val ++ prof.bytes) s.link }) hfr
  · intro f s z h hlen hz ha hh p sp inner h1 h2 h3 prof
    have hprof : (thermalSent p).taken = prof := thermalTaken_sent p
    have hst : (received s).started = false := (started_eq_false_iff s).mpr ⟨ha, hh⟩
    have hok : prof.limitOk = true := decide_eq_true ⟨h1, h2, h3⟩
    have hop : opZoneThermal p (received s) =
        done ((thermalSent p).taken != thermalSent p)
          (modZone z (fun k => { k with thermProf := some prof }) (received s)) (be1 z.val ++ prof.bytes) := by
      rw [opZoneThermal, fixedLen_of_length hlen, hst, zoneArg_of_eq hz]
      rw [← hprof] at hok ⊢
      exact if_pos hok
    have hiff : ((thermalSent p).taken != thermalSent p) = false ↔ p.drop 1 = prof.bytes := by
      rw [← thermalSent_bytes hlen, ← hprof, bne_eq_false_iff_eq, ← thermalTaken_bytes_eq_iff, eq_comm]
    rw [done_eq _ _ hiff] at hop
    exact execFrame_answers h hop rfl

/-! ## SETPOINT and SOCKET-THERMAL (R47, R49) -/

theorem storeSetpoint_sock (z : ZoneId) (p : ThermalProfile) (sp : Int) (s : State) (i : SocketId) :
    (storeSetpoint z p sp s).sock i =
      if zoneOf i = z ∧ sp ≠ p.setpoint ∧ ((s.sock i).therm.state = .inband ∨ (s.sock i).therm.state = .outband) then
        { s.sock i with therm := { (s.sock i).therm with state := .approach } }
      else s.sock i := by
  unfold storeSetpoint
  by_cases h : p.setpoint = sp
  · simp [h]
  · have hl := forEach_zoneSockets_sock (fun _ k => { k with therm :=
      (if k.therm.state = .inband ∨ k.therm.state = .outband then { k.therm with state := .approach } else k.therm) })
      z (modZone z (fun k => { k with thermProf := some { p with setpoint := sp } }) s) i
    rw [if_neg h]
    refine hl.trans ?_
    by_cases hz : zoneOf i = z
    · by_cases hb : (s.sock i).therm.state = .inband ∨ (s.sock i).therm.state = .outband
      · simp [hz, hb, Ne.symm h]
      · simp [hz, hb]
    · simp [hz]

theorem storeSetpoint_frame (z : ZoneId) (p : ThermalProfile) (sp : Int) (s : State) :
    storeSetpoint z p sp s = { s with
      sockets := (storeSetpoint z p sp s).sockets
      zones := s.zones.set z { s.zone z with thermProf := some { p with setpoint := sp } } } := by
  unfold storeSetpoint
  split
  · rfl
  · exact forEach_modSock_frame (fun _ k => { k with therm :=
      (if k.therm.state = .inband ∨ k.therm.state = .outband then { k.therm with state := .approach } else k.therm) }) _ _

/-- Settles O28: the setpoint is stored or refused by the trip limit; trim and rating are stored as clamped. -/
theorem setpointReplacesTheSetpoint : Obligations.SetpointReplacesTheSetpoint := by
  refine ⟨?_, ?_⟩
  · intro f s z p h hlen hz hp sent sp
    have hop : opSetpoint f.payload (received s) =
        if p.limit - 50 < sp then refuse .badValue (received s)
        else done (sp != sent) (storeSetpoint z p sp (received s)) (be1 z.val ++ sbe2 sp) := by
      rw [opSetpoint, fixedLen_of_length hlen, zoneArg_of_eq hz]
      simp only [received_zone, hp]
      rfl
    show ∃ t, execFrame 0x23 opSetpoint f s = .next t ∧ _
    by_cases hlim : p.limit - 50 < sp
    · rw [if_pos hlim] at hop
      exact ⟨_, execFrame_refuses h hop, fun _ => rfl, fun hle => absurd hle (by omega)⟩
    · rw [if_neg hlim, done_eq (a := sp = sent) _ _ (by simp)] at hop
      have hfr := storeSetpoint_frame z p sp (received s)
      refine ⟨_, execFrame_answers h hop (by rw [hfr]), fun hgt => absurd hgt hlim, fun _ => ⟨?_, fun i => ?_⟩⟩
      · exact congrArg (fun t : State => { t with
          link := answered 0x23 f (if sp = sent then .ok else .clamped) (be1 z.val ++ sbe2 sp) s.link }) hfr
      · exact storeSetpoint_sock z p sp (received s) i
  · intro f s i b hi lo h hp rated trim rating
    have hlen : f.payload.length = 4 := by rw [hp]; rfl
    have harg : socketArg f.payload 0 = some i := socketArg_of_eq (by rw [hp]; exact toNat_ofNat_socket i)
    have htrim : s8At f.payload 1 = b.toInt := by rw [hp]; rfl
    have hrated : u16At f.payload 2 = rated := by rw [hp]; rfl
    have hop : opSocketThermal f.payload (received s) =
        done (trim != b.toInt || rating != rated)
          (modTherm i (fun t => { t with trim := trim, rating := rating }) (received s))
          (be1 i.val ++ sbe1 trim ++ be2 rating) := by
      rw [opSocketThermal, fixedLen_of_length hlen, harg, htrim, hrated]
      rfl
    rw [done_eq (a := trim = b.toInt ∧ rating = rated) _ _ (by simp)] at hop
    exact execFrame_answers h hop rfl

/-! ## ZONE-BUDGET (R70, R71, R77) -/

/-- The DUT figures of a zone are read from its sockets' rails alone. -/
theorem dutSum_congr {s t : State} {z : ZoneId} (h : ∀ i, zoneOf i = z → (t.sock i).rail.power = (s.sock i).rail.power) :
    t.dutSum z = s.dutSum z :=
  congrArg List.sum (List.map_congr_left fun i hi => h i ((mem_zoneSockets z i).mp hi))

/-- The over-budget tests, case by case in one equation (R75, R76). -/
theorem budgetTest_eq (z : ZoneId) (s : State) : budgetTest z s = { s with
    zones := s.zones.set z { s.zone z with
      armed := if (s.zone z).armed then decide (s.dutSum z ≤ (s.zone z).budget)
        else decide (s.dutSum z ≤ rearmLevel (s.zone z).budget) }
    notices := if (s.zone z).armed = true ∧ (s.zone z).budget < s.dutSum z then
        routineAfter ⟨.zone z, s.run.clock, .budgetOver (s.dutSum z) (s.zone z).budget⟩ s.notices
      else s.notices } := by
  have hself : ∀ b, (s.zone z).armed = b → s.zones.set z { s.zone z with armed := b } = s.zones := by
    intro b hb
    subst hb
    exact Vector.set_getElem_self _
  unfold budgetTest
  by_cases ha : (s.zone z).armed = true
  · by_cases hd : s.dutSum z > (s.zone z).budget
    · have hle : ¬ s.dutSum z ≤ (s.zone z).budget := by omega
      simp only [ha, hd, hle, if_true, and_self, decide_false]
      rfl
    · have hle : s.dutSum z ≤ (s.zone z).budget := by omega
      simp only [ha, hd, hle, if_true, if_false, and_false, decide_true, hself true ha]
  · have hf : (s.zone z).armed = false := by simpa using ha
    by_cases hd : s.dutSum z ≤ rearmLevel (s.zone z).budget
    · simp only [hf, hd, if_true, Bool.false_eq_true, false_and, if_false, decide_true]
      rfl
    · simp only [hf, hd, Bool.false_eq_true, false_and, if_false, decide_false, hself false hf]

theorem cutZone_sock (z : ZoneId) (s : State) (i : SocketId) :
    (forEach (zoneSockets z) (fun i => modTherm i Thermal.cut) s).sock i =
      if zoneOf i = z then { s.sock i with therm := (s.sock i).therm.cut } else s.sock i :=
  forEach_zoneSockets_sock (fun _ k => { k with therm := k.therm.cut }) z s i

theorem cutZone_frame (z : ZoneId) (s : State) :
    forEach (zoneSockets z) (fun i => modTherm i Thermal.cut) s =
      { s with sockets := (forEach (zoneSockets z) (fun i => modTherm i Thermal.cut) s).sockets } :=
  forEach_modSock_frame (fun _ k => { k with therm := k.therm.cut }) _ s

/-- The zone's heaters as a new budget leaves them: cut where it is lower than the old one (R70). -/
def budgetCut (z : ZoneId) (b : Nat) (s : State) : State :=
  if b < (s.zone z).budget then
    forEach (zoneSockets z) (fun i => modTherm i Thermal.cut) (modZone z (fun k => { k with budget := b }) s)
  else modZone z (fun k => { k with budget := b }) s

theorem storeBudget_eq (z : ZoneId) (b : Nat) (s : State) : storeBudget z b s = budgetTest z (budgetCut z b s) := rfl

theorem budgetCut_sock (z : ZoneId) (b : Nat) (s : State) (i : SocketId) :
    (budgetCut z b s).sock i = if zoneOf i = z ∧ b < (s.zone z).budget then
        { s.sock i with therm := { (s.sock i).therm with duty := 0, grant := 0, sat := .none } }
      else s.sock i := by
  unfold budgetCut
  by_cases hb : b < (s.zone z).budget
  · rw [if_pos hb, cutZone_sock]; simp [hb, Thermal.cut]
  · simp [hb]

theorem budgetCut_frame (z : ZoneId) (b : Nat) (s : State) :
    budgetCut z b s = { s with
      sockets := (budgetCut z b s).sockets, zones := s.zones.set z { s.zone z with budget := b } } := by
  unfold budgetCut
  split
  · exact cutZone_frame z _
  · rfl

theorem budgetCut_zone (z : ZoneId) (b : Nat) (s : State) :
    (budgetCut z b s).zone z = { s.zone z with budget := b } := by
  have h : (budgetCut z b s).zone z = (modZone z (fun k => { k with budget := b }) s).zone z := by
    rw [budgetCut_frame]; rfl
  rw [h, modZone_zone_self]

theorem budgetCut_dutSum (z : ZoneId) (b : Nat) (s : State) : (budgetCut z b s).dutSum z = s.dutSum z := by
  refine dutSum_congr fun i _ => ?_
  rw [budgetCut_sock]; split <;> rfl

theorem storeBudget_frame (z : ZoneId) (b : Nat) (s : State) :
    storeBudget z b s = { s with
      sockets := (storeBudget z b s).sockets
      zones := s.zones.set z { s.zone z with
        budget := b
        armed := if (s.zone z).armed then decide (s.dutSum z ≤ b) else decide (s.dutSum z ≤ b * 95 / 100) }
      notices := if (s.zone z).armed = true ∧ b < s.dutSum z then
          routineAfter ⟨.zone z, s.run.clock, .budgetOver (s.dutSum z) b⟩ s.notices else s.notices } := by
  have hsock : (storeBudget z b s).sockets = (budgetCut z b s).sockets := by rw [storeBudget_eq, budgetTest_eq]
  have hzones : (budgetCut z b s).zones = s.zones.set z { s.zone z with budget := b } := by rw [budgetCut_frame]
  have hrun : (budgetCut z b s).run = s.run := by rw [budgetCut_frame]
  have hnot : (budgetCut z b s).notices = s.notices := by rw [budgetCut_frame]
  rw [hsock, storeBudget_eq, budgetTest_eq, budgetCut_dutSum, budgetCut_zone, hzones, hrun, hnot, Vector.set_set]
  rw [budgetCut_frame]
  rfl

theorem storeBudget_sock (z : ZoneId) (b : Nat) (s : State) (i : SocketId) :
    (storeBudget z b s).sock i = (budgetCut z b s).sock i := by
  rw [storeBudget_eq, budgetTest_eq]; rfl

/-- Settles O29: the cut of a lowered budget, and then the two tests against the new one. -/
theorem zoneBudgetStored : Obligations.ZoneBudgetStored := by
  intro f s z hi lo h hp sent b excess
  have hlen : f.payload.length = 3 := by rw [hp]; rfl
  have hz : zoneArg f.payload 0 = some z := zoneArg_of_eq (by rw [hp]; exact toNat_ofNat_zone z)
  have hsent : u16At f.payload 1 = sent := by rw [hp]; rfl
  have hop : opZoneBudget f.payload (received s) =
      done (b != sent) (storeBudget z b (received s)) (be1 z.val ++ be2 b) := by
    rw [opZoneBudget, fixedLen_of_length hlen, hz, hsent]; rfl
  rw [done_eq (a := b = sent) _ _ (by simp)] at hop
  have hfr := storeBudget_frame z b (received s)
  refine ⟨_, execFrame_answers h hop (by rw [hfr]), ?_, fun i => ?_⟩
  · exact congrArg (fun t : State => { t with
      link := answered 0x24 f (if b = sent then .ok else .clamped) (be1 z.val ++ be2 b) s.link }) hfr
  · exact (storeBudget_sock z b (received s) i).trans (budgetCut_sock z b (received s) i)

end Sys2Proof.Proofs.Settings

/-! Vectors and their slots: a slot spells its vector back, and the parity bit makes the number of ones even. A chunk
copied into the pattern memory, and what the resets leave. -/

namespace Sys2Proof.Proofs.Slots

open Sys2Proof.Machine Sys2Proof.Safety

/-! ## Parity (R79) -/

theorem foldl_xor_start {α : Type} (f : α → Bool) (l : List α) (a : Bool) :
    l.foldl (fun p k => p ^^ f k) a = (a ^^ l.foldl (fun p k => p ^^ f k) false) := by
  induction l generalizing a with
  | nil => simp
  | cons x l ih => rw [List.foldl_cons, ih, List.foldl_cons, ih (false ^^ f x)]; simp

/-- A bit put below a word counts with the ones of the word. -/
theorem oddOnes_append_ofBool {n : Nat} (b : BitVec n) (p : Bool) : oddOnes (b ++ BitVec.ofBool p) = (p ^^ oddOnes b) := by
  unfold oddOnes
  rw [List.range_succ_eq_map, List.foldl_cons, foldl_xor_start, List.foldl_map]
  have h0 : (b ++ BitVec.ofBool p).getLsbD 0 = p := by simp [BitVec.getElem_append]
  have hs : ∀ k, (b ++ BitVec.ofBool p).getLsbD k.succ = b.getLsbD k := by intro k; simp [BitVec.getLsbD_append]
  simp only [h0, hs, Bool.false_bne]

/-- A stored slot passes its parity test. -/
theorem parityBad_slotOf (v : Vec) : parityBad (slotOf v) = false := by
  unfold parityBad slotOf
  rw [oddOnes_append_ofBool]
  simp

/-! ## A slot spells its vector -/

theorem vecOf_slotOf (v : Vec) : vecOf (slotOf v) = v := by
  obtain ⟨drive, expect, mask, strobe, loopMark, loopBack, last⟩ := v
  simp only [vecOf, slotOf, Vec.content, Vec.flagBits, Vec.mk.injEq]
  refine ⟨?_, ?_, ?_, ?_, ?_, ?_, ?_⟩
  · apply BitVec.eq_of_getLsbD_eq
    intro k hk
    simp only [BitVec.getLsbD_extractLsb', BitVec.getLsbD_append, hk, decide_true, Bool.true_and]
    rw [if_neg (by omega), if_neg (by omega), if_neg (by omega), if_neg (by omega)]
    congr 1; omega
  · apply BitVec.eq_of_getLsbD_eq
    intro k hk
    simp only [BitVec.getLsbD_extractLsb', BitVec.getLsbD_append, hk, decide_true, Bool.true_and]
    rw [if_neg (by omega), if_neg (by omega), if_neg (by omega), if_pos (by omega)]
    congr 1; omega
  · apply BitVec.eq_of_getLsbD_eq
    intro k hk
    simp only [BitVec.getLsbD_extractLsb', BitVec.getLsbD_append, hk, decide_true, Bool.true_and]
    rw [if_neg (by omega), if_neg (by omega), if_pos (by omega)]
    congr 1; omega
  all_goals
    simp only [BitVec.getLsbD_append, BitVec.getLsbD_ofBool]
    simp

/-! ## A chunk in the memory (R83) -/

/-- The slots of the copied vectors hold them with even parity, and every other slot reads as it did. -/
theorem memRead_copyChunk_spec (n : Nat) (c : Chunk) (m : List (Nat × Slot)) (h : Memory.wf m = true) :
    (∀ k < n, ∀ v ∈ c.vecs[k]?, vecOf (memRead (copyChunk n c m) (slotAddr c.page (c.first + k))) = v ∧
      parityBad (memRead (copyChunk n c m) (slotAddr c.page (c.first + k))) = false) ∧
    ∀ a, (∀ k < min n c.vecs.length, a ≠ slotAddr c.page (c.first + k)) →
      memRead (copyChunk n c m) a = memRead m a := by
  refine ⟨fun k hk v hv => ?_, fun a ha => ?_⟩
  · have hv' : c.vecs[k]? = some v := hv
    have hlen : k < c.vecs.length := (List.getElem?_eq_some_iff.mp hv').1
    have hread : memRead (copyChunk n c m) (slotAddr c.page (c.first + k)) = slotOf v := by
      rw [memRead_copyChunk n c m _ h, if_pos (by unfold slotAddr; omega)]
      rw [show slotAddr c.page (c.first + k) - slotAddr c.page c.first = k by unfold slotAddr; omega]
      simp [List.getD_eq_getElem?_getD, hk, hv']
    rw [hread]
    exact ⟨vecOf_slotOf v, parityBad_slotOf v⟩
  · rw [memRead_copyChunk n c m a h, if_neg]
    rintro ⟨h1, h2⟩
    refine ha (a - slotAddr c.page c.first) (by omega) ?_
    unfold slotAddr at h1 h2 ⊢
    omega

/-- Settles O45: the release of the port touches neither the memory nor the staging buffer. -/
theorem stagingWriteStoresTheVectors : Obligations.StagingWriteStoresTheVectors := by
  intro s c hport hst hwf
  have hexec : exec .stagingWriteDone s =
      .next (releasePort (modStore (writeChunk c) (advanceTo s.store.portEnd s))) := by
    show execStagingWriteDone s = _
    rw [execStagingWriteDone, hport, hst]
  obtain ⟨p, e, w, a, b, harb⟩ :=
    arbitrate_frame (modStore (fun st => { st with port := none }) (modStore (writeChunk c) (advanceTo s.store.portEnd s)))
  have hmem : ∀ t, t = releasePort (modStore (writeChunk c) (advanceTo s.store.portEnd s)) →
      t.store.mem = copyChunk c.vecs.length c s.store.mem := by
    rintro t rfl; rw [releasePort, harb]; rfl
  have hspec := memRead_copyChunk_spec c.vecs.length c s.store.mem hwf
  refine ⟨_, hexec, ?_, ?_, ?_, ?_⟩
  · rw [releasePort, harb]; rfl
  · rw [hmem _ rfl]; exact hspec.1
  · rw [hmem _ rfl]; intro a ha; exact hspec.2 a (by rwa [min_self])
  · rw [releasePort, harb]; exact ⟨rfl, rfl, rfl⟩

end Sys2Proof.Proofs.Slots

/-! What power-on, RESETN and the two scopes of BOARD-RESET leave, block by block, and the output pins. -/

namespace Sys2Proof.Proofs.Resets

open Sys2Proof.Machine Sys2Proof.Safety Sys2Proof.Proofs.PatternStore Sys2Proof.Proofs.Requests Sys2Proof.Proofs.Slots

/-! ## Reading the tables of a reset -/

theorem replicate_sock {s : State} (h : s.sockets = Vector.replicate 32 Socket.init) (i : SocketId) :
    s.sock i = Socket.init := by
  simp [State.sock, h]

theorem replicate_zone {s : State} (h : s.zones = Vector.replicate 4 Zone.init) (z : ZoneId) : s.zone z = Zone.init := by
  simp [State.zone, h]

/-- Every block at its power-on record is at its power-on values. -/
theorem blocksFresh_of_init {s : State} (hr : s.run = Run.init) (hk : s.sockets = Vector.replicate 32 Socket.init)
    (hz : s.zones = Vector.replicate 4 Zone.init) (hn : s.notices = NoticeQueue.init) : BlocksFresh s := by
  refine ⟨?_, fun i => ?_, fun z => ?_, ?_⟩
  · rw [hr]; exact ⟨rfl, rfl, rfl, rfl, rfl, rfl, rfl, rfl, rfl⟩
  · rw [replicate_sock hk]; exact ⟨⟨rfl, rfl, rfl, rfl, rfl⟩, rfl, rfl⟩
  · rw [replicate_zone hz]
    exact ⟨rfl, rfl, rfl, rfl, rfl, rfl, rfl, rfl, rfl, rfl, rfl, rfl, rfl, rfl, rfl, rfl, rfl, rfl, rfl⟩
  · rw [hn]; exact ⟨rfl, rfl, rfl, rfl⟩

theorem linkFresh_ofStraps (slot : BitVec 5) (rate : BitVec 2) : LinkFresh slot rate (Link.ofStraps slot rate) :=
  ⟨rfl, rfl, rfl, rfl, rfl, rfl, rfl⟩

theorem store_init_page {s : State} (h : s.store = Store.init) (pg : PageId) : s.page pg = Page.init := by
  simp [State.page, h, Store.init]

theorem store_init_program {s : State} (h : s.store = Store.init) (k : ProgId) : s.program k = none := by
  simp [State.program, h, Store.init]

/-- A state of power-on records, the straps and the queue aside, is at its power-on values. -/
theorem atPowerOn_of_init {s : State} {slot : BitVec 5} {rate : BitVec 2} (hr : s.run = Run.init)
    (hk : s.sockets = Vector.replicate 32 Socket.init) (hz : s.zones = Vector.replicate 4 Zone.init)
    (hn : s.notices = NoticeQueue.init) (hl : s.link = Link.ofStraps slot rate) (hst : s.store = Store.init) :
    AtPowerOn slot rate s := by
  refine ⟨blocksFresh_of_init hr hk hz hn, hl ▸ linkFresh_ofStraps slot rate, ?_, store_init_program hst, fun pg => ?_⟩
  · rw [hst]; exact ⟨rfl, rfl, rfl, rfl, rfl⟩
  · rw [store_init_page hst]; exact ⟨rfl, rfl, rfl, rfl⟩

/-- Settles O6: State.reset and POWER_ON build the same tables. -/
theorem powerOnValues : Obligations.PowerOnValues := by
  refine ⟨⟨atPowerOn_of_init rfl rfl rfl rfl rfl rfl, rfl⟩, fun slot rate s => ?_⟩
  exact ⟨_, rfl, atPowerOn_of_init rfl rfl rfl rfl rfl rfl, rfl, rfl, rfl⟩

/-! ## RESETN and BOARD-RESET (R22, R23, R100, R178) -/

theorem atReset_page {s t : State} (h : t.store = s.store.atReset s.now) (pg : PageId) :
    t.page pg = if (s.page pg).state = .opened then
        { state := .free, cursor := 0, crc := 0xFFFF, count := none, refs := (s.page pg).refs }
      else s.page pg := by
  simp only [State.page, h, Store.atReset, Fin.getElem_fin, Vector.getElem_map, Page.atReset]
  rfl

/-- What every reset but power-on leaves of the pattern store. -/
theorem storeKept_of_atReset {s t : State} (h : t.store = s.store.atReset s.now) : StoreKept s t := by
  have hmem : t.store.mem = s.store.memAtReset s.now := by rw [h]; rfl
  refine ⟨by rw [h]; exact ⟨rfl, rfl, rfl, rfl, rfl⟩, by rw [h]; rfl, atReset_page h, fun hno => ?_, fun c hp hc hwf => ?_⟩
  · rw [hmem, Store.memAtReset]
    split
    · rename_i hp hc
      rcases hno with hno | hno
      · exact absurd hp hno
      · rw [hno] at hc; cases hc
    · rfl
  · have hcopy : t.store.mem = copyChunk (s.store.copiedBy s.now c.vecs.length) c s.store.mem := by
      rw [hmem, Store.memAtReset, hp, hc]
    have hspec := memRead_copyChunk_spec (s.store.copiedBy s.now c.vecs.length) c s.store.mem hwf
    refine ⟨fun k hk v hv => ?_, fun a ha => ?_⟩
    · have hlen : k < c.vecs.length := (List.getElem?_eq_some_iff.mp hv).1
      rw [hcopy]
      exact hspec.1 k (by unfold Store.copiedBy; omega) v hv
    · rw [hcopy]
      exact hspec.2 a fun k hk => ha k (by unfold Store.copiedBy at hk; omega)

/-- Settles O7: the blocks at their power-on records, the store as its reset column has it. -/
theorem resetnAndItsRelease : Obligations.ResetnAndItsRelease := by
  refine ⟨fun s => ⟨_, rfl, blocksFresh_of_init rfl rfl rfl rfl, storeKept_of_atReset rfl, rfl, rfl, rfl, rfl, rfl⟩,
    fun slot rate s => ?_⟩
  show ∃ t, execResetnRelease slot rate s = .next t ∧ _
  unfold execResetnRelease
  cases h : s.link.inReset with
  | true => exact ⟨_, rfl, fun _ => ⟨linkFresh_ofStraps slot rate, rfl⟩, Bool.noConfusion⟩
  | false => exact ⟨_, rfl, Bool.noConfusion, fun _ => rfl⟩

theorem taken_straps {kind : Byte} {f : Frame} {s : State} (x : Straps) (h : Taken kind f s) :
    Taken kind f { s with straps := x } := h

/-- BOARD-RESET FULL as its owner answers it: every block reset and the straps read. -/
def fullResetRead (s : State) : State := { fullReset s with link := Link.ofStraps s.straps.slot s.straps.rate }

theorem opBoardReset_full {p : List Byte} (hp : p = [1]) (s : State) :
    opBoardReset p s = (fullResetRead s, ⟨.ok, []⟩) := by
  subst hp; rfl

theorem opBoardReset_run {p : List Byte} (hp : p = [0]) (s : State) : opBoardReset p s = (runReset s, ⟨.ok, []⟩) := by
  subst hp; rfl

/-- A taken BOARD-RESET FULL: a reply, if one is built, goes out under the address just read (R178). -/
theorem execFrame_fullReset {f : Frame} {s : State} (h : Taken 0x04 f s) (hp : f.payload = [1]) :
    execFrame 0x04 opBoardReset f s = .next { fullResetRead s with
      link := if f.addr = 0 then Link.ofStraps s.straps.slot s.straps.rate
        else answered 0x04 f .ok [] (Link.ofStraps s.straps.slot s.straps.rate) } := by
  obtain h | ⟨h, ha⟩ := h
  · have hne : f.addr ≠ 0 := by
      obtain ⟨-, hslot, hz⟩ := h
      rw [hslot]; exact slot_zeroExtend_ne_zero hz
    rw [execFrame, takeFrame_addressed _ h, ← received, opBoardReset_full hp, if_neg hne]
    rfl
  · rw [execFrame, takeFrame_broadcast h ha (by decide), opBoardReset_full hp, if_pos ha]
    rfl

theorem zones_map_zone {s t : State} {f : Zone → Zone} (h : t.zones = s.zones.map f) (z : ZoneId) :
    t.zone z = f (s.zone z) := by
  simp [State.zone, h]

theorem sockets_ofFn_sock {t : State} {f : SocketId → Socket} (h : t.sockets = Vector.ofFn f) (i : SocketId) :
    t.sock i = f i := by
  simp [State.sock, h]

theorem sockets_map_sock {s t : State} {f : Socket → Socket} (h : t.sockets = s.sockets.map f) (i : SocketId) :
    t.sock i = f (s.sock i) := by
  simp [State.sock, h]

theorem offTimerKept_eq (s : State) (i : SocketId) : s.offTimerKept i =
    if (s.sock i).rail.state = .rest then (s.sock i).rail.offTimer
    else if (s.sock i).rail.state = .ramp1 ∨ (s.sock i).rail.state = .ramp2 ∨ (s.sock i).rail.state = .on then
      s.offTimerNow i
    else none := by
  unfold State.offTimerKept
  cases (s.sock i).rail.state <;> simp

theorem playFresh_init (k : Zone) (h : k.seq = Seq.init) (hc : k.chk = CheckZone.init) : PlayFresh k := by
  unfold PlayFresh
  rw [h, hc]
  exact ⟨rfl, rfl, rfl, rfl, rfl, rfl, rfl, rfl, rfl, rfl, rfl, rfl, rfl, rfl⟩

/-- Settles O8: FULL is RESETN with the straps read; RUN keeps what its columns keep. -/
theorem boardResetByScope : Obligations.BoardResetByScope := by
  refine ⟨fun f slot rate s h hp => ?_, fun f s h hp => ?_⟩
  · have hexec := execFrame_fullReset (taken_straps ⟨slot, rate⟩ h) hp
    exact ⟨_, Link.ofStraps slot rate, hexec, blocksFresh_of_init rfl rfl rfl rfl, storeKept_of_atReset rfl,
      linkFresh_ofStraps slot rate, rfl, rfl, rfl, rfl, rfl⟩
  · have hexec := execFrame_taken h (by decide) (opBoardReset_run hp (received s)) rfl
    refine ⟨_, hexec, rfl, fun i => ?_, fun z => ?_, storeKept_of_atReset rfl, ⟨rfl, rfl, rfl, rfl⟩, rfl, rfl, rfl, rfl,
      rfl⟩
    · have hsock := sockets_ofFn_sock (t := { runReset (received s) with link := afterTaken 0x04 f .ok [] s.link })
        (f := fun i => (s.sock i).runReset (s.offTimerKept i)) rfl i
      rw [hsock]
      exact ⟨⟨rfl, rfl, rfl, rfl, rfl⟩, by rw [Socket.runReset, offTimerKept_eq]; rfl, rfl⟩
    · have hzone := zones_map_zone (s := s)
        (t := { runReset (received s) with link := afterTaken 0x04 f .ok [] s.link }) (f := Zone.runReset) rfl z
      rw [hzone]
      exact ⟨playFresh_init _ rfl rfl, rfl⟩

/-! ## The output pins (00 §0.4) -/

section
variable {s : State} {i : SocketId}

theorem railen_of_down (h : (s.sock i).rail.state = .off ∨ (s.sock i).rail.state = .queued ∨
    (s.sock i).rail.state = .rest) : railen s i = .opened := by
  unfold railen
  rcases h with h | h | h <;> rw [h]

theorem railen_of_on (h : (s.sock i).rail.state = .on) : railen s i = .closed := by
  unfold railen; rw [h]

theorem railen_of_ramp1 {p : RailProfile} (hp : (s.zone (zoneOf i)).railProf = some p)
    (h : (s.sock i).rail.state = .ramp1) : railen s i = .limited p.i1 := by
  unfold railen; rw [h, hp]

theorem railen_of_ramp2 {p : RailProfile} (hp : (s.zone (zoneOf i)).railProf = some p)
    (h : (s.sock i).rail.state = .ramp2) : railen s i = if p.i2 = 0 then .closed else .limited p.i2 := by
  unfold railen; rw [h, hp]

theorem railen_of_inhibited (hl : RailLaws s) (h : (s.sock i).rail.inhibit.isEmpty = false) : railen s i = .opened := by
  obtain ⟨-, -, h3⟩ := hl
  rcases h3 i h with h | h
  · exact railen_of_down (.inl h)
  · exact railen_of_down (.inr (.inr h))

end

/-- The pins that a reset puts at rest. -/
def PinsAtRest (t : State) : Prop :=
  (∀ i, railen t i = .opened ∧ heat t i = 0 ∧ dutReset t i = false) ∧ (∀ z, drive t z = 0) ∧
    attention t = false ∧ driverEnable t = false

/-- Fresh rails, heaters, heartbeats, sequencers and lanes put every pin but the driver's at rest. -/
theorem pinsAtRest_of {t : State} (hk : ∀ i, (t.sock i).rail.state = .off ∧ (t.sock i).therm.duty = 0 ∧
    (t.sock i).live.state = .idle) (hz : ∀ z, (t.zone z).seq.drive = 0) (hn : t.notices.urgent = [])
    (hl : t.link.replyState ≠ .sending) : PinsAtRest t := by
  refine ⟨fun i => ⟨railen_of_down (.inl (hk i).1), (hk i).2.1, ?_⟩, hz, ?_, ?_⟩
  · rw [dutReset, (hk i).2.2]; rfl
  · rw [attention, hn]; rfl
  · simpa [driverEnable] using hl

theorem pinsAtRest_of_blocksFresh {t : State} (h : BlocksFresh t) (hl : t.link.replyState ≠ .sending) : PinsAtRest t := by
  obtain ⟨-, hk, hz, hn⟩ := h
  refine pinsAtRest_of (fun i => ?_) (fun z => ?_) hn.1 hl
  · obtain ⟨⟨-, -, hlive, -⟩, hrail, htherm⟩ := hk i
    rw [hlive, hrail, htherm]
    exact ⟨rfl, rfl, rfl⟩
  · obtain ⟨-, -, -, -, -, -, -, -, -, -, -, -, -, -, -, -, -, hd, -⟩ := hz z
    exact hd

theorem answered_not_sending (kind : Byte) (f : Frame) (st : Status) (data : List Byte) (l : Link) :
    (answered kind f st data l).replyState ≠ .sending := by simp [answered]

theorem be2_crc (x : BitVec 16) : be2 x.toNat = [x.extractLsb' 8 8, x.extractLsb' 0 8] := by
  unfold be2
  congr 1
  apply BitVec.eq_of_toNat_eq
  simp [BitVec.extractLsb'_toNat, Nat.shiftRight_eq_div_pow]

/-- Settles O2: each pin by the state it follows, and the resets by what they leave. -/
theorem outputPinsFollowTheState : Obligations.OutputPinsFollowTheState := by
  refine ⟨fun s i => ⟨railen_of_down, fun p hp => railen_of_ramp1 hp, fun p hp => railen_of_ramp2 hp, railen_of_on,
    railen_of_inhibited, rfl, fun h5 hc => (h5 i hc).1, by simp [dutReset]⟩, fun s => ⟨by simp [driverEnable], ?_, ?_, ?_⟩,
    fun c s hc => ?_⟩
  · rintro ⟨-, -, -, -, -, h6, -⟩ hin
    refine ⟨?_, ?_⟩
    · rw [driverEnable, (h6 hin).2]; rfl
    · simp [attention, hin]
  · intro h
    have hd : driverEnable s = false := by simpa [driverEnable] using h
    simp [lineSent, hd]
  · intro r hr hs
    have hd : driverEnable s = true := by simpa [driverEnable] using hs
    simp [lineSent, hd, hr, Reply.wire, replyCovered, be2_crc]
  · show ∃ t, exec c s = .next t ∧ PinsAtRest t
    rcases hc with ⟨slot, rate, rfl⟩ | rfl | ⟨f, ht, h⟩
    · exact ⟨_, rfl, pinsAtRest_of_blocksFresh (blocksFresh_of_init rfl rfl rfl rfl) (by simp [State.poweredOn, Link.ofStraps])⟩
    · exact ⟨_, rfl, pinsAtRest_of_blocksFresh (blocksFresh_of_init rfl rfl rfl rfl) (by simp)⟩
    · rcases h with ⟨rfl, hp⟩ | ⟨slot, rate, rfl, hp⟩
      · obtain ⟨t, hex, -, hk, hz, -, hn, hl, -⟩ := boardResetByScope.2 f s ht hp
        refine ⟨t, hex, pinsAtRest_of (fun i => ?_) (fun z => ?_) hn.1 ?_⟩
        · obtain ⟨⟨-, -, hlive, -⟩, hrail, htherm⟩ := hk i
          rw [hlive, hrail, htherm]
          exact ⟨rfl, rfl, rfl⟩
        · obtain ⟨⟨-, -, -, -, -, -, -, -, -, -, -, -, hd, -⟩, -⟩ := hz z
          exact hd
        · have hopen : s.link.replyState ≠ .sending := by
            rcases ht with ht | ht
            · exact ht.1.2.1
            · exact ht.1.2.1
          rw [hl, afterTaken]
          split
          · rw [unanswered]; dsimp only; split <;> simp_all
          · exact answered_not_sending _ _ _ _ _
      · obtain ⟨t, l, hex, hb, -, hfresh, hl, -⟩ := boardResetByScope.1 f slot rate s ht hp
        refine ⟨t, hex, pinsAtRest_of_blocksFresh hb ?_⟩
        obtain ⟨-, -, -, -, -, hrs, -⟩ := hfresh
        rw [hl]
        split
        · rw [hrs]; decide
        · exact answered_not_sending _ _ _ _ _

end Sys2Proof.Proofs.Resets

/-! The line: the frames as one command of their kind, the characters that make a frame, and the events that move the
receiver and the reply. -/

namespace Sys2Proof.Proofs.Line

open Sys2Proof.Machine Sys2Proof.Safety Sys2Proof.Proofs.PatternStore Sys2Proof.Proofs.Requests

/-! ## Every frame command is the frame of its kind (11 §11.3) -/

/-- A command that brings a frame does what the owner of the frame's kind does; BOARD_RESET_FULL moves the strap pins
first. -/
theorem exec_of_requestOf {c : Instr} {kind : Byte} {f : Frame} (h : requestOf c = some (kind, f)) (s : State) :
    ∃ x, exec c s = execFrame kind (kindOp kind) f { s with straps := x } ∧
      ((∀ g slot rate, c ≠ .boardResetFull g slot rate) → x = s.straps) := by
  cases c <;> simp only [requestOf, Option.some.injEq, Prod.mk.injEq, reduceCtorEq] at h <;> obtain ⟨rfl, rfl⟩ := h
  case boardResetFull f slot rate => exact ⟨⟨slot, rate⟩, rfl, fun hne => absurd rfl (hne _ _ _)⟩
  all_goals exact ⟨s.straps, rfl, fun _ => rfl⟩

theorem isOpen_iff (l : Link) : l.isOpen = true ↔ l.inReset = false ∧ l.replyState ≠ .sending := by
  simp [Link.isOpen]

theorem takeFrame_closed {kind : Byte} {op : Op} {f : Frame} {s : State} (h : s.link.isOpen = false) :
    takeFrame kind op f s = s := by
  simp [takeFrame, h]

theorem takeFrame_open {kind : Byte} {op : Op} {f : Frame} {s : State} (h : s.link.isOpen = true)
    (hlen : f.payload.length ≤ 250) : takeFrame kind op f s = judged kind op f (received s) := by
  rw [takeFrame, if_pos h]
  exact if_neg (by omega)

theorem kindOp_unknown {kind : Byte} (h : kind ∉ requestKinds) : kindOp kind = opUnknown := by
  simp only [requestKinds, List.mem_cons, List.not_mem_nil, or_false, not_or] at h
  simp only [kindOp, h, if_false]

/-! ## Events of the line (R171 to R178) -/

theorem modLink_eq (g : Link → Link) (s : State) : modLink g s = { s with link := g s.link } := rfl

theorem unanswered_link (s : State) : modLink (fun l => l.dropPending.hunt) s = { s with link := unanswered s.link } :=
  received_eq s

theorem takeCharacter_closed {ch : Byte} {bad : Bool} {s : State} (h : s.link.isOpen = false) :
    takeCharacter ch bad s = s := by
  simp [takeCharacter, h]

theorem takeCharacter_error {ch : Byte} {s : State} (h : s.link.isOpen = true) :
    takeCharacter ch true s = { s with link := unanswered s.link } := by
  rw [← unanswered_link, takeCharacter, if_pos h]
  rfl

/-- A character that ends no frame moves the receiver and nothing else. -/
theorem takeCharacter_incomplete {ch : Byte} {s : State} {l : Link} (h : s.link.isOpen = true)
    (hr : s.link.dropPending.receive ch = ⟨l, false⟩) : takeCharacter ch false s = { s with link := l } := by
  have hr' : (modLink Link.dropPending s).link.receive ch = ⟨l, false⟩ := hr
  simp only [takeCharacter, h, if_true, Bool.false_eq_true, if_false, hr']
  rfl

/-- The character that ends a frame has the frame judged, with the receiver in HUNT. -/
theorem takeCharacter_complete {ch : Byte} {s : State} {l : Link} (h : s.link.isOpen = true)
    (hr : s.link.dropPending.receive ch = ⟨l, true⟩) : takeCharacter ch false s =
      judged (l.rxBuf.getD 1 0) (kindOp (l.rxBuf.getD 1 0)) (frameOf l.rxBuf) (received s) := by
  have hr' : (modLink Link.dropPending s).link.receive ch = ⟨l, true⟩ := hr
  simp only [takeCharacter, h, if_true, Bool.false_eq_true, if_false, hr']
  rfl

@[simp] theorem dropPending_rx (l : Link) : l.dropPending.rx = l.rx := by unfold Link.dropPending; split <;> rfl
@[simp] theorem dropPending_rxBuf (l : Link) : l.dropPending.rxBuf = l.rxBuf := by unfold Link.dropPending; split <;> rfl
@[simp] theorem dropPending_inReset (l : Link) : l.dropPending.inReset = l.inReset := by
  unfold Link.dropPending; split <;> rfl

/-- A frame that R172 or R173 discards. -/
theorem judgeFrame_discard {slot : BitVec 5} {kind : Byte} {f : Frame}
    (h : crcOf (frameCovered kind f) ≠ f.crc ∨ (f.addr ≠ 0 ∧ f.addr ≠ slot.zeroExtend 8) ∨
      (f.addr = 0 ∧ kind ∉ broadcastKinds)) : judgeFrame slot kind f = .discard := by
  unfold judgeFrame
  by_cases hc : crcOf (frameCovered kind f) ≠ f.crc
  · rw [if_pos hc]
  · rw [if_neg hc]
    rcases h with h | ⟨h0, h1⟩ | ⟨h0, h1⟩
    · exact absurd h hc
    · rw [if_neg h0, if_neg h1]
    · rw [if_pos h0, if_neg (by simpa using h1)]

theorem mem_broadcastKinds (kind : Byte) : kind ∈ broadcastKinds ↔ kind ∈ ([0x04, 0x12, 0x13, 0x14] : List Byte) := by
  simp only [broadcastKinds, List.mem_cons, List.not_mem_nil, or_false]
  tauto

/-- Settles O60: each event of the line by the receiver's and the reply's state. -/
theorem lineEventsMoveTheLink : Obligations.LineEventsMoveTheLink := by
  intro s l listens hears
  have hopen : listens → s.link.isOpen = true := (isOpen_iff _).mpr
  have hclosed : ¬ listens → s.link.isOpen = false := fun h => Bool.eq_false_iff.mpr fun ho => h ((isOpen_iff _).mp ho)
  refine ⟨?_, ?_, ?_, ?_, ?_, ?_, ?_, ?_, ?_, ?_, ?_⟩
  · intro kind f h hk
    show execFrame kind (kindOp kind) f s = _
    rw [kindOp_unknown hk]
    exact execFrame_refuses (data := []) h rfl
  · intro kind f hl hlen h
    have hd : judgeFrame (received s).link.slot kind f = .discard := by
      rw [show (received s).link.slot = s.link.slot from by rw [received_link]; rfl]
      exact judgeFrame_discard (by rwa [mem_broadcastKinds])
    show Host.Outcome.next (takeFrame kind (kindOp kind) f s) = _
    rw [takeFrame_open (hopen hl) hlen, judged, hd, received_eq]
  · intro c kind f hc hl
    obtain ⟨x, hx, -⟩ := exec_of_requestOf hc s
    refine ⟨{ s with straps := x }, ?_, rfl⟩
    rw [hx, execFrame, takeFrame_closed (s := { s with straps := x }) (hclosed hl)]
  · intro ch bad hl
    show Host.Outcome.next (takeCharacter ch bad s) = _
    rw [takeCharacter_closed (hclosed hl)]
  · intro c hc
    have hab : abandonFrame s = if l.inReset = false ∧ l.replyState ≠ .sending then hears { l with rx := .hunt, rxBuf := [] }
        else s := by
      by_cases hl : listens
      · rw [abandonFrame, if_pos (hopen hl)]; exact (if_pos hl).symm
      · rw [abandonFrame, if_neg (by simp [hclosed hl])]; exact (if_neg hl).symm
    rw [← hab]
    rcases hc with rfl | rfl <;> rfl
  · show execReplyBegin s = _
    rfl
  · show execReplyEnd s = _
    rfl
  · show Host.Outcome.next (modLink Link.dropPending s) = _
    rw [modLink_eq, Link.dropPending]
    by_cases h : s.link.replyState = .pending
    · rw [if_pos h]; exact congrArg Host.Outcome.next (if_pos h).symm
    · rw [if_neg h]; exact congrArg Host.Outcome.next (if_neg h).symm
  · intro ch hl
    show Host.Outcome.next (takeCharacter ch true s) = _
    rw [takeCharacter_error (hopen hl)]
  · intro ch hl (hrx : s.link.rx = .hunt) (hbuf : s.link.rxBuf = [])
    show Host.Outcome.next (takeCharacter ch false s) = _
    have hu : unanswered l = { s.link.dropPending with rx := .hunt, rxBuf := [] } := unanswered_eq l
    by_cases hch : ch = 0xC3
    · have hr : s.link.dropPending.receive ch = ⟨{ s.link.dropPending with rx := .header, rxBuf := [] }, false⟩ := by
        simp only [Link.receive, dropPending_rx, hrx, hch, if_true]
      rw [takeCharacter_incomplete (hopen hl) hr, if_pos hch, hu]
    · have hr : s.link.dropPending.receive ch = ⟨s.link.dropPending, false⟩ := by
        simp only [Link.receive, dropPending_rx, hrx, hch, if_false]
      have hsame : s.link.dropPending = { s.link.dropPending with rx := .hunt, rxBuf := [] } := by
        rw [← hrx, ← hbuf, ← dropPending_rx, ← dropPending_rxBuf]
      rw [takeCharacter_incomplete (hopen hl) hr, if_neg hch, hu, hsame]
  · intro ch hl (hrx : s.link.rx = .header) (hlen : s.link.rxBuf.length = 3) hch
    show Host.Outcome.next (takeCharacter ch false s) = _
    have hr : s.link.dropPending.receive ch = ⟨s.link.dropPending.hunt, false⟩ := by
      have h3 : ((s.link.rxBuf ++ [ch]).getD 3 0) = ch := by
        rw [List.getD_eq_getElem?_getD, List.getElem?_append_right (by omega)]
        simp [hlen]
      simp only [Link.receive, dropPending_rx, hrx, dropPending_rxBuf, h3]
      rw [if_neg (by simp [hlen]), if_pos hch]
    rw [takeCharacter_incomplete (hopen hl) hr, ← unanswered_eq]

/-! ## The characters of a frame (10 §10.2, R171) -/

theorem receive_header {l : Link} {ch : Byte} (h : l.rx = .header) : l.receive ch =
    if (l.rxBuf ++ [ch]).length < 4 then ⟨{ l with rxBuf := l.rxBuf ++ [ch] }, false⟩
    else if 250 < ((l.rxBuf ++ [ch]).getD 3 0).toNat then ⟨l.hunt, false⟩
    else ⟨{ l with
      rx := if ((l.rxBuf ++ [ch]).getD 3 0).toNat = 0 then .check else .payload, rxBuf := l.rxBuf ++ [ch] }, false⟩ := by
  simp only [Link.receive, h]

theorem hear_cons_next {ch : Byte} {l : List Byte} {s t : State} (h : takeCharacter ch false s = t) :
    hear (ch :: l) s = hear l t := by
  have he : exec (.lineCharacter ch false) s = .next t := congrArg Host.Outcome.next h
  rw [hear, he]

/-- The receiver while a frame comes: a PENDING reply abandoned, its state and what it has heard. -/
def receiving (s : State) (rx : RxState) (buf : List Byte) : State :=
  { s with link := { s.link.dropPending with rx := rx, rxBuf := buf } }

section
variable {s : State} (ho : s.link.isOpen = true)
include ho

theorem receiving_isOpen (rx : RxState) (buf : List Byte) : (receiving s rx buf).link.isOpen = true := by
  obtain ⟨h1, h2⟩ := (isOpen_iff _).mp ho
  refine (isOpen_iff _).mpr ⟨?_, ?_⟩
  · simpa [receiving] using h1
  · show s.link.dropPending.replyState ≠ .sending
    unfold Link.dropPending
    split
    · exact ReplyState.noConfusion
    · exact h2

omit ho in
theorem receiving_dropPending (rx : RxState) (buf : List Byte) :
    (receiving s rx buf).link.dropPending = (receiving s rx buf).link := by
  have hno : s.link.dropPending.replyState ≠ .pending := by
    unfold Link.dropPending
    split
    · exact ReplyState.noConfusion
    · assumption
  rw [Link.dropPending, if_neg]
  exact hno

omit ho in
theorem received_receiving (rx : RxState) (buf : List Byte) : received (receiving s rx buf) = received s := by
  show modLink (fun l => l.dropPending.hunt) (receiving s rx buf) = _
  rw [modLink_eq, receiving_dropPending]
  rfl

/-- A character that moves the receiver from one moment of a frame to the next. -/
theorem takeCharacter_receiving {rx rx' : RxState} {buf buf' : List Byte} {ch : Byte}
    (hr : (receiving s rx buf).link.receive ch = ⟨(receiving s rx' buf').link, false⟩) :
    takeCharacter ch false (receiving s rx buf) = receiving s rx' buf' := by
  rw [takeCharacter_incomplete (receiving_isOpen ho rx buf) (by rw [receiving_dropPending]; exact hr)]
  rfl

/-- The header: four characters, and the length byte within 250 (R171). -/
theorem hear_header (a k g n : Byte) (rest : List Byte) (hn : n.toNat ≤ 250) :
    hear (a :: k :: g :: n :: rest) (receiving s .header []) =
      hear rest (receiving s (if n.toNat = 0 then .check else .payload) [a, k, g, n]) := by
  have h1 : ∀ (buf : List Byte) (ch : Byte), buf.length < 3 →
      takeCharacter ch false (receiving s .header buf) = receiving s .header (buf ++ [ch]) := by
    intro buf ch hb
    apply takeCharacter_receiving ho
    have hl : (buf ++ [ch]).length < 4 := by simp; omega
    exact if_pos hl
  have h2 : takeCharacter n false (receiving s .header [a, k, g]) =
      receiving s (if n.toNat = 0 then .check else .payload) [a, k, g, n] := by
    apply takeCharacter_receiving ho
    have hl : ¬ ([a, k, g] ++ [n]).length < 4 := by simp
    have h250 : ¬ 250 < (([a, k, g] ++ [n]).getD 3 0).toNat := by simpa using hn
    rw [receive_header rfl]
    exact (if_neg (α := Received) hl).trans (if_neg h250)
  rw [hear_cons_next (h1 [] a (by simp)), List.nil_append, hear_cons_next (h1 [a] k (by simp)), List.singleton_append,
    hear_cons_next (h1 [a, k] g (by simp)), List.cons_append, List.singleton_append, hear_cons_next h2]

/-- The payload, character by character, up to the length that the header told (R171). -/
theorem hear_payload (len : Nat) (rest : List Byte) (l : List Byte) : ∀ (buf : List Byte), 4 ≤ buf.length → rest ≠ [] →
    (buf.getD 3 0).toNat = len → buf.length + rest.length = 4 + len →
    hear (rest ++ l) (receiving s .payload buf) = hear l (receiving s .check (buf ++ rest)) := by
  induction rest with
  | nil => intro _ _ h; exact absurd rfl h
  | cons ch rest ih =>
    intro buf hb _ hlen htot
    have hget : ((buf ++ [ch]).getD 3 0) = buf.getD 3 0 := by
      rw [List.getD_eq_getElem?_getD, List.getD_eq_getElem?_getD, List.getElem?_append_left (by omega)]
    have htake : takeCharacter ch false (receiving s .payload buf) =
        receiving s (if (buf ++ [ch]).length < 4 + len then .payload else .check) (buf ++ [ch]) := by
      apply takeCharacter_receiving ho
      simp only [receiving, Link.receive, hget, hlen]
    rw [List.cons_append, hear_cons_next htake]
    cases rest with
    | nil =>
      simp only [List.length_cons, List.length_nil] at htot
      rw [if_neg (by simp; omega)]
      rfl
    | cons c2 rest =>
      simp only [List.length_cons] at htot
      rw [if_pos (by simp; omega), ih (buf ++ [ch]) (by simp; omega) (by simp) (by rw [hget, hlen])
        (by simp only [List.length_append, List.length_cons, List.length_nil]; omega)]
      simp

/-- The two CRC characters end the frame, which is judged (R171). -/
theorem hear_check (buf : List Byte) (c1 c2 : Byte) (len : Nat)
    (hlen : (buf.getD 3 0).toNat = len) (hb : buf.length = 4 + len) :
    hear [c1, c2] (receiving s .check buf) =
      .next (judged (buf.getD 1 0) (kindOp (buf.getD 1 0)) (frameOf (buf ++ [c1, c2])) (received s)) := by
  have hget : ∀ k < 4, ∀ l : List Byte, ((buf ++ l).getD k 0) = buf.getD k 0 := by
    intro k hk l
    rw [List.getD_eq_getElem?_getD, List.getD_eq_getElem?_getD, List.getElem?_append_left (by omega)]
  have h1 : takeCharacter c1 false (receiving s .check buf) = receiving s .check (buf ++ [c1]) := by
    apply takeCharacter_receiving ho
    simp only [receiving, Link.receive, hget 3 (by omega), hlen]
    rw [if_pos (by simp; omega)]
  have h2 : takeCharacter c2 false (receiving s .check (buf ++ [c1])) =
      judged (buf.getD 1 0) (kindOp (buf.getD 1 0)) (frameOf (buf ++ [c1, c2])) (received s) := by
    have hr : (receiving s .check (buf ++ [c1])).link.dropPending.receive c2 =
        ⟨(receiving s .check (buf ++ [c1, c2])).link, true⟩ := by
      rw [receiving_dropPending]
      simp only [receiving, Link.receive, List.append_assoc, List.cons_append, List.nil_append, hget 3 (by omega), hlen]
      rw [if_neg (by simp; omega)]
    rw [takeCharacter_complete (receiving_isOpen ho _ _) hr, received_receiving]
    simp only [receiving, hget 1 (by omega)]
  rw [hear_cons_next h1, hear_cons_next h2]
  rfl

end

/-- The characters after SYNC spell the frame back. -/
theorem frameOf_covered (kind : Byte) (f : Frame) (c1 c2 : Byte) (hc : be2 f.crc.toNat = [c1, c2]) :
    frameOf (frameCovered kind f ++ [c1, c2]) = f := by
  have hcrc : BitVec.ofNat 16 (u16At (frameCovered kind f ++ [c1, c2]) ((frameCovered kind f ++ [c1, c2]).length - 2)) =
      f.crc := by
    have hu : u16At (frameCovered kind f ++ [c1, c2]) ((frameCovered kind f ++ [c1, c2]).length - 2) =
        c1.toNat * 256 + c2.toNat := by
      simp only [u16At, u8At, List.getD_eq_getElem?_getD]
      rw [List.getElem?_append_right (by simp), List.getElem?_append_right (by simp)]
      simp
    rw [hu]
    have h1 := congrArg BitVec.toNat (List.cons.inj hc).1
    have h2 := congrArg BitVec.toNat (List.cons.inj (List.cons.inj hc).2).1
    have h3 := f.crc.isLt
    apply BitVec.eq_of_toNat_eq
    simp only [BitVec.toNat_ofNat] at h1 h2 ⊢
    omega
  have hpay : ((frameCovered kind f ++ [c1, c2]).drop 4).dropLast.dropLast = f.payload := by
    simp [frameCovered, List.dropLast_append_of_ne_nil]
  rw [frameOf, hcrc, hpay]
  rfl

/-- Settles O5: SYNC, header, payload and CRC move the receiver through its states to the judgement of the frame. -/
theorem charactersMakeTheFrame : Obligations.CharactersMakeTheFrame := by
  intro c kind f s hc hnf hin hsend hrx hbuf hlen
  have ho : s.link.isOpen = true := (isOpen_iff _).mpr ⟨hin, hsend⟩
  obtain ⟨x, hx, hxs⟩ := exec_of_requestOf hc s
  have hexec : exec c s = .next (judged kind (kindOp kind) f (received s)) := by
    rw [hx, hxs hnf, execFrame]
    exact congrArg Host.Outcome.next (takeFrame_open ho hlen)
  have hn : (BitVec.ofNat 8 f.payload.length : Byte).toNat = f.payload.length := by
    simp only [BitVec.toNat_ofNat]; omega
  obtain ⟨c1, c2, hcrc⟩ : ∃ c1 c2, be2 f.crc.toNat = [c1, c2] := ⟨_, _, rfl⟩
  have hsync : takeCharacter 0xC3 false s = receiving s .header [] := by
    apply takeCharacter_incomplete ho
    simp only [Link.receive, dropPending_rx, hrx, if_true]
  have hchk := hear_check ho (frameCovered kind f) c1 c2 f.payload.length
    (by simpa [frameCovered] using hn) (by simp [frameCovered]; omega)
  rw [frameOf_covered kind f c1 c2 hcrc] at hchk
  rw [hexec, ← show hear [c1, c2] (receiving s .check (frameCovered kind f)) =
    .next (judged kind (kindOp kind) f (received s)) from hchk]
  have hw : wire kind f = 0xC3 :: f.addr :: kind :: f.tag :: BitVec.ofNat 8 f.payload.length :: (f.payload ++ [c1, c2]) := by
    simp [wire, frameCovered, hcrc]
  rw [hw, hear_cons_next hsync, hear_header ho _ _ _ _ _ (by rw [hn]; exact hlen), hn]
  by_cases hp : f.payload = []
  · rw [hp]
    simp [frameCovered, hp]
  · rw [if_neg (by simpa using hp), hear_payload ho f.payload.length f.payload [c1, c2] _ (by simp) hp (by simpa using hn)
      (by simp)]
    rfl

end Sys2Proof.Proofs.Line

/-! The run record and the program record as their requests carry them: which payloads are refused, and what is stored
of the others. -/

namespace Sys2Proof.Proofs.Records

open Sys2Proof.Machine Sys2Proof.Safety Sys2Proof.Proofs.PatternStore Sys2Proof.Proofs.Requests
open Sys2Proof.Proofs.Settings

/-! ## Bytes of a payload -/

/-- A stretch of a payload, byte by byte. -/
theorem take_drop_eq_map (p : List Byte) (a n : Nat) (h : a + n ≤ p.length) :
    (p.drop a).take n = (List.range n).map fun k => p.getD (a + k) 0 := by
  apply List.ext_getElem
  · simp; omega
  · intro k h1 h2
    have hk : k < n := by simpa using h2
    simp [List.getD_eq_getElem?_getD, show a + k < p.length by omega]

theorem u8At_le_iff (b : Byte) (n : Nat) (hn : n < 256) : b.toNat = n ↔ b = BitVec.ofNat 8 n := by
  constructor
  · intro h
    apply BitVec.eq_of_toNat_eq
    simp only [BitVec.toNat_ofNat]; omega
  · rintro rfl
    simp only [BitVec.toNat_ofNat]; omega

/-! ## Codes (11 §11.2) -/

/-- A byte names a program choice when it is 0xFE or a slot number. -/
theorem progOf_some {b : Byte} (h : b = 0xFE ∨ b.toNat < 16) : ∃ e, progOf b = some e ∧ e.code = b := by
  unfold progOf
  by_cases hb : b = 0xFE
  · exact ⟨.noProgram, if_pos hb, hb.symm⟩
  · have hlt : b.toNat < 16 := h.resolve_left hb
    refine ⟨.slot ⟨b.toNat, hlt⟩, ?_, ?_⟩
    · rw [if_neg hb, dif_pos hlt]
    · simp [ProgSel.code]

theorem progOf_none {b : Byte} (h : ¬ (b = 0xFE ∨ b.toNat < 16)) : progOf b = none := by
  rw [not_or] at h
  rw [progOf, if_neg h.1, dif_neg h.2]

theorem progOf_isSome_iff (b : Byte) : (progOf b).isSome = true ↔ b = 0xFE ∨ b.toNat < 16 := by
  by_cases h : b = 0xFE ∨ b.toNat < 16
  · obtain ⟨e, he, -⟩ := progOf_some h
    rw [he]; exact iff_of_true rfl h
  · rw [progOf_none h]; exact iff_of_false Bool.false_ne_true h

theorem progOf_code (e : ProgSel) : progOf e.code = some e := by
  cases e with
  | noProgram => rfl
  | slot k =>
    have hk : (BitVec.ofNat 8 k.val : Byte).toNat = k.val := by
      have := k.isLt; simp only [BitVec.toNat_ofNat]; omega
    have hne : (BitVec.ofNat 8 k.val : Byte) ≠ 0xFE := by
      intro h
      have h' := congrArg BitVec.toNat h
      have := k.isLt
      rw [hk] at h'
      simp at h'
      omega
    have hlt : (BitVec.ofNat 8 k.val : Byte).toNat < 16 := by rw [hk]; exact k.isLt
    rw [ProgSel.code, progOf, if_neg hne, dif_pos hlt]
    exact congrArg (fun x => some (ProgSel.slot x)) (Fin.ext hk)

theorem code_slot_toNat {e : ProgSel} {k : ProgId} (h : e = .slot k) : e.code.toNat = k.val := by
  subst h
  have := k.isLt
  simp only [ProgSel.code, BitVec.toNat_ofNat]
  omega

/-- The code of a stored disposition, DEFAULT among them (11 §11.2). -/
def dispCode : Option Disp → Byte
  | none => 3
  | some d => d.code

theorem dispOf_some {b : Byte} (h : b.toNat ≤ 3) : ∃ d, dispOf b = some d ∧ dispCode d = b := by
  have h4 : b.toNat < 4 := by omega
  have hb := BitVec.eq_of_toNat_eq (x := b) (y := BitVec.ofNat 8 b.toNat) (by simp)
  generalize b.toNat = n at h4 hb
  subst hb
  interval_cases n <;> exact ⟨_, rfl, rfl⟩

theorem dispOf_none {b : Byte} (h : 3 < b.toNat) : dispOf b = none := by
  have hne : ∀ n < 4, b ≠ BitVec.ofNat 8 n := by
    rintro n hn rfl
    simp only [BitVec.toNat_ofNat] at h
    omega
  have h0 : b ≠ 0 := hne 0 (by omega)
  have h1 : b ≠ 1 := hne 1 (by omega)
  have h2 : b ≠ 2 := hne 2 (by omega)
  have h3 : b ≠ 3 := hne 3 (by omega)
  rw [dispOf, if_neg h0, if_neg h1, if_neg h2, if_neg h3]

/-- Which bytes an entry of the disposition table takes (R4). -/
theorem dispEntry_some {p : List Byte} {k j : Nat} (h : (p.getD (k + j) 0).toNat ≤ 3)
    (h1 : 4 ≤ j → p.getD (k + j) 0 ≠ 1) : ∃ d, dispEntry p k j = some d ∧ dispCode d = p.getD (k + j) 0 := by
  unfold dispEntry dispNoReset
  by_cases hj : j < 4
  · rw [if_pos hj]; exact dispOf_some h
  · rw [if_neg hj, if_neg (h1 (by omega))]; exact dispOf_some h

theorem dispEntry_none {p : List Byte} {k j : Nat}
    (h : 3 < (p.getD (k + j) 0).toNat ∨ (4 ≤ j ∧ p.getD (k + j) 0 = 1)) : dispEntry p k j = none := by
  unfold dispEntry dispNoReset
  by_cases hj : j < 4
  · rw [if_pos hj]; exact dispOf_none (h.resolve_right (by omega))
  · rw [if_neg hj]
    by_cases h1 : p.getD (k + j) 0 = 1
    · rw [if_pos h1]
    · rw [if_neg h1]; exact dispOf_none (h.resolve_right fun h => h1 h.2)

/-! ## The run record of a payload (R4) -/

/-- Every check of R4's first step passes. -/
def RunFieldsOk (p : List Byte) : Prop :=
  let n := u8At p 0
  n ≤ 16 ∧ (∀ c ∈ (p.drop 1).take n, 0x20 ≤ c.toNat ∧ c.toNat ≤ 0x7E) ∧ declaredAt p ≠ 0 ∧
    (∀ z, zoneDeclared (declaredAt p) z = true →
      p.getD (9 + n + z.val) 0 = 0xFE ∨ (p.getD (9 + n + z.val) 0).toNat < 16) ∧
    ∀ k < 8, (p.getD (13 + n + k) 0).toNat ≤ 3 ∧ (4 ≤ k → p.getD (13 + n + k) 0 ≠ 1)

theorem label_length {p : List Byte} (h : p.length = 23 + u8At p 0) : ((p.drop 1).take (u8At p 0)).length = u8At p 0 := by
  simp only [List.length_take, List.length_drop]; omega

theorem labelOk_iff {p : List Byte} (h : p.length = 23 + u8At p 0) : labelOk ((p.drop 1).take (u8At p 0)) = true ↔
    u8At p 0 ≤ 16 ∧ ∀ c ∈ (p.drop 1).take (u8At p 0), 0x20 ≤ c.toNat ∧ c.toNat ≤ 0x7E := by
  rw [labelOk, label_length h]
  simp

theorem entryAt_isSome_iff (p : List Byte) (z : ZoneId) : (entryAt p z).isSome = true ↔
    (zoneDeclared (declaredAt p) z = true →
      p.getD (9 + u8At p 0 + z.val) 0 = 0xFE ∨ (p.getD (9 + u8At p 0 + z.val) 0).toNat < 16) := by
  unfold entryAt
  by_cases hz : zoneDeclared (declaredAt p) z = true
  · rw [if_pos hz, progOf_isSome_iff]; simp [hz]
  · simp [hz]

theorem dispEntry_isSome_iff (p : List Byte) (k j : Nat) : (dispEntry p k j).isSome = true ↔
    (p.getD (k + j) 0).toNat ≤ 3 ∧ (4 ≤ j → p.getD (k + j) 0 ≠ 1) := by
  by_cases h : (p.getD (k + j) 0).toNat ≤ 3 ∧ (4 ≤ j → p.getD (k + j) 0 ≠ 1)
  · obtain ⟨d, hd, -⟩ := dispEntry_some h.1 h.2
    simp only [hd, Option.isSome_some, true_iff]
    exact h
  · have hn : dispEntry p k j = none := by
      apply dispEntry_none
      by_cases h3 : (p.getD (k + j) 0).toNat ≤ 3
      · right
        by_contra hc
        exact h ⟨h3, fun h4 h1 => hc ⟨h4, h1⟩⟩
      · left; omega
    simp only [hn, Option.isSome_none, Bool.false_eq_true, false_iff]
    exact h

/-- The record that a payload spells, its target and limit clamped. -/
def recordMade (p : List Byte) : RunRecord :=
  let n := u8At p 0
  let stored := fun j => (dispEntry p (13 + n) j).join
  { label := (p.drop 1).take n, declared := declaredAt p, target := clampNat 60 4000000 (u32At p (5 + n))
    progs := Vector.ofFn fun z => (entryAt p z).getD .noProgram
    disp := { strobe := stored 0, signature := stored 1, early := stored 2, late := stored 3,
              fast := stored 4, average := stored 5, ramp := stored 6, trip := stored 7 }
    retireLimit := clampNat 1 255 (u8At p (21 + n)), powerAtTemp := p.getD (22 + n) 0 != 0 }

/-- The record of a payload that passes R4's first step, field by field. -/
theorem runRecordAt_some {p : List Byte} (hlen : p.length = 23 + u8At p 0) (h : RunFieldsOk p) :
    ∃ r, runRecordAt p = some r ∧ r.label = (p.drop 1).take (u8At p 0) ∧ r.declared = declaredAt p ∧
      r.target = clampNat 60 4000000 (u32At p (5 + u8At p 0)) ∧ r.retireLimit = clampNat 1 255 (u8At p (21 + u8At p 0)) ∧
      r.powerAtTemp = (p.getD (22 + u8At p 0) 0 != 0) ∧
      (∀ z : ZoneId, (zoneDeclared (declaredAt p) z = true → r.progs[z].code = p.getD (9 + u8At p 0 + z.val) 0) ∧
        (zoneDeclared (declaredAt p) z = false → r.progs[z] = .noProgram)) ∧
      [r.disp.strobe, r.disp.signature, r.disp.early, r.disp.late, r.disp.fast, r.disp.average, r.disp.ramp,
        r.disp.trip].map dispCode = (p.drop (13 + u8At p 0)).take 8 := by
  obtain ⟨h1, h2, h3, h4, h5⟩ := h
  have hlab : (labelOk ((p.drop 1).take (u8At p 0)) && declaredAt p != 0) = true := by
    rw [Bool.and_eq_true]
    exact ⟨(labelOk_iff hlen).mpr ⟨h1, h2⟩, by simpa using h3⟩
  have hent : (allZones.all fun z => (entryAt p z).isSome) = true :=
    List.all_eq_true.mpr fun z _ => (entryAt_isSome_iff p z).mpr (h4 z)
  have hdis : ((List.range 8).all fun j => (dispEntry p (13 + u8At p 0) j).isSome) = true :=
    List.all_eq_true.mpr fun j hj => (dispEntry_isSome_iff p _ j).mpr (h5 j (List.mem_range.mp hj))
  have hcode : ∀ j < 8, dispCode (dispEntry p (13 + u8At p 0) j).join = p.getD (13 + u8At p 0 + j) 0 := by
    intro j hj
    obtain ⟨d, hd, hc⟩ := dispEntry_some (h5 j hj).1 (h5 j hj).2
    rw [hd]; exact hc
  refine ⟨recordMade p, ?_, rfl, rfl, rfl, rfl, rfl, fun z => ⟨fun hz => ?_, fun hz => ?_⟩, ?_⟩
  · exact (if_pos hlab).trans (by
      rw [entriesAt, if_pos hent, dispTableAt, if_pos hdis]
      rfl)
  · obtain ⟨e, he, hc⟩ := progOf_some (h4 z hz)
    have hea : entryAt p z = some e := by rw [entryAt, if_pos hz, he]
    simp [recordMade, hea, hc]
  · have hea : entryAt p z = some .noProgram := by rw [entryAt, if_neg (by simp [hz])]
    simp [recordMade, hea]
  · rw [take_drop_eq_map p _ 8 (by omega)]
    simp only [recordMade, List.map_cons, List.map_nil, hcode _ (show 0 < 8 by omega), hcode _ (show 1 < 8 by omega),
      hcode _ (show 2 < 8 by omega), hcode _ (show 3 < 8 by omega), hcode _ (show 4 < 8 by omega),
      hcode _ (show 5 < 8 by omega), hcode _ (show 6 < 8 by omega), hcode _ (show 7 < 8 by omega)]
    rfl

theorem runRecordAt_none {p : List Byte} (hlen : p.length = 23 + u8At p 0) (h : ¬ RunFieldsOk p) :
    runRecordAt p = none := by
  by_cases hlab : (labelOk ((p.drop 1).take (u8At p 0)) && declaredAt p != 0) = true
  · refine (if_pos hlab).trans ?_
    rw [Bool.and_eq_true] at hlab
    obtain ⟨h1, h2⟩ := (labelOk_iff hlen).mp hlab.1
    have h3 : declaredAt p ≠ 0 := by simpa using hlab.2
    by_cases hent : (allZones.all fun z => (entryAt p z).isSome) = true
    · have h4 := fun z => (entryAt_isSome_iff p z).mp (List.all_eq_true.mp hent z (mem_allZones z))
      have hdis : ((List.range 8).all fun j => (dispEntry p (13 + u8At p 0) j).isSome) = false := by
        rw [Bool.eq_false_iff]
        intro hd
        exact h ⟨h1, h2, h3, h4, fun j hj =>
          (dispEntry_isSome_iff p _ j).mp (List.all_eq_true.mp hd j (List.mem_range.mpr hj))⟩
      have ht : dispTableAt p (13 + u8At p 0) = none := if_neg (by simp [hdis])
      simp [entriesAt, hent, ht]
    · simp [entriesAt, hent]
  · exact if_neg hlab

/-! ## RUN-DEFINE (R2, R4, R5) -/

/-- A loop that changes one zone each, over zones that are all different. -/
theorem forEach_modZone (f : ZoneId → Zone → Zone) : ∀ (l : List ZoneId) (s : State), l.Nodup → ∀ y,
    (forEach l (fun z => modZone z (f z)) s).zone y = if y ∈ l then f y (s.zone y) else s.zone y := by
  intro l
  induction l with
  | nil => intro s _ y; simp
  | cons a l ih =>
    intro s hl y
    rw [forEach_cons, ih _ (List.nodup_cons.mp hl).2, modZone_zone]
    by_cases hya : y = a
    · subst hya; simp [(List.nodup_cons.mp hl).1]
    · simp [hya]

theorem forEach_modZone_frame (f : ZoneId → Zone → Zone) (l : List ZoneId) (s : State) :
    forEach l (fun z => modZone z (f z)) s = { s with zones := (forEach l (fun z => modZone z (f z)) s).zones } := by
  refine forEach_keeps (P := fun t => t = { s with zones := t.zones }) (fun a _ t ht => ?_) s rfl
  rw [ht]; rfl

theorem forEach_modZone_sock (f : ZoneId → Zone → Zone) (l : List ZoneId) (s : State) (i : SocketId) :
    (forEach l (fun z => modZone z (f z)) s).sock i = s.sock i := by
  rw [forEach_modZone_frame]; rfl

theorem lifeDefined_eq (d : Bool) (l : Lifecycle) : lifeDefined d l =
    if d = true ∧ l = .empty then .waiting else if d = false ∧ l = .waiting then .empty else l := by
  cases l <;> cases d <;> rfl

/-- The record is in place: the sockets and zones follow it, before the notice. -/
def recordPlaced (r : RunRecord) (s : State) : State :=
  forEach allZones (fun z => modSeq z fun q => { q with assigned := some r.progs[z] })
    (forEach allSockets (fun i => modSock i fun k => { k with life := lifeDefined (r.declared.getLsbD i.val) k.life })
      (modRun (fun k => { k with state := .ready, record := some r }) s))

theorem recordPlaced_frame (r : RunRecord) (s : State) : recordPlaced r s = { s with
    run := { s.run with state := .ready, record := some r }
    sockets := (recordPlaced r s).sockets
    zones := (recordPlaced r s).zones } := by
  unfold recordPlaced
  refine (forEach_modZone_frame (fun z k => { k with seq := { k.seq with assigned := some r.progs[z] } }) allZones _).trans ?_
  rw [forEach_modSock_frame]
  rfl

theorem recordPlaced_sock (r : RunRecord) (s : State) (i : SocketId) : (recordPlaced r s).sock i = { s.sock i with
    life := lifeDefined (r.declared.getLsbD i.val) (s.sock i).life } := by
  unfold recordPlaced
  refine (forEach_modZone_sock (fun z k => { k with seq := { k.seq with assigned := some r.progs[z] } }) allZones _ i).trans ?_
  rw [forEach_modSock _ _ _ allSockets_nodup]
  simp

theorem recordPlaced_zone (r : RunRecord) (s : State) (z : ZoneId) : (recordPlaced r s).zone z = { s.zone z with
    seq := { (s.zone z).seq with assigned := some r.progs[z] } } := by
  unfold recordPlaced
  refine (forEach_modZone (fun z k => { k with seq := { k.seq with assigned := some r.progs[z] } }) allZones _
    allZones_nodup z).trans ?_
  rw [if_pos (mem_allZones z), forEach_modSock_frame]
  rfl

theorem storeRecord_eq (r : RunRecord) (s : State) : storeRecord r s = { recordPlaced r s with
    notices := if s.run.state = .idle then
        routineAfter ⟨.board, s.run.clock, .runState .ready s.run.holds⟩ s.notices
      else s.notices } := by
  have hs : storeRecord r s = if s.run.state = .idle then runStateNotice false (recordPlaced r s) else recordPlaced r s :=
    rfl
  have hrun : (recordPlaced r s).run = { s.run with state := .ready, record := some r } := by rw [recordPlaced_frame]
  have hnot : (recordPlaced r s).notices = s.notices := by rw [recordPlaced_frame]
  rw [hs]
  by_cases h : s.run.state = .idle
  · rw [if_pos h, if_pos h]
    unfold runStateNotice sendRoutine State.notice
    rw [hrun, ← hnot]
    rfl
  · rw [if_neg h, if_neg h, ← hnot]

theorem progsDefined_of {s : State} {r : RunRecord}
    (h : ∀ (z : ZoneId) (k : ProgId), r.progs[z] = .slot k → (s.program k).isSome = true) : s.progsDefined r = true := by
  refine List.all_eq_true.mpr fun e he => ?_
  obtain ⟨n, hn, rfl⟩ := List.mem_iff_getElem.mp he
  have hn4 : n < 4 := by simpa using hn
  have hget : r.progs.toList[n] = r.progs[(⟨n, hn4⟩ : ZoneId)] := by simp
  rw [hget]
  cases hc : r.progs[(⟨n, hn4⟩ : ZoneId)] with
  | noProgram => rfl
  | slot k => exact h _ k hc

theorem configured_iff (s : State) (d : BitVec 32) : s.configured d = true ↔ ∀ z, zoneDeclared d z = true →
    (s.zone z).railProf.isSome = true ∧ (s.zone z).thermProf.isSome = true := by
  simp only [State.configured, List.all_eq_true, mem_allZones, true_implies, Bool.or_eq_true, Bool.not_eq_true',
    Bool.and_eq_true]
  refine forall_congr' fun z => ?_
  cases zoneDeclared d z <;> simp

/-- Settles O30: R4's checks pass, the record is the payload's, and the notice goes out of IDLE alone. -/
theorem runDefineStoresTheRecord : Obligations.RunDefineStoresTheRecord := by
  intro f s h p n declared entry target limit hlen hst hn hchars hdecl hent hdis hconf hprog
  obtain ⟨r, hr, hlabel, hrd, htar, hlim, hpat, hprogs, hdisp⟩ :=
    runRecordAt_some hlen ⟨hn, hchars, hdecl, hent, hdis⟩
  have hlim255 : clampNat 1 255 (u8At p (21 + n)) = limit := by
    have := u8At_lt p (21 + n)
    unfold clampNat
    show max 1 (min 255 (u8At p (21 + n))) = max 1 (u8At p (21 + n))
    omega
  have hrl : r.retireLimit = limit := hlim.trans hlim255
  have hrd' : r.declared = declared := hrd
  have hconf' : (received s).configured r.declared = true := by
    rw [hrd']; exact (configured_iff s declared).mpr hconf
  have hprog' : (received s).progsDefined r = true := by
    refine progsDefined_of fun z k hz => ?_
    by_cases hzd : zoneDeclared declared z = true
    · refine hprog z k hzd ?_
      rw [show entry z = r.progs[z].code from ((hprogs z).1 hzd).symm]
      exact code_slot_toNat hz
    · have := (hprogs z).2 (Bool.eq_false_iff.mpr hzd)
      rw [this] at hz
      cases hz
  have hstate : ¬ ((received s).run.state ≠ .idle ∧ (received s).run.state ≠ .ready) := by
    rintro ⟨h1, h2⟩
    exact hst.elim h1 h2
  have hop : opRunDefine f.payload (received s) =
      if r.target = u32At p (5 + n) ∧ r.retireLimit = u8At p (21 + n) then done false (storeRecord r (received s)) []
      else done true (storeRecord r (received s)) (be4 r.target ++ be1 r.retireLimit) := by
    have hr' : runRecordAt f.payload = some r := hr
    unfold opRunDefine
    dsimp only
    rw [if_neg (not_not.mpr hlen), if_neg hstate]
    simp only [hr', hconf', hprog', Bool.true_eq_false, if_false]
    rfl
  rw [hrl, show r.target = target from htar] at hop
  have heq := storeRecord_eq r (received s)
  have hl : (storeRecord r (received s)).link = (received s).link := by rw [heq, recordPlaced_frame]
  have hfr := recordPlaced_frame r (received s)
  have hexec : execFrame 0x10 opRunDefine f s = .next { storeRecord r (received s) with
      link := if (target = u32At p (5 + n)) ∧ (limit = u8At p (21 + n)) then answered 0x10 f .ok [] s.link
        else answered 0x10 f .clamped (be4 target ++ be1 limit) s.link } := by
    by_cases hc : target = u32At p (5 + n) ∧ limit = u8At p (21 + n)
    · rw [if_pos hc] at hop ⊢
      exact execFrame_answers h hop hl
    · rw [if_neg hc] at hop ⊢
      exact execFrame_answers h hop hl
  refine ⟨_, r, hexec, ?_, hlabel, hrd, htar, hrl, hpat, hprogs, hdisp, ?_, fun i => ?_, fun z => ?_⟩
  · rw [heq, hfr]; rfl
  · rw [heq, hfr]; rfl
  · have hs : (storeRecord r (received s)).sock i = (recordPlaced r (received s)).sock i := by rw [heq]; rfl
    refine hs.trans ((recordPlaced_sock r (received s) i).trans ?_)
    rw [lifeDefined_eq, hrd']
    rfl
  · have hs : (storeRecord r (received s)).zone z = (recordPlaced r (received s)).zone z := by rw [heq]; rfl
    exact hs.trans (recordPlaced_zone r (received s) z)

end Sys2Proof.Proofs.Records

/-! The pattern store's requests that load and seal pages and store programs: PAGE-DATA, PAGE-CLOSE with the scan of the
flag structure, and PROGRAM-DEFINE. -/

namespace Sys2Proof.Proofs.Loading

open Sys2Proof.Machine Sys2Proof.Safety Sys2Proof.Proofs.PatternStore Sys2Proof.Proofs.Requests
open Sys2Proof.Proofs.Settings Sys2Proof.Proofs.Records

/-! ## The scan of the flag structure (R85) -/

theorem flagAt_lt {p : Vec → Bool} {vs : List Vec} {i : Nat} (h : flagAt p vs i = true) : i < vs.length := by
  by_contra hc
  simp [flagAt, List.getElem?_eq_none (by omega : vs.length ≤ i)] at h

theorem flagBefore_succ (p : Vec → Bool) (vs : List Vec) (i : Nat) :
    flagBefore p vs (i + 1) ↔ flagBefore p vs i ∨ flagAt p vs i = true := by
  constructor
  · rintro ⟨j, hj, h⟩
    by_cases hji : j = i
    · exact .inr (hji ▸ h)
    · exact .inl ⟨j, by omega, h⟩
  · rintro (⟨j, hj, h⟩ | h)
    · exact ⟨j, by omega, h⟩
    · exact ⟨i, by omega, h⟩

/-- What the scan knows when it has come to an index. -/
structure Scanned (vs : List Vec) (i : Nat) (mark : Option Nat) (back fin : Bool) : Prop where
  mark_iff : mark.isSome = true ↔ flagBefore Vec.loopMark vs i
  mark_at : ∀ k, mark = some k → flagAt Vec.loopMark vs k = true
  back_iff : back = true ↔ flagBefore Vec.loopBack vs i
  fin_iff : fin = true ↔ flagBefore Vec.last vs i

/-- The test that the scan makes of one vector is the failing condition at its index. -/
theorem scan_test_iff {vs : List Vec} {i : Nat} {mark : Option Nat} {back fin : Bool} {v : Vec}
    (h : Scanned vs i mark back fin) (hv : vs[i]? = some v) :
    ((v.loopMark && mark.isSome) || (v.loopBack && back) || (v.last && fin) || (v.loopBack && mark.isNone) ||
        (v.last && (mark.isSome || v.loopMark) && !(back || v.loopBack)) || ((v.loopMark || v.loopBack) && fin)) = true ↔
      ScanFailsAt vs i := by
  have hat : ∀ p : Vec → Bool, flagAt p vs i = p v := fun p => by simp [flagAt, hv]
  obtain ⟨hm, -, hb, hf⟩ := h
  unfold ScanFailsAt
  simp only [List.mem_cons, List.not_mem_nil, or_false, exists_eq_or_imp, exists_eq_left, flagBefore_succ, hat, ← hm, ← hb,
    ← hf, Bool.or_eq_true, Bool.and_eq_true, ← Option.not_isSome, Bool.not_eq_true',
    Bool.eq_false_iff, ne_eq]
  tauto

theorem scanned_succ {vs : List Vec} {i : Nat} {mark : Option Nat} {back fin : Bool} {v : Vec}
    (h : Scanned vs i mark back fin) (hv : vs[i]? = some v) :
    Scanned vs (i + 1) (if v.loopMark then some i else mark) (back || v.loopBack) (fin || v.last) := by
  have hat : ∀ p : Vec → Bool, flagAt p vs i = p v := fun p => by simp [flagAt, hv]
  obtain ⟨hm, hk, hb, hf⟩ := h
  refine ⟨?_, fun k hk' => ?_, ?_, ?_⟩
  · rw [flagBefore_succ, ← hm, hat]; cases v.loopMark <;> simp
  · cases hl : v.loopMark with
    | true =>
      rw [hl, if_pos rfl] at hk'
      cases hk'
      rw [hat, hl]
    | false =>
      rw [hl, if_neg Bool.false_ne_true] at hk'
      exact hk k hk'
  · rw [flagBefore_succ, ← hb, hat, Bool.or_eq_true]
  · rw [flagBefore_succ, ← hf, hat, Bool.or_eq_true]

/-- The scan stops at the first failing index, or runs to the end and answers a LOOP-MARK left open. -/
theorem scanFlags_spec (full : List Vec) : ∀ (vs : List Vec) (i : Nat) (mark : Option Nat) (back fin : Bool),
    vs = full.drop i → i ≤ full.length → Scanned full i mark back fin → (∀ j < i, ¬ ScanFailsAt full j) →
    (∃ r < full.length, scanFlags vs i mark back fin = some r ∧ ScanFailsAt full r ∧ ∀ j < r, ¬ ScanFailsAt full j) ∨
    ((∀ j < full.length, ¬ ScanFailsAt full j) ∧ ∃ m b f, Scanned full full.length m b f ∧
      scanFlags vs i mark back fin = if b then none else m) := by
  intro vs
  induction vs with
  | nil =>
    intro i mark back fin hvs hi hsc hno
    have hlen : i = full.length := by
      have := congrArg List.length hvs
      simp only [List.length_nil, List.length_drop] at this
      omega
    subst hlen
    exact .inr ⟨hno, mark, back, fin, hsc, rfl⟩
  | cons v vs ih =>
    intro i mark back fin hvs hi hsc hno
    have hv : full[i]? = some v := by
      have := congrArg List.head? hvs
      rw [List.head?_drop] at this
      exact this.symm
    have hlt : i < full.length := (List.getElem?_eq_some_iff.mp hv).1
    have htail : vs = full.drop (i + 1) := by
      have := congrArg List.tail hvs
      rwa [List.tail_drop] at this
    rw [scanFlags]
    by_cases hfail : ScanFailsAt full i
    · rw [if_pos ((scan_test_iff hsc hv).mpr hfail)]
      exact .inl ⟨i, hlt, rfl, hfail, hno⟩
    · rw [if_neg (mt (scan_test_iff hsc hv).mp hfail)]
      refine ih (i + 1) _ _ _ htail hlt (scanned_succ hsc hv) fun j hj => ?_
      by_cases hji : j = i
      · exact hji ▸ hfail
      · exact hno j (by omega)

theorem scanned_zero (vs : List Vec) : Scanned vs 0 none false false := by
  have hno : ∀ p, ¬ flagBefore p vs 0 := fun p ⟨j, hj, _⟩ => absurd hj (by omega)
  exact ⟨by simp [hno], fun k h => by simp at h, by simp [hno], by simp [hno]⟩

theorem firstBadFlag_spec (vs : List Vec) :
    (∃ r < vs.length, firstBadFlag vs = some r ∧ ScanFailsAt vs r ∧ ∀ j < r, ¬ ScanFailsAt vs j) ∨
    ((∀ j < vs.length, ¬ ScanFailsAt vs j) ∧ ∃ m b f, Scanned vs vs.length m b f ∧
      firstBadFlag vs = if b then none else m) :=
  scanFlags_spec vs vs 0 none false false rfl (Nat.zero_le _) (scanned_zero vs) fun j hj => absurd hj (by omega)

/-- A flag is on one vector at most where no index fails. -/
theorem flag_unique_of_noFail {vs : List Vec} (h : ∀ j < vs.length, ¬ ScanFailsAt vs j) {p : Vec → Bool}
    (hp : p ∈ [Vec.loopMark, Vec.loopBack, Vec.last]) {i j : Nat} (hi : flagAt p vs i = true)
    (hj : flagAt p vs j = true) : i = j := by
  by_contra hne
  rcases Nat.lt_or_gt_of_ne hne with hlt | hlt
  · exact h j (flagAt_lt hj) (.inl ⟨p, hp, hj, i, hlt, hi⟩)
  · exact h i (flagAt_lt hi) (.inl ⟨p, hp, hi, j, hlt, hj⟩)

theorem flagsCorrect_of_noFail {vs : List Vec} (h : ∀ j < vs.length, ¬ ScanFailsAt vs j)
    (hb : flagBefore Vec.loopMark vs vs.length → flagBefore Vec.loopBack vs vs.length) : FlagsCorrect vs := by
  have hmark : ∀ j, flagAt Vec.loopBack vs j = true → flagBefore Vec.loopMark vs j := fun j hj => by
    by_contra hc
    exact h j (flagAt_lt hj) (.inr (.inl ⟨hj, hc⟩))
  refine ⟨fun p hp i _ j _ hi hj => flag_unique_of_noFail h hp hi hj, ⟨hb, ?_⟩, fun i _ j _ hi hj => ?_,
    fun i _ j _ hi hj => ?_⟩
  · rintro ⟨j, hj, hat⟩
    obtain ⟨k, hk, hat'⟩ := hmark j hat
    exact ⟨k, by omega, hat'⟩
  · obtain ⟨k, hk, hat⟩ := hmark j hj
    rw [flag_unique_of_noFail h (by simp) hi hat]
    exact hk
  · by_contra hlt
    exact h j (flagAt_lt hj) (.inr (.inr (.inr ⟨.inr hj, i, by omega, hi⟩)))

theorem noFail_of_flagsCorrect {vs : List Vec} (h : FlagsCorrect vs) : ∀ j < vs.length, ¬ ScanFailsAt vs j := by
  obtain ⟨huniq, hmb, hlt, hle⟩ := h
  rintro j hj (⟨p, hp, hat, k, hk, hat'⟩ | ⟨hback, hno⟩ | ⟨hlast, ⟨k, hk, hm⟩, hno⟩ | ⟨hflag, k, hk, hlast⟩)
  · exact absurd (huniq p hp k (flagAt_lt hat') j hj hat' hat) (by omega)
  · obtain ⟨k, hk, hm⟩ := hmb.mpr ⟨j, hj, hback⟩
    exact hno ⟨k, hlt k hk j hj hm hback, hm⟩
  · obtain ⟨b, hb, hback⟩ := hmb.mp ⟨k, flagAt_lt hm, hm⟩
    have := hle j hj b hb hlast hback
    exact hno ⟨b, by omega, hback⟩
  · rcases hflag with hm | hback
    · obtain ⟨b, hb, hback⟩ := hmb.mp ⟨j, hj, hm⟩
      have h1 := hlt j hj b hb hm hback
      have h2 := hle k (flagAt_lt hlast) b hb hlast hback
      omega
    · have := hle k (flagAt_lt hlast) j hj hlast hback
      omega

/-- Settles O42: the scan's invariant carried to the end, and the failing conditions against the flag structure. -/
theorem flagStructureIsScanned : Obligations.FlagStructureIsScanned := by
  intro vs
  rcases firstBadFlag_spec vs with ⟨r, hr, hres, hfail, hfirst⟩ | ⟨hno, m, b, f, hsc, hres⟩
  · refine ⟨⟨fun h => absurd (hres.symm.trans h) (by simp), fun h => absurd hfail (noFail_of_flagsCorrect h r hr)⟩, fun i => ?_⟩
    rw [hres, Option.some.injEq]
    constructor
    · rintro rfl; exact .inl ⟨hr, hfail, hfirst⟩
    · rintro (⟨-, hi, hfirst'⟩ | ⟨hno, -⟩)
      · rcases Nat.lt_trichotomy r i with h | h | h
        · exact absurd hfail (hfirst' r h)
        · exact h
        · exact absurd hi (hfirst i h)
      · exact absurd hfail (hno r hr)
  · obtain ⟨hm, hk, hb, -⟩ := hsc
    rw [hres]
    refine ⟨⟨fun h => flagsCorrect_of_noFail hno fun hmark => ?_, fun h => ?_⟩, fun i => ?_⟩
    · cases hbt : b with
      | true => exact hb.mp hbt
      | false =>
        rw [hbt, if_neg Bool.false_ne_true] at h
        rw [← hm, h] at hmark
        cases hmark
    · obtain ⟨-, hmb, -⟩ := h
      cases hbt : b with
      | true => rfl
      | false =>
        have : ¬ flagBefore Vec.loopMark vs vs.length := fun hmark => by
          have := hb.mpr (hmb.mp hmark)
          rw [hbt] at this; cases this
        rw [← hm] at this
        simpa using this
    · constructor
      · intro h
        cases hbt : b with
        | true => rw [hbt] at h; cases h
        | false =>
          rw [hbt, if_neg Bool.false_ne_true] at h
          exact .inr ⟨hno, hk i h, fun hback => by rw [← hb, hbt] at hback; cases hback⟩
      · rintro (⟨hi, hfail, -⟩ | ⟨-, hat, hback⟩)
        · exact absurd hfail (hno i hi)
        · have hbf : b = false := Bool.eq_false_iff.mpr fun h => hback (hb.mp h)
          obtain ⟨k, rfl⟩ := Option.isSome_iff_exists.mp (hm.mpr ⟨i, flagAt_lt hat, hat⟩)
          rw [hbf, if_neg Bool.false_ne_true, flag_unique_of_noFail hno (by simp) (hk k rfl) hat]

/-! ## PAGE-CLOSE (R84, R86) -/

theorem append_eq_iff (a b : Byte) (x : BitVec 16) : a ++ b = x ↔ a.toNat * 256 + b.toNat = x.toNat := by
  have hb := b.isLt
  have h : (a ++ b).toNat = a.toNat * 256 + b.toNat := by
    rw [BitVec.toNat_append, ← Nat.shiftLeft_add_eq_or_of_lt hb, Nat.shiftLeft_eq]
  rw [← h]
  exact ⟨fun h => congrArg BitVec.toNat h, BitVec.eq_of_toNat_eq⟩

theorem pageArg_of_eq {p : List Byte} {k : Nat} {pg : PageId} (h : u8At p k = pg.val) : pageArg p k = pg := Fin.ext h

/-- Settles O41: PAGE-CLOSE's checks are made in the order of the statement. -/
theorem pageCloseSeals : Obligations.PageCloseSeals := by
  intro f s pg nh nl ch cl h hp n e vecs
  have hlen : f.payload.length = 5 := by rw [hp]; rfl
  have hpg : pageArg f.payload 0 = pg := by rw [hp]; exact Fin.ext (by simp [pageArg])
  have hn : u16At f.payload 1 = n := by rw [hp]; rfl
  have hcrc : u16At f.payload 3 = ch.toNat * 256 + cl.toNat := by rw [hp]; rfl
  have hop : opPageClose f.payload (received s) =
      if ∃ c ∈ s.store.staging, c.page = pg then refuse .busy (received s)
      else if e.state ≠ .opened then refuse .wrongState (received s)
      else if n = 0 ∨ n ≠ e.cursor ∨ ch ++ cl ≠ e.crc then
        refuse .badCheck (received s) (be2 e.cursor ++ be2 e.crc.toNat)
      else
        match firstBadFlag vecs with
        | some i => refuse .badContent (received s) (be2 i)
        | none => done false (modPage pg (fun e => { e with state := .sealed, count := some n }) (received s)) (be2 n) := by
    rw [opPageClose, fixedLen_of_length hlen, hpg, hn, hcrc]
    simp only [stagedFor_iff, ne_eq, append_eq_iff]
    rfl
  show execFrame 0x32 opPageClose f s = _
  by_cases h1 : ∃ c ∈ s.store.staging, c.page = pg
  · rw [if_pos h1] at hop ⊢
    exact execFrame_refuses h hop
  by_cases h2 : e.state ≠ .opened
  · rw [if_neg h1, if_pos h2] at hop ⊢
    exact execFrame_refuses h hop
  by_cases h3 : n = 0 ∨ n ≠ e.cursor ∨ ch ++ cl ≠ e.crc
  · rw [if_neg h1, if_neg h2, if_pos h3] at hop ⊢
    exact execFrame_refuses h hop
  · rw [if_neg h1, if_neg h2, if_neg h3] at hop ⊢
    cases hbad : firstBadFlag vecs with
    | some i => rw [hbad] at hop; exact execFrame_refuses h hop
    | none =>
      rw [hbad] at hop
      have hbe : be2 n = [nh, nl] := be2_pair nh nl
      rw [← hbe]
      exact execFrame_answers h hop rfl

/-! ## PAGE-DATA (R79, R81, R82) -/

theorem flagBits_of_lt {b : Byte} (h : b.toNat < 16) :
    (BitVec.ofBool (b.getLsbD 3) ++ BitVec.ofBool (b.getLsbD 2) ++ BitVec.ofBool (b.getLsbD 1) ++
      BitVec.ofBool (b.getLsbD 0)).zeroExtend 8 = b := by
  have hb := BitVec.eq_of_toNat_eq (x := b) (y := BitVec.ofNat 8 b.toNat) (by simp)
  generalize b.toNat = n at h hb
  subst hb
  interval_cases n <;> decide

/-- A vector record spells its five bytes back. -/
theorem vecAt_bytes {p : List Byte} {k : Nat} (hk : k + 5 ≤ p.length) (h : (p.getD (k + 4) 0).toNat < 16) :
    (vecAt p k).bytes = (p.drop k).take 5 := by
  have hd : (BitVec.ofNat 16 (u16At p k)).toNat = u16At p k := by
    rw [BitVec.toNat_ofNat]; exact Nat.mod_eq_of_lt (u16At_lt p k)
  rw [take_drop_eq_map p k 5 hk]
  simp only [Vec.bytes, vecAt, hd, be2_u16At, Vec.flagBits]
  rw [flagBits_of_lt h]
  rfl

theorem vecValid_iff (p : List Byte) (n : Nat) : ((List.range n).all fun k => vecValidAt p (4 + 5 * k)) = true ↔
    ∀ k < n, (p.getD (8 + 5 * k) 0).toNat < 16 := by
  simp only [List.all_eq_true, List.mem_range, vecValidAt, decide_eq_true_eq]
  exact forall_congr' fun k => by rw [show 4 + 5 * k + 4 = 8 + 5 * k by omega]

theorem arbitrate_of_port {s : State} (h : s.store.port.isSome = true) : arbitrate s = s := if_pos h

/-- An idle port with no fetch waiting is granted to the staging writer (R96). -/
theorem arbitrate_grants_staging {s : State} (hp : s.store.port = none) (hf : ∀ z, (s.zone z).seq.fetch = none)
    (hst : s.store.staging.isSome = true) : arbitrate s = grantStaging s := by
  have hno : ∀ (g : ZoneId → Bool) (ptr : ZoneId), nextZone ptr (fun z => s.fetchWaits z && g z) = none := by
    intro g ptr
    simp [nextZone, State.fetchWaits, hf]
  have hw : s.stagingWaits = true := by simp [State.stagingWaits, hst, hp]
  unfold arbitrate
  rw [hno, hno (fun z => !s.urgentZone z), hw, hp]
  simp

theorem acceptChunk_frame (c : Chunk) (bytes : List Byte) (s : State) :
    acceptChunk c bytes s = { s with store := (acceptChunk c bytes s).store } := by
  obtain ⟨p, e, w, a, b, h⟩ := arbitrate_frame (modStore (fun st => { st with staging := some c, waitCount := 0 })
    (modPage c.page (fun e => { e with crc := crcFeed e.crc bytes, cursor := e.cursor + c.vecs.length }) s))
  unfold acceptChunk
  rw [h]; rfl

theorem acceptChunk_page (c : Chunk) (bytes : List Byte) (s : State) (q : PageId) :
    (acceptChunk c bytes s).page q = if q = c.page then
        { s.page c.page with crc := crcFeed (s.page c.page).crc bytes, cursor := (s.page c.page).cursor + c.vecs.length }
      else s.page q := by
  have h : (acceptChunk c bytes s).page q = (modPage c.page (fun e =>
      { e with crc := crcFeed e.crc bytes, cursor := e.cursor + c.vecs.length }) s).page q := by
    unfold acceptChunk State.page
    rw [arbitrate_pages]; rfl
  rw [h, modPage_page]

/-- The chunk is staged and its request stands, before the port decides (R82). -/
def chunkStaged (c : Chunk) (bytes : List Byte) (s : State) : State :=
  modStore (fun st => { st with staging := some c, waitCount := 0 })
    (modPage c.page (fun e => { e with crc := crcFeed e.crc bytes, cursor := e.cursor + c.vecs.length }) s)

theorem acceptChunk_eq (c : Chunk) (bytes : List Byte) (s : State) :
    acceptChunk c bytes s = arbitrate (chunkStaged c bytes s) := rfl

theorem acceptChunk_busy (c : Chunk) (bytes : List Byte) {s : State} {x : Transfer} (h : s.store.port = some x) :
    (acceptChunk c bytes s).store.port = some x ∧ (acceptChunk c bytes s).store.portEnd = s.store.portEnd ∧
      (acceptChunk c bytes s).store.waitCount = 0 := by
  have hp : (chunkStaged c bytes s).store.port = some x := h
  rw [acceptChunk_eq, arbitrate_of_port (by rw [hp]; rfl)]
  exact ⟨h, rfl, rfl⟩

theorem acceptChunk_granted (c : Chunk) (bytes : List Byte) {s : State} (h : s.store.port = none)
    (hf : ∀ z, (s.zone z).seq.fetch = none) :
    (acceptChunk c bytes s).store.port = some .staging ∧
      (acceptChunk c bytes s).store.portEnd = s.now + c.vecs.length ∧ (acceptChunk c bytes s).store.waitCount = 0 := by
  rw [acceptChunk_eq, arbitrate_grants_staging (s := chunkStaged c bytes s) h hf rfl]
  exact ⟨rfl, rfl, rfl⟩

section
variable {p : List Byte} {s : State} {pg : PageId} (hpg : u8At p 0 = pg.val) (hlen : p.length = 4 + 5 * u8At p 3)
  (h1 : 1 ≤ u8At p 3) (h48 : u8At p 3 ≤ 48) (hflags : ∀ k < u8At p 3, (p.getD (8 + 5 * k) 0).toNat < 16)
  (hopen : (s.page pg).state = .opened)
include hpg hlen h1 h48 hflags hopen

/-- PAGE-DATA of a well-formed chunk for an OPEN page. -/
theorem opPageData_of_opened : opPageData p s =
    if u16At p 1 ≠ (s.page pg).cursor then refuse .outOfOrder s (be2 (s.page pg).cursor)
    else if 512 < u16At p 1 + u8At p 3 then refuse .badValue s
    else if s.store.staging.isSome then refuse .busy s (be2 (s.page pg).cursor)
    else done false (acceptChunk ⟨pg, u16At p 1, vecsAt p (u8At p 3)⟩ (p.drop 4) s)
      (be2 ((s.page pg).cursor + u8At p 3)) := by
  have hvalid : ¬ (u8At p 3 = 0 ∨ 48 < u8At p 3 ∨
      ((List.range (u8At p 3)).all fun k => vecValidAt p (4 + 5 * k)) = false) := by
    rw [(vecValid_iff p _).mpr hflags]
    rintro (h | h | h)
    · omega
    · omega
    · cases h
  unfold opPageData
  dsimp only
  rw [if_neg (not_not.mpr hlen), if_neg hvalid, pageArg_of_eq hpg, if_neg (not_not.mpr hopen)]

end

/-- Settles O40: the three refusals in order, and else the chunk is staged and its write requested. -/
theorem pageDataStagesTheChunk : Obligations.PageDataStagesTheChunk := by
  intro f s pg h hpg p n hlen h1 h48 hflags hopen cursor
  have hop := opPageData_of_opened (s := received s) hpg hlen h1 h48 hflags hopen
  rw [received_page] at hop
  refine ⟨fun hc => ?_, fun hc h512 => ?_, fun hc h512 hst => ?_, fun hc h512 hst => ?_⟩
  · rw [if_pos hc] at hop
    exact execFrame_refuses h hop
  · have hgt : 512 < u16At f.payload 1 + u8At f.payload 3 := by rw [show u16At f.payload 1 = cursor from hc]; exact h512
    rw [if_neg (not_not.mpr hc), if_pos hgt] at hop
    exact execFrame_refuses h hop
  · have hgt : ¬ 512 < u16At f.payload 1 + u8At f.payload 3 := by
      rw [show u16At f.payload 1 = cursor from hc]; exact Nat.not_lt.mpr h512
    rw [if_neg (not_not.mpr hc), if_neg hgt, received_store, if_pos hst] at hop
    exact execFrame_refuses h hop
  · have hgt : ¬ 512 < u16At f.payload 1 + u8At f.payload 3 := by
      rw [show u16At f.payload 1 = cursor from hc]; exact Nat.not_lt.mpr h512
    rw [if_neg (not_not.mpr hc), if_neg hgt, received_store, hst, if_neg (by simp)] at hop
    have hfr := acceptChunk_frame ⟨pg, u16At f.payload 1, vecsAt f.payload n⟩ (f.payload.drop 4) (received s)
    have hvl : (vecsAt f.payload n).length = n := by simp [vecsAt]
    have hpage := acceptChunk_page ⟨pg, u16At f.payload 1, vecsAt f.payload n⟩ (f.payload.drop 4) (received s)
    rw [hvl] at hpage
    refine ⟨_, ⟨pg, u16At f.payload 1, vecsAt f.payload n⟩, execFrame_answers h hop (by rw [hfr]), ?_, ?_, rfl, hc, hvl,
      fun k hk v hv => ?_, ?_, fun q hq => ?_, ?_, ?_, fun x hx => ?_, fun hport hfetch => ?_⟩
    · exact congrArg (fun t : State => { t with link := answered 0x31 f .ok (be2 (cursor + n)) s.link }) hfr
    · exact congrArg (fun st : Option Chunk => st) (arbitrate_staging (chunkStaged _ _ _))
    · have hv' : (vecsAt f.payload n)[k]? = some v := hv
      simp only [vecsAt, List.getElem?_map, List.getElem?_range hk, Option.map_some, Option.some.injEq] at hv'
      subst hv'
      exact vecAt_bytes (by rw [show f.payload.length = 4 + 5 * n from hlen]; omega)
        (by rw [show 4 + 5 * k + 4 = 8 + 5 * k by omega]; exact hflags k hk)
    · exact (hpage pg).trans (if_pos rfl)
    · exact (hpage q).trans (if_neg hq)
    · exact arbitrate_mem (chunkStaged _ _ _)
    · exact arbitrate_programs (chunkStaged _ _ _)
    · exact acceptChunk_busy _ _ (s := received s) hx
    · obtain ⟨h1, h2, h3⟩ := acceptChunk_granted ⟨pg, u16At f.payload 1, vecsAt f.payload n⟩ (f.payload.drop 4)
        (s := received s) hport hfetch
      exact ⟨h1, h2.trans (by rw [hvl]; rfl), h3⟩

end Sys2Proof.Proofs.Loading

/-! PROGRAM-DEFINE: the program record that a payload spells, and what is stored of it. -/

namespace Sys2Proof.Proofs.Programs

open Sys2Proof.Machine Sys2Proof.Safety Sys2Proof.Proofs.PatternStore Sys2Proof.Proofs.Requests
open Sys2Proof.Proofs.Settings Sys2Proof.Proofs.Records Sys2Proof.Proofs.Loading

/-! ## A payload cut into its fields -/

theorem drop_one (p : List Byte) (a : Nat) (h : a + 1 ≤ p.length) : p.drop a = [p.getD a 0] ++ p.drop (a + 1) := by
  rw [List.drop_eq_getElem_cons (by omega : a < p.length)]
  simp [List.getD_eq_getElem?_getD, show a < p.length by omega]

theorem drop_two (p : List Byte) (a : Nat) (h : a + 2 ≤ p.length) :
    p.drop a = [p.getD a 0, p.getD (a + 1) 0] ++ p.drop (a + 2) := by
  rw [drop_one p a (by omega), drop_one p (a + 1) (by omega)]
  rfl

theorem drop_list (p : List Byte) (a n : Nat) (h : a + n ≤ p.length) :
    p.drop a = ((List.range n).map fun k => p.getD (a + k) 0) ++ p.drop (a + n) := by
  rw [← take_drop_eq_map p a n h, ← List.drop_drop, List.take_append_drop]

theorem pageArg_byte (p : List Byte) (k : Nat) : (BitVec.ofNat 8 (pageArg p k).val : Byte) = p.getD k 0 := by
  apply BitVec.eq_of_toNat_eq
  simp [pageArg]

/-- The page list of a payload, by its bytes. -/
theorem pageArgs_eq (p : List Byte) (m : Nat) (h : 2 + m ≤ p.length) :
    ((List.range m).map fun k => pageArg p (2 + k)) = ((p.drop 2).take m).map fun b => b.toFin := by
  rw [take_drop_eq_map p 2 m h, List.map_map]
  rfl

theorem checkModeOf_some {b : Byte} (h : b.toNat ≤ 2) : ∃ mode, checkModeOf b = some mode ∧ mode.code = b := by
  have h3 : b.toNat < 3 := by omega
  have hb := BitVec.eq_of_toNat_eq (x := b) (y := BitVec.ofNat 8 b.toNat) (by simp)
  generalize b.toNat = n at h3 hb
  subst hb
  interval_cases n <;> exact ⟨_, rfl, rfl⟩

theorem checkModeOf_none {b : Byte} (h : 2 < b.toNat) : checkModeOf b = none := by
  have hne : ∀ n < 3, b ≠ BitVec.ofNat 8 n := by
    rintro n hn rfl
    simp only [BitVec.toNat_ofNat] at h
    omega
  have h0 : b ≠ 0 := hne 0 (by omega)
  have h1 : b ≠ 1 := hne 1 (by omega)
  have h2 : b ≠ 2 := hne 2 (by omega)
  rw [checkModeOf, if_neg h0, if_neg h1, if_neg h2]

/-- The length that a payload of PROGRAM-DEFINE must have (R91 step 1). -/
def programLength (p : List Byte) : Nat :=
  15 + u8At p 1 + (if (p.getD (14 + u8At p 1) 0).getLsbD 0 then 3 else 0) +
    (if (p.getD (14 + u8At p 1) 0).getLsbD 1 then 9 else 0)

theorem programLengthOk_iff (p : List Byte) : programLengthOk p = true ↔ p.length = programLength p := by
  simp only [programLengthOk, Bool.and_eq_true, decide_eq_true_eq]
  refine ⟨fun h => h.2, fun h => ⟨?_, h⟩⟩
  unfold programLength at h
  omega

section
variable {p : List Byte} (hlen : p.length = programLength p)
include hlen

/-- The optional parts are what is left of a payload behind its parts byte. -/
theorem programParts_bytes (mode : CheckMode) :
    sigBytes (programSent p mode).sig ++ hbBytes (programSent p mode).hb = p.drop (15 + u8At p 1) := by
  unfold programLength at hlen
  have hcrc : ∀ k, be2 (BitVec.ofNat 16 (u16At p k)).toNat = [p.getD k 0, p.getD (k + 1) 0] := fun k => by
    rw [BitVec.toNat_ofNat, Nat.mod_eq_of_lt (u16At_lt p k), be2_u16At]
  have hnil : p.drop p.length = [] := List.drop_length
  have hsig : ∀ a, a + 3 ≤ p.length → p.drop a = [p.getD a 0, p.getD (a + 1) 0] ++ [p.getD (a + 2) 0] ++ p.drop (a + 3) :=
    fun a ha => by rw [drop_two p a (by omega), drop_one p (a + 2) (by omega), List.append_assoc]
  have hhb : ∀ a, a + 9 = p.length → p.drop a = be2 (u16At p a) ++ be2 (u16At p (a + 2)) ++ be2 (u16At p (a + 4)) ++
      be2 (u16At p (a + 6)) ++ be1 (u8At p (a + 8)) := fun a ha => by
    rw [drop_two p a (by omega), drop_two p (a + 2) (by omega), drop_two p (a + 4) (by omega),
      drop_two p (a + 6) (by omega), drop_one p (a + 8) (by omega), show a + 8 + 1 = p.length by omega, hnil]
    simp only [be2_u16At, be1_u8At]
    simp
  unfold programSent
  dsimp only
  cases hs : (p.getD (14 + u8At p 1) 0).getLsbD 0 <;> cases hh : (p.getD (14 + u8At p 1) 0).getLsbD 1 <;>
    simp only [hs, hh, Bool.false_eq_true, if_false, if_true, sigBytes, hbBytes, hcrc] at hlen ⊢
  · rw [show 15 + u8At p 1 = p.length by omega, hnil]; rfl
  · rw [hhb (15 + u8At p 1) (by omega)]; rfl
  · rw [hsig (15 + u8At p 1) (by omega), show 15 + u8At p 1 + 3 = p.length by omega, hnil]
    simp [show 15 + u8At p 1 + 1 = 16 + u8At p 1 by omega, show 15 + u8At p 1 + 2 = 17 + u8At p 1 by omega]
  · rw [hsig (15 + u8At p 1) (by omega), show 15 + u8At p 1 + 3 = 18 + u8At p 1 by omega, hhb (18 + u8At p 1) (by omega)]
    simp [show 15 + u8At p 1 + 1 = 16 + u8At p 1 by omega, show 15 + u8At p 1 + 2 = 17 + u8At p 1 by omega]

end

/-! ## The bytes of a program record (11 §11.5) -/

/-- The bytes of a program record up to its parts byte. -/
def headBytes (d : Program) : List Byte :=
  be1 d.pages.length ++ (d.pages.map (fun pg => BitVec.ofNat 8 pg.val) ++ (be2 d.lastCount ++ (be2 d.loopRep ++
    (be2 d.divN ++ (be1 d.fracF ++ (be2 d.gap ++ (be2 d.idleWord.toNat ++ [d.mode.code])))))))

/-- The parts byte of a program record. -/
def partsByte (d : Program) : Byte := BitVec.ofNat 8 (bits1 [d.sig.isSome, d.hb.isSome])

theorem program_bytes_eq (d : Program) :
    d.bytes = headBytes d ++ (partsByte d :: (sigBytes d.sig ++ hbBytes d.hb)) := by
  simp only [Program.bytes, headBytes, partsByte, be1, List.append_assoc, List.cons_append,
    List.nil_append]

theorem headBytes_length (d : Program) : (headBytes d).length = 13 + d.pages.length := by
  simp [headBytes, be1, be2]; omega

theorem program_bytes_parts (d : Program) : d.bytes.getD (13 + d.pages.length) 0 = partsByte d := by
  rw [program_bytes_eq, List.getD_eq_getElem?_getD,
    List.getElem?_append_right (by rw [headBytes_length]), headBytes_length]
  simp

section
variable {p : List Byte} (hlen : p.length = programLength p) {mode : CheckMode}
  (hmode : mode.code = p.getD (13 + u8At p 1) 0)
include hlen hmode

/-- The payload behind its slot byte is the record sent, but for the parts byte's unused bits. -/
theorem programSent_bytes : (p.drop 1).set (13 + u8At p 1) (partsByte (programSent p mode)) = (programSent p mode).bytes := by
  have hl : 15 + u8At p 1 ≤ p.length := by unfold programLength at hlen; omega
  have hpages : (programSent p mode).pages.length = u8At p 1 := by simp [programSent]
  have hhead : headBytes (programSent p mode) ++ p.drop (14 + u8At p 1) = p.drop 1 := by
    have hidle : (programSent p mode).idleWord.toNat = u16At p (11 + u8At p 1) := by
      show (BitVec.ofNat 16 (u16At p (11 + u8At p 1))).toNat = _
      rw [BitVec.toNat_ofNat]; exact Nat.mod_eq_of_lt (u16At_lt p _)
    rw [drop_one p 1 (by omega), drop_list p 2 (u8At p 1) (by omega), drop_two p (2 + u8At p 1) (by omega),
      drop_two p (2 + u8At p 1 + 2) (by omega), drop_two p (2 + u8At p 1 + 2 + 2) (by omega),
      drop_one p (2 + u8At p 1 + 2 + 2 + 2) (by omega), drop_two p (2 + u8At p 1 + 2 + 2 + 2 + 1) (by omega),
      drop_two p (2 + u8At p 1 + 2 + 2 + 2 + 1 + 2) (by omega),
      drop_one p (2 + u8At p 1 + 2 + 2 + 2 + 1 + 2 + 2) (by omega)]
    unfold headBytes
    rw [hidle, hpages]
    simp only [programSent, be1_u8At, be2_u16At, hmode, List.map_map, Function.comp_def, pageArg_byte]
    simp only [show 2 + u8At p 1 + 2 = 4 + u8At p 1 by omega, show 4 + u8At p 1 + 2 = 6 + u8At p 1 by omega,
      show 6 + u8At p 1 + 2 = 8 + u8At p 1 by omega, show 8 + u8At p 1 + 1 = 9 + u8At p 1 by omega,
      show 9 + u8At p 1 + 2 = 11 + u8At p 1 by omega, show 11 + u8At p 1 + 2 = 13 + u8At p 1 by omega,
      show 13 + u8At p 1 + 1 = 14 + u8At p 1 by omega, List.append_assoc, List.cons_append,
      List.nil_append]
  rw [← hhead, List.set_append_right _ _ (by rw [headBytes_length, hpages]), headBytes_length, hpages,
    Nat.sub_self, drop_one p (14 + u8At p 1) (by omega), show 14 + u8At p 1 + 1 = 15 + u8At p 1 by omega,
    ← programParts_bytes hlen mode, program_bytes_eq]
  rfl

end

/-- The heartbeat part fits its bytes. -/
def HbFits (h : HbPart) : Prop :=
  h.tMin < 65536 ∧ h.tWin < 65536 ∧ h.tReset < 65536 ∧ h.tIgnore < 65536 ∧ h.cycleLimit < 256

theorem hbBytes_inj {g h : HbPart} (hg : HbFits g) (hh : HbFits h) (he : hbBytes (some g) = hbBytes (some h)) : g = h := by
  obtain ⟨a1, a2, a3, a4, a5⟩ := hg
  obtain ⟨b1, b2, b3, b4, b5⟩ := hh
  have e2 : ∀ (a b : Nat) (l m : List Byte), be2 a ++ l = be2 b ++ m → be2 a = be2 b ∧ l = m :=
    fun a b l m h => List.append_inj h rfl
  simp only [hbBytes, List.append_assoc] at he
  obtain ⟨h1, he⟩ := e2 _ _ _ _ he
  obtain ⟨h2, he⟩ := e2 _ _ _ _ he
  obtain ⟨h3, he⟩ := e2 _ _ _ _ he
  obtain ⟨h4, h5⟩ := e2 _ _ _ _ he
  cases g; cases h
  rw [HbPart.mk.injEq]
  exact ⟨be2_inj a1 b1 h1, be2_inj a2 b2 h2, be2_inj a3 b3 h3, be2_inj a4 b4 h4, be1_inj a5 b5 h5⟩

theorem hbTaken_fits {h : HbPart} : HbFits h.taken := by
  simp only [HbFits, HbPart.taken, clampNat]; omega

/-- A program taken has the bytes of the one sent exactly when nothing was clamped. -/
theorem programTaken_bytes_iff {d : Program} (hl : d.loopRep < 65536) (hd : d.divN < 65536) (hf : d.fracF < 256)
    (hg : d.gap < 65536) (hh : ∀ h, d.hb = some h → HbFits h) : d.taken.bytes = d.bytes ↔ d.taken = d := by
  refine ⟨fun h => ?_, fun h => congrArg Program.bytes h⟩
  have e2 : ∀ (a b : Nat) (l m : List Byte), be2 a ++ l = be2 b ++ m → be2 a = be2 b ∧ l = m :=
    fun a b l m h => List.append_inj h rfl
  have e1 : ∀ (a b : Nat) (l m : List Byte), be1 a ++ l = be1 b ++ m → be1 a = be1 b ∧ l = m :=
    fun a b l m h => List.append_inj h rfl
  rw [program_bytes_eq, program_bytes_eq] at h
  obtain ⟨hhead, htail⟩ := List.append_inj h (by rw [headBytes_length, headBytes_length]; rfl)
  unfold headBytes at hhead
  obtain ⟨-, hhead⟩ := e1 _ _ _ _ hhead
  have hhead := List.append_cancel_left hhead
  obtain ⟨-, hhead⟩ := e2 _ _ _ _ hhead
  obtain ⟨h1, hhead⟩ := e2 _ _ _ _ hhead
  obtain ⟨h2, hhead⟩ := e2 _ _ _ _ hhead
  obtain ⟨h3, hhead⟩ := e1 _ _ _ _ hhead
  obtain ⟨h4, -⟩ := e2 _ _ _ _ hhead
  have t1 : d.taken.loopRep = d.loopRep := be2_inj (by simp only [Program.taken, clampNat]; omega) hl h1
  have t2 : d.taken.divN = d.divN := be2_inj (by simp only [Program.taken, clampNat]; omega) hd h2
  have t3 : d.taken.fracF = d.fracF := be1_inj (by simp only [Program.taken, clampNat]; omega) hf h3
  have t4 : d.taken.gap = d.gap := be2_inj (by simp only [Program.taken, clampNat]; omega) hg h4
  have t5 : d.taken.hb = d.hb := by
    have hhb : hbBytes d.taken.hb = hbBytes d.hb := List.append_cancel_left (List.cons.inj htail).2
    show d.hb.map HbPart.taken = d.hb
    cases hcase : d.hb with
    | none => rfl
    | some x =>
      have hx : d.taken.hb = some x.taken := by show d.hb.map HbPart.taken = _; rw [hcase]; rfl
      rw [hx, hcase] at hhb
      exact congrArg some (hbBytes_inj hbTaken_fits (hh x hcase) hhb)
  have heta : d.taken = { d with
      loopRep := d.taken.loopRep, divN := d.taken.divN, fracF := d.taken.fracF, gap := d.taken.gap, hb := d.taken.hb } := rfl
  rw [heta, t1, t2, t3, t4, t5]

theorem programSent_taken_iff (p : List Byte) (mode : CheckMode) :
    (programSent p mode).taken.bytes = (programSent p mode).bytes ↔ (programSent p mode).taken = programSent p mode := by
  refine programTaken_bytes_iff (u16At_lt p _) (u16At_lt p _) (u8At_lt p _) (u16At_lt p _) fun h hh => ?_
  simp only [programSent] at hh
  split at hh
  · cases hh
    exact ⟨u16At_lt p _, u16At_lt p _, u16At_lt p _, u16At_lt p _, u8At_lt p _⟩
  · cases hh

theorem progArg_some {p : List Byte} {j : Nat} {k : ProgId} (h : u8At p j = k.val) : progArg p j = some k := by
  have hb : u8At p j < 16 := h ▸ k.isLt
  exact (dif_pos hb).trans (congrArg some (Fin.ext h))

theorem progArg_none {p : List Byte} {j : Nat} (h : 15 < u8At p j) : progArg p j = none := dif_neg (by omega)

theorem lastPageCount_eq (s : State) (l : List PageId) :
    s.lastPageCount l = (l.getLast?.map fun pg => ((s.page pg).count).getD 0).getD 0 := by
  unfold State.lastPageCount
  cases l.getLast? <;> rfl

/-- R91's second step passes: the program's own fields can be taken. -/
theorem programSent_fieldsOk {p : List Byte} {mode : CheckMode} (hm : 1 ≤ u8At p 1) (hm32 : u8At p 1 ≤ 32)
    (hc : 1 ≤ u16At p (2 + u8At p 1)) (hc512 : u16At p (2 + u8At p 1) ≤ 512)
    (hsig : mode ≠ .strobe → (p.getD (14 + u8At p 1) 0).getLsbD 0 = true) : (programSent p mode).fieldsOk = true := by
  have hlen : (programSent p mode).pages.length = u8At p 1 := by simp [programSent]
  simp only [Program.fieldsOk, Bool.and_eq_true, decide_eq_true_eq, Bool.or_eq_true, beq_iff_eq]
  refine ⟨⟨by omega, by omega, hc, hc512⟩, ?_⟩
  by_cases h : mode = .strobe
  · exact .inl h
  · have hs : (programSent p mode).sig = some ⟨BitVec.ofNat 16 (u16At p (15 + u8At p 1)), p.getD (17 + u8At p 1) 0⟩ :=
      if_pos (hsig h)
    exact .inr (by rw [hs]; rfl)

/-- Settles O43: R91's checks pass, and the program stored is the one taken, its bytes those of the payload as clamped. -/
theorem programDefineStores : Obligations.ProgramDefineStores := by
  intro f s k h hk p m parts hoff pages old hlen hm hm32 hc hc512 hmd hsig huse hsealed hlast
  obtain ⟨mode, hmode, hcode⟩ := checkModeOf_some hmd
  have hlp : p.length = programLength p := hlen
  have hpages : (programSent p mode).pages = pages := pageArgs_eq p m (by omega)
  have hfields : (programSent p mode).fieldsOk = true := programSent_fieldsOk hm hm32 hc hc512 fun hne => hsig fun h0 => by
    rw [← hcode] at h0
    cases mode
    · exact hne rfl
    · cases h0
    · cases h0
  have hunsealed : (received s).firstUnsealed (programSent p mode).pages = none := by
    rw [State.firstUnsealed, List.find?_eq_none, hpages]
    intro pg hpg
    simp [hsealed pg hpg]
  have hcount : ¬ (received s).lastPageCount (programSent p mode).pages < (programSent p mode).lastCount := by
    rw [lastPageCount_eq, hpages, Nat.not_lt]
    show u16At p (2 + m) ≤ _
    cases hl : pages.getLast? with
    | none =>
      have hnil : pages = [] := List.getLast?_eq_none_iff.mp hl
      have : pages.length = m := by rw [← hpages]; simp [programSent, m]
      rw [hnil] at this
      simp at this
      omega
    | some pg => exact hlast pg hl
  have hop : opProgramDefine f.payload (received s) =
      done ((programSent p mode).taken != programSent p mode) (setProgram k (some (programSent p mode).taken) (received s))
        (be1 k.val ++ (programSent p mode).taken.bytes) := by
    have hok : programLengthOk f.payload = true := (programLengthOk_iff p).mpr hlp
    have hmode' : checkModeOf (f.payload.getD (13 + u8At f.payload 1) 0) = some mode := hmode
    have hfields' : (programSent f.payload mode).fieldsOk = true := hfields
    have hunsealed' : (received s).firstUnsealed (programSent f.payload mode).pages = none := hunsealed
    rw [opProgramDefine, hok, progArg_some hk, hmode']
    simp only [Bool.true_eq_false, if_false, hfields', received_inUse, huse, Bool.false_eq_true, hunsealed']
    exact if_neg hcount
  have hparts : partsByte (programSent p mode).taken = partsByte (programSent p mode) := by
    simp [partsByte, Program.taken]
  have hiff : ((programSent p mode).taken != programSent p mode) = false ↔
      (p.drop 1).set (13 + m) ((programSent p mode).taken.bytes.getD (13 + m) 0) = (programSent p mode).taken.bytes := by
    have hlenp : (programSent p mode).taken.pages.length = m := by
      show (programSent p mode).pages.length = m
      simp [programSent, m]
    have hget := program_bytes_parts (programSent p mode).taken
    rw [hlenp] at hget
    rw [hget, hparts, programSent_bytes hlp hcode, bne_eq_false_iff_eq, ← programSent_taken_iff, eq_comm]
  rw [done_eq _ _ hiff] at hop
  have hfr := setProgram_frame k (some (programSent p mode).taken) (received s)
  refine ⟨_, (programSent p mode).taken, execFrame_answers h hop (by rw [hfr]), hpages, rfl, ?_, ?_, ?_, ?_, rfl, hcode,
    rfl, ?_, ?_, fun pg => ?_⟩
  · have := u16At_lt p (4 + m)
    show clampNat 1 65535 (u16At p (4 + m)) = _
    unfold clampNat; omega
  · have := u16At_lt p (6 + m)
    show clampNat 4 65535 (u16At p (6 + m)) = _
    unfold clampNat; omega
  · show clampNat 0 15 (u8At p (8 + m)) = _
    unfold clampNat; omega
  · show clampNat 0 60000 (u16At p (9 + m)) = _
    unfold clampNat; omega
  · show (if parts.getLsbD 1 then _ else none : Option HbPart).map HbPart.taken = _
    split
    · simp only [Option.map_some, HbPart.taken, clampNat, Option.some.injEq, HbPart.mk.injEq]
      exact ⟨rfl, rfl, rfl, Nat.zero_max _, Nat.zero_max _⟩
    · rfl
  · exact congrArg (fun t : State => { t with
      link := answered 0x38 f (if (p.drop 1).set (13 + m) ((programSent p mode).taken.bytes.getD (13 + m) 0) =
          (programSent p mode).taken.bytes then .ok else .clamped)
        (be1 k.val ++ (programSent p mode).taken.bytes) s.link }) hfr
  · refine (setProgram_page k (some (programSent p mode).taken) (received s) pg).trans ?_
    rw [← hpages]
    rfl

end Sys2Proof.Proofs.Programs

section
-- One theorem after the other: the proofs below turn on default arguments found by tactics, and the threads that wait for
-- those would fill the memory of a compile of the whole text.
set_option Elab.async false

/-! What each operation of the model touches, said once: the pieces of the state and the laws that are read off them, and
for each operation the list of the pieces it may change and of the laws it may break. Every other piece stands, and every
other law is kept. -/

namespace Sys2Proof.Proofs.Frames

open Sys2Proof.Machine Sys2Proof.Safety

/-! ## Laws -/

/-- The laws that the operations keep. -/
inductive Law where
  | lanes | logs | heat | share | runTable | limit | final | accounts | fresh | rails | demand | slots | hold
  | trip | runs | places | port | seqs

/-- A final socket's marks: FINAL in its set, and its thermal state OFF (R157, R163). -/
def Marked (k : Socket) : Prop := k.rail.inhibit.final = true ∧ k.therm.state = .off

/-- What carries the demand of a rail: each timer in its states, RUN where the rail must carry it, and no OFF with an
empty set; a rail `x` may be in REST with no off-time running, as it is between its trip and the end of that change
(R42). -/
def RailDemands (x mustRun : Prop) (r : Rail) : Prop :=
  (r.phase1Timer.isSome = true ↔ r.state = .ramp1) ∧ (r.rampTimer.isSome = true ↔ r.state = .ramp1 ∨ r.state = .ramp2) ∧
  (r.stableTimer.isSome = true → r.state = .on) ∧ (r.offTimer.isSome = true → r.state = .off ∨ r.state = .rest) ∧
  (r.state = .rest → x ∨ r.offTimer.isSome = true) ∧ (mustRun → r.inhibit.run = true) ∧
  (r.inhibit.isEmpty = true → r.state ≠ .off)

/-- What carries the demand of the rails, the ramp slots apart, with RUN in the sets of the sockets of `M`, and those of `X`
let off REST's timer. -/
def Demands (M X : SocketId → Prop) (s : State) : Prop :=
  RailLaws s ∧ ∀ i : SocketId, RailDemands (X i) (M i) (s.sock i).rail

/-- The zone's slots are both held where one of its sockets waits and it has a profile (R33). -/
def SlotsFullAt (z : ZoneId) (s : State) : Prop := (s.zone z).railProf.isSome = true →
  (s.zone z).rampQueue ≠ [] → 2 ≤ (s.slotHolders z).length

/-- Laws 1 to 3, and the slots held in every zone but those of `Z`. -/
def SlotsFull (Z : ZoneId → Prop) (s : State) : Prop := RailLaws s ∧ ∀ z : ZoneId, ¬ Z z → SlotsFullAt z s

/-- Under a PERMIT hold every STRESSING socket carries PERMIT and is out of thermal control (R13, R58). -/
def PermitHolds (s : State) : Prop := s.run.holds.permit = true → s.run.state = .held ∧
  ∀ i : SocketId, (s.sock i).life = .stressing →
    (s.sock i).rail.inhibit.permit = true ∧ (s.sock i).therm.state.control = false

/-- The causes stand for the thermal states, and no hot socket is under control or in HELD (R65). -/
def TripsStand (s : State) : Prop := ∀ i : SocketId, CausesStand s i ∧
  (s.hot i = true → (s.sock i).therm.state.control = false ∧ (s.sock i).therm.state ≠ .held)

/-- The socket is in no run: none is started, or it is not declared in it. -/
def OutOfRun (s : State) (i : SocketId) : Prop := s.started = false ∨ s.declared i = false

/-- RUN stands in the set of every socket that is in no run (02 §2.3). -/
def RunsStand (s : State) : Prop := ∀ i : SocketId, OutOfRun s i → (s.sock i).rail.inhibit.run = true

/-- A zone in IDLE, STATIC or DONE has no fetch, and out of a run every zone is in IDLE (R99, R121). -/
def PlaceFits (started : Bool) (q : Seq) : Prop :=
  (q.state = .idle ∨ q.state = .static ∨ q.state = .done → q.fetch = none) ∧ (started = false → q.state = .idle)

/-- Every zone is where it may be. -/
def PlacesStand (s : State) : Prop := ∀ z : ZoneId, PlaceFits s.started (s.zone z).seq

/-- The law holds in `t` where it held in `s`; for the final sockets, what becomes of them between the two. -/
def Law.Kept : Law → State → State → Prop
  | .lanes, s, t => (s.notices.urgent.length ≤ 16 → t.notices.urgent.length ≤ 16) ∧
      (s.notices.routine.length ≤ 32 → t.notices.routine.length ≤ 32)
  | .logs, s, t => Law7 s → Law7 t
  | .heat, s, t => Law5 s → Law5 t
  | .share, s, t => Law4 s → Law4 t
  | .runTable, s, t => RunTable s → RunTable t
  | .limit, s, t => LimitInv s → LimitInv t
  | .final, s, t => ∀ i, (Marked (s.sock i) → Marked (t.sock i)) ∧
      ((t.sock i).life.final = true → (s.sock i).life.final = true ∨ Marked (t.sock i))
  | .accounts, s, t => ∀ i, (s.sock i).life.final = true →
      (t.sock i).life = (s.sock i).life ∧ (t.sock i).acct = (s.sock i).acct
  | .fresh, s, t => FreshLives s → FreshLives t
  | .rails, s, t => RailLaws s → RailLaws t
  | .demand, s, t => ∀ M X, Demands M X s → Demands M X t
  | .slots, s, t => ∀ Z, SlotsFull Z s → SlotsFull Z t
  | .hold, s, t => PermitHolds s → PermitHolds t
  | .trip, s, t => TripsStand s → TripsStand t
  | .runs, s, t => RunsStand s → RunsStand t
  | .places, s, t => PlacesStand s → PlacesStand t
  | .port, s, t => PortInv s → PortInv t
  | .seqs, s, t => SeqInv s → SeqInv t

theorem Law.Kept.refl (x : Law) (s : State) : x.Kept s s := by
  cases x with
  | final => exact fun i => ⟨id, .inl⟩
  | accounts => exact fun i _ => ⟨rfl, rfl⟩
  | lanes => exact ⟨id, id⟩
  | demand => exact fun _ _ h => h
  | slots => exact fun _ h => h
  | _ => exact fun h => h

theorem Law.Kept.trans {x : Law} {s t u : State} (h : x.Kept s t) (g : x.Kept t u) : x.Kept s u := by
  cases x with
  | final =>
    intro i
    obtain ⟨h1, h2⟩ := h i
    obtain ⟨g1, g2⟩ := g i
    exact ⟨g1 ∘ h1, fun hu => (g2 hu).elim (fun ht => (h2 ht).imp id g1) .inr⟩
  | accounts =>
    intro i hs
    obtain ⟨hlife, hacct⟩ := h i hs
    obtain ⟨glife, gacct⟩ := g i (hlife ▸ hs)
    exact ⟨glife.trans hlife, gacct.trans hacct⟩
  | lanes => exact ⟨g.1 ∘ h.1, g.2 ∘ h.2⟩
  | demand => exact fun m x hx => g m x (h m x hx)
  | slots => exact fun x hx => g x (h x hx)
  | _ => exact fun hs => g (h hs)

/-! ## Pieces of the state -/

/-- A piece of the state that operations touch or leave alone, or a law that they break or keep. -/
inductive Piece where
  | life | bin | railState | inhibit | timers | power | sample | trips | therm | live | checked | context | acct
  | railProf | queue | thermProf | budget | armed | seq | chk
  | runState | record | clock | permit
  | mem | pages | programs | staging | port
  | urgent | routine | link | straps | now | draws | pending
  | law (x : Law)

/-- The piece reads the same in the socket record `k'` as in `k`. -/
def SockSame : Piece → Socket → Socket → Prop
  | .life, k, k' => k'.life = k.life
  | .bin, k, k' => k'.bin = k.bin
  | .railState, k, k' => k'.rail.state = k.rail.state
  | .inhibit, k, k' => k'.rail.inhibit = k.rail.inhibit
  | .timers, k, k' => k'.rail.offTimer = k.rail.offTimer ∧ k'.rail.stableTimer = k.rail.stableTimer ∧
      k'.rail.phase1Timer = k.rail.phase1Timer ∧ k'.rail.rampTimer = k.rail.rampTimer
  | .power, k, k' => k'.rail.power = k.rail.power
  | .sample, k, k' => k'.rail.lastCurrent = k.rail.lastCurrent ∧ k'.rail.window = k.rail.window ∧
      k'.rail.voltage = k.rail.voltage
  | .trips, k, k' => k'.rail.trips = k.rail.trips
  | .therm, k, k' => k'.therm = k.therm
  | .live, k, k' => k'.live = k.live
  | .checked, k, k' => k'.pass.checked = k.pass.checked
  | .context, k, k' => k'.pass = { k.pass with checked := k'.pass.checked }
  | .acct, k, k' => k'.acct = k.acct
  | _, _, _ => True

/-- The piece reads the same in the zone `k'` as in `k`. -/
def ZoneSame : Piece → Zone → Zone → Prop
  | .railProf, k, k' => k'.railProf = k.railProf
  | .queue, k, k' => k'.rampQueue = k.rampQueue
  | .thermProf, k, k' => k'.thermProf = k.thermProf
  | .budget, k, k' => k'.budget = k.budget
  | .armed, k, k' => k'.armed = k.armed
  | .seq, k, k' => k'.seq = k.seq
  | .chk, k, k' => k'.chk = k.chk
  | _, _, _ => True

/-- The piece reads the same in `t` as in `s`, sockets and zones apart; a law is kept. -/
def BoardSame : Piece → State → State → Prop
  | .runState, s, t => t.run.state = s.run.state ∧ t.run.holds = s.run.holds ∧ t.run.acctTimer = s.run.acctTimer
  | .record, s, t => t.run.record = s.run.record
  | .clock, s, t => t.run.clock = s.run.clock
  | .permit, s, t => t.run.permitTimeout = s.run.permitTimeout ∧ t.run.permitValid = s.run.permitValid ∧
      t.run.edgeTimer = s.run.edgeTimer ∧ t.run.edgeCount = s.run.edgeCount
  | .mem, s, t => t.store.mem = s.store.mem
  | .pages, s, t => t.store.pages = s.store.pages
  | .programs, s, t => t.store.programs = s.store.programs
  | .staging, s, t => t.store.staging = s.store.staging
  | .port, s, t => t.store.port = s.store.port ∧ t.store.portEnd = s.store.portEnd ∧
      t.store.waitCount = s.store.waitCount ∧ t.store.ptr1 = s.store.ptr1 ∧ t.store.ptr3 = s.store.ptr3
  | .urgent, s, t => t.notices.urgent = s.notices.urgent ∧ t.notices.urgentOver = s.notices.urgentOver
  | .routine, s, t => t.notices.routine = s.notices.routine ∧ t.notices.routineOver = s.notices.routineOver
  | .link, s, t => t.link = s.link
  | .straps, s, t => t.straps = s.straps
  | .now, s, t => t.now = s.now
  | .draws, s, t => t.freeDraws = s.freeDraws
  | .pending, s, t => t.pending = s.pending
  | .law x, s, t => x.Kept s t
  | _, _, _ => True

/-- The piece reads the same in `t` as in `s`. -/
structure Same (p : Piece) (s t : State) : Prop where
  sock : ∀ i, SockSame p (s.sock i) (t.sock i)
  zone : ∀ z, ZoneSame p (s.zone z) (t.zone z)
  board : BoardSame p s t

/-- A number for each piece. -/
def Piece.code : Piece → Nat
  | .law x => 100 + x.ctorIdx
  | p => p.ctorIdx

/-- The piece is one of the list. -/
def Piece.isIn (p : Piece) (l : List Piece) : Bool := l.any fun q => q.code == p.code

/-- Nothing but the listed pieces differs between `s` and `t`, and no law is broken that is not listed. -/
def Touches (l : List Piece) (s t : State) : Prop := ∀ p : Piece, p.isIn l = false → Same p s t

theorem SockSame.refl (p : Piece) (k : Socket) : SockSame p k k := by cases p <;> simp [SockSame]

theorem ZoneSame.refl (p : Piece) (k : Zone) : ZoneSame p k k := by cases p <;> simp [ZoneSame]

theorem BoardSame.refl (p : Piece) (s : State) : BoardSame p s s := by
  cases p with
  | law x => exact Law.Kept.refl x s
  | _ => simp [BoardSame]

theorem SockSame.trans {p : Piece} {k l m : Socket} (h : SockSame p k l) (g : SockSame p l m) : SockSame p k m := by
  cases p with
  | context =>
    show m.pass = _
    rw [show m.pass = _ from g, show l.pass = _ from h]
  | _ => simp_all [SockSame]

theorem ZoneSame.trans {p : Piece} {k l m : Zone} (h : ZoneSame p k l) (g : ZoneSame p l m) : ZoneSame p k m := by
  cases p <;> simp_all [ZoneSame]

theorem BoardSame.trans {p : Piece} {s t u : State} (h : BoardSame p s t) (g : BoardSame p t u) : BoardSame p s u := by
  cases p with
  | law x => exact Law.Kept.trans h g
  | _ => simp_all [BoardSame]

theorem Same.refl (p : Piece) (s : State) : Same p s s :=
  ⟨fun _ => SockSame.refl p _, fun _ => ZoneSame.refl p _, BoardSame.refl p s⟩

theorem Same.trans {p : Piece} {s t u : State} (h : Same p s t) (g : Same p t u) : Same p s u :=
  ⟨fun i => (h.sock i).trans (g.sock i), fun z => (h.zone z).trans (g.zone z), h.board.trans g.board⟩

theorem Touches.refl (l : List Piece) (s : State) : Touches l s s := fun p _ => Same.refl p s

/-- A piece outside a list is outside every list that it covers. -/
theorem Piece.isIn_of_covered {p : Piece} {l m : List Piece} (hlm : l.all (·.isIn m) = true) (hp : p.isIn m = false) :
    p.isIn l = false := by
  by_contra hc
  obtain ⟨q, hq, hqp⟩ := List.any_eq_true.mp (by simpa using hc : p.isIn l = true)
  have hqm : q.isIn m = true := List.all_eq_true.mp hlm q hq
  have hpq : p.isIn m = q.isIn m := by unfold Piece.isIn; rw [beq_iff_eq.mp hqp]
  rw [hpq, hqm] at hp
  exact absurd hp (by decide)

theorem Touches.mono {l m : List Piece} {s t : State} (h : Touches l s t) (hlm : l.all (·.isIn m) = true := by rfl) :
    Touches m s t := fun p hp => h p (Piece.isIn_of_covered hlm hp)

theorem Touches.trans {l : List Piece} {s t u : State} (h : Touches l s t) (g : Touches l t u) : Touches l s u :=
  fun p hp => (h p hp).trans (g p hp)

/-- What two moves in a row touch is what either touches. -/
theorem Touches.comp {l m n : List Piece} {s t u : State} (h : Touches l s t) (g : Touches m t u)
    (hl : l.all (·.isIn n) = true := by rfl) (hm : m.all (·.isIn n) = true := by rfl) : Touches n s u :=
  (h.mono hl).trans (g.mono hm)

theorem forEach_touches {α : Type} {l : List Piece} {as : List α} {f : α → State → State}
    (h : ∀ a ∈ as, ∀ s, Touches l s (f a s)) (s : State) : Touches l s (forEach as f s) :=
  forEach_keeps (P := Touches l s) (fun a ha t ht => ht.trans (h a ha t)) s (Touches.refl l s)

/-- A reading of the state that a turn of a loop changes at its own index alone: after the loop it has changed at the
indices of the loop. -/
theorem forEach_at {ι α : Type} [DecidableEq ι] {g : State → ι → α} {f : ι → State → State} {h : ι → α → α}
    (hf : ∀ i s j, g (f i s) j = if j = i then h i (g s i) else g s j) : ∀ (l : List ι), l.Nodup → ∀ s j,
    g (forEach l f s) j = if j ∈ l then h j (g s j) else g s j := by
  intro l
  induction l with
  | nil => intro _ s j; simp
  | cons a l ih =>
    intro hl s j
    obtain ⟨ha, hl⟩ := List.nodup_cons.mp hl
    rw [forEach_cons, ih hl, hf]
    by_cases hja : j = a
    · subst hja; simp [ha]
    · simp [hja]

theorem ite_touches {l : List Piece} {c : Prop} [Decidable c] {s a b : State} (ha : Touches l s a) (hb : Touches l s b) :
    Touches l s (if c then a else b) := by
  split
  · exact ha
  · exact hb

theorem ite_touches_of {l : List Piece} {c : Prop} [Decidable c] {s a b : State} (ha : c → Touches l s a)
    (hb : ¬ c → Touches l s b) : Touches l s (if c then a else b) := by
  split
  · exact ha ‹c›
  · exact hb ‹¬ c›

/-! ## Reading an untouched piece -/

section
variable {l : List Piece} {s t : State}

theorem Touches.life (h : Touches l s t) (i : SocketId) (hp : Piece.life.isIn l = false := by rfl) :
    (t.sock i).life = (s.sock i).life := (h .life hp).sock i

theorem Touches.bin (h : Touches l s t) (i : SocketId) (hp : Piece.bin.isIn l = false := by rfl) :
    (t.sock i).bin = (s.sock i).bin := (h .bin hp).sock i

theorem Touches.power (h : Touches l s t) (i : SocketId) (hp : Piece.power.isIn l = false := by rfl) :
    (t.sock i).rail.power = (s.sock i).rail.power := (h .power hp).sock i

theorem Touches.trips (h : Touches l s t) (i : SocketId) (hp : Piece.trips.isIn l = false := by rfl) :
    (t.sock i).rail.trips = (s.sock i).rail.trips := (h .trips hp).sock i

theorem Touches.therm (h : Touches l s t) (i : SocketId) (hp : Piece.therm.isIn l = false := by rfl) :
    (t.sock i).therm = (s.sock i).therm := (h .therm hp).sock i

theorem Touches.live (h : Touches l s t) (i : SocketId) (hp : Piece.live.isIn l = false := by rfl) :
    (t.sock i).live = (s.sock i).live := (h .live hp).sock i

theorem Touches.checked (h : Touches l s t) (i : SocketId) (hp : Piece.checked.isIn l = false := by rfl) :
    (t.sock i).pass.checked = (s.sock i).pass.checked := (h .checked hp).sock i

theorem Touches.acct (h : Touches l s t) (i : SocketId) (hp : Piece.acct.isIn l = false := by rfl) :
    (t.sock i).acct = (s.sock i).acct := (h .acct hp).sock i

theorem Touches.railState (h : Touches l s t) (i : SocketId) (hp : Piece.railState.isIn l = false := by rfl) :
    (t.sock i).rail.state = (s.sock i).rail.state := (h .railState hp).sock i

theorem Touches.inhibit (h : Touches l s t) (i : SocketId) (hp : Piece.inhibit.isIn l = false := by rfl) :
    (t.sock i).rail.inhibit = (s.sock i).rail.inhibit := (h .inhibit hp).sock i

theorem Touches.law (h : Touches l s t) (x : Law) (hp : (Piece.law x).isIn l = false := by rfl) : x.Kept s t :=
  (h (.law x) hp).board

theorem Touches.timers (h : Touches l s t) (i : SocketId) (hp : Piece.timers.isIn l = false := by rfl) :
    (t.sock i).rail.offTimer = (s.sock i).rail.offTimer ∧ (t.sock i).rail.stableTimer = (s.sock i).rail.stableTimer ∧
      (t.sock i).rail.phase1Timer = (s.sock i).rail.phase1Timer ∧
      (t.sock i).rail.rampTimer = (s.sock i).rail.rampTimer := (h .timers hp).sock i

theorem Touches.sample (h : Touches l s t) (i : SocketId) (hp : Piece.sample.isIn l = false := by rfl) :
    (t.sock i).rail.lastCurrent = (s.sock i).rail.lastCurrent ∧ (t.sock i).rail.window = (s.sock i).rail.window ∧
      (t.sock i).rail.voltage = (s.sock i).rail.voltage := (h .sample hp).sock i

theorem Touches.context (h : Touches l s t) (i : SocketId) (hp : Piece.context.isIn l = false := by rfl) :
    (t.sock i).pass = { (s.sock i).pass with checked := (t.sock i).pass.checked } := (h .context hp).sock i

theorem Touches.railProf (h : Touches l s t) (z : ZoneId) (hp : Piece.railProf.isIn l = false := by rfl) :
    (t.zone z).railProf = (s.zone z).railProf := (h .railProf hp).zone z

theorem Touches.queue (h : Touches l s t) (z : ZoneId) (hp : Piece.queue.isIn l = false := by rfl) :
    (t.zone z).rampQueue = (s.zone z).rampQueue := (h .queue hp).zone z

theorem Touches.thermProf (h : Touches l s t) (z : ZoneId) (hp : Piece.thermProf.isIn l = false := by rfl) :
    (t.zone z).thermProf = (s.zone z).thermProf := (h .thermProf hp).zone z

theorem Touches.budget (h : Touches l s t) (z : ZoneId) (hp : Piece.budget.isIn l = false := by rfl) :
    (t.zone z).budget = (s.zone z).budget := (h .budget hp).zone z

theorem Touches.armed (h : Touches l s t) (z : ZoneId) (hp : Piece.armed.isIn l = false := by rfl) :
    (t.zone z).armed = (s.zone z).armed := (h .armed hp).zone z

theorem Touches.seq (h : Touches l s t) (z : ZoneId) (hp : Piece.seq.isIn l = false := by rfl) :
    (t.zone z).seq = (s.zone z).seq := (h .seq hp).zone z

theorem Touches.chk (h : Touches l s t) (z : ZoneId) (hp : Piece.chk.isIn l = false := by rfl) :
    (t.zone z).chk = (s.zone z).chk := (h .chk hp).zone z

theorem Touches.record (h : Touches l s t) (hp : Piece.record.isIn l = false := by rfl) : t.run.record = s.run.record :=
  (h .record hp).board

theorem Touches.clock (h : Touches l s t) (hp : Piece.clock.isIn l = false := by rfl) : t.run.clock = s.run.clock :=
  (h .clock hp).board

theorem Touches.mem (h : Touches l s t) (hp : Piece.mem.isIn l = false := by rfl) : t.store.mem = s.store.mem :=
  (h .mem hp).board

theorem Touches.pages (h : Touches l s t) (hp : Piece.pages.isIn l = false := by rfl) : t.store.pages = s.store.pages :=
  (h .pages hp).board

theorem Touches.programs (h : Touches l s t) (hp : Piece.programs.isIn l = false := by rfl) : t.store.programs = s.store.programs :=
  (h .programs hp).board

theorem Touches.staging (h : Touches l s t) (hp : Piece.staging.isIn l = false := by rfl) : t.store.staging = s.store.staging :=
  (h .staging hp).board

theorem Touches.link (h : Touches l s t) (hp : Piece.link.isIn l = false := by rfl) : t.link = s.link :=
  (h .link hp).board

theorem Touches.straps (h : Touches l s t) (hp : Piece.straps.isIn l = false := by rfl) : t.straps = s.straps :=
  (h .straps hp).board

theorem Touches.now (h : Touches l s t) (hp : Piece.now.isIn l = false := by rfl) : t.now = s.now :=
  (h .now hp).board

theorem Touches.draws (h : Touches l s t) (hp : Piece.draws.isIn l = false := by rfl) : t.freeDraws = s.freeDraws :=
  (h .draws hp).board

theorem Touches.pending (h : Touches l s t) (hp : Piece.pending.isIn l = false := by rfl) : t.pending = s.pending :=
  (h .pending hp).board

theorem Touches.runState (h : Touches l s t) (hp : Piece.runState.isIn l = false := by rfl) :
    t.run.state = s.run.state := (h .runState hp).board.1

theorem Touches.holds (h : Touches l s t) (hp : Piece.runState.isIn l = false := by rfl) :
    t.run.holds = s.run.holds := (h .runState hp).board.2.1

theorem Touches.acctTimer (h : Touches l s t) (hp : Piece.runState.isIn l = false := by rfl) :
    t.run.acctTimer = s.run.acctTimer := (h .runState hp).board.2.2

theorem Touches.permitPart (h : Touches l s t) (hp : Piece.permit.isIn l = false := by rfl) :
    t.run.permitTimeout = s.run.permitTimeout ∧ t.run.permitValid = s.run.permitValid ∧
      t.run.edgeTimer = s.run.edgeTimer ∧ t.run.edgeCount = s.run.edgeCount := (h .permit hp).board

theorem Touches.portPart (h : Touches l s t) (hp : Piece.port.isIn l = false := by rfl) :
    t.store.port = s.store.port ∧ t.store.portEnd = s.store.portEnd ∧ t.store.waitCount = s.store.waitCount ∧
      t.store.ptr1 = s.store.ptr1 ∧ t.store.ptr3 = s.store.ptr3 := (h .port hp).board

theorem Touches.urgent (h : Touches l s t) (hp : Piece.urgent.isIn l = false := by rfl) :
    t.notices.urgent = s.notices.urgent ∧ t.notices.urgentOver = s.notices.urgentOver := (h .urgent hp).board

theorem Touches.routine (h : Touches l s t) (hp : Piece.routine.isIn l = false := by rfl) :
    t.notices.routine = s.notices.routine ∧ t.notices.routineOver = s.notices.routineOver := (h .routine hp).board

theorem Touches.started (h : Touches l s t) (hp : Piece.runState.isIn l = false := by rfl) : t.started = s.started := by
  unfold State.started; rw [h.runState hp]

theorem Touches.declared (h : Touches l s t) (i : SocketId) (hp : Piece.record.isIn l = false := by rfl) :
    t.declared i = s.declared i := by
  unfold State.declared; rw [h.record hp]

theorem Touches.page (h : Touches l s t) (pg : PageId) (hp : Piece.pages.isIn l = false := by rfl) :
    t.page pg = s.page pg := by
  unfold State.page; rw [h.pages hp]

theorem Touches.program (h : Touches l s t) (k : ProgId) (hp : Piece.programs.isIn l = false := by rfl) :
    t.program k = s.program k := by
  unfold State.program; rw [h.programs hp]

end

/-! ## A law stands where the pieces it reads stand -/

/-- The pieces of a list stand. -/
def Stand (l : List Piece) (s t : State) : Prop := ∀ p : Piece, p.isIn l = true → Same p s t

/-- Two lists of pieces have none in common. -/
def disjoint (l m : List Piece) : Bool := l.all fun p => !p.isIn m

theorem Piece.isIn_eq_false_of_disjoint {l m : List Piece} (hd : disjoint l m = true) {p : Piece} (hp : p.isIn l = true) :
    p.isIn m = false := by
  obtain ⟨q, hq, hqp⟩ := List.any_eq_true.mp hp
  have hqm := List.all_eq_true.mp hd q hq
  have hpq : p.isIn m = q.isIn m := by unfold Piece.isIn; rw [beq_iff_eq.mp hqp]
  rw [hpq]
  simpa using hqm

theorem Touches.stand {l m : List Piece} {s t : State} (h : Touches m s t) (hd : disjoint l m = true := by rfl) :
    Stand l s t := fun p hp => h p (Piece.isIn_eq_false_of_disjoint hd hp)

theorem Stand.mono {l m : List Piece} {s t : State} (h : Stand m s t) (hlm : l.all (·.isIn m) = true := by rfl) :
    Stand l s t := by
  intro p hp
  refine h p ?_
  by_contra hc
  rw [Piece.isIn_of_covered hlm (by simpa using hc)] at hp
  exact absurd hp (by decide)

/-- The pieces that a law reads. -/
def Law.reads : Law → List Piece
  | .lanes => [.urgent, .routine]
  | .logs => [.acct]
  | .heat => [.therm]
  | .share => [.therm, .budget]
  | .runTable => [.runState, .record, .clock]
  | .limit => [.acct, .life, .record, .runState]
  | .final => [.life, .inhibit, .therm]
  | .accounts => [.life, .acct]
  | .fresh => [.life, .runState]
  | .rails => [.railState, .inhibit, .queue]
  | .demand => [.railState, .inhibit, .timers, .queue]
  | .slots => [.railState, .inhibit, .queue, .railProf]
  | .hold => [.life, .inhibit, .therm, .runState]
  | .trip => [.inhibit, .therm, .runState, .record, .thermProf]
  | .runs => [.inhibit, .runState, .record]
  | .places => [.seq, .runState]
  | .port => [.port, .staging, .seq, .runState]
  | .seqs => [.seq]

section
variable {l : List Piece} {s t : State}

theorem Stand.life (h : Stand l s t) (i : SocketId) (hp : Piece.life.isIn l = true := by rfl) :
    (t.sock i).life = (s.sock i).life := (h .life hp).sock i

theorem Stand.therm (h : Stand l s t) (i : SocketId) (hp : Piece.therm.isIn l = true := by rfl) :
    (t.sock i).therm = (s.sock i).therm := (h .therm hp).sock i

theorem Stand.acct (h : Stand l s t) (i : SocketId) (hp : Piece.acct.isIn l = true := by rfl) :
    (t.sock i).acct = (s.sock i).acct := (h .acct hp).sock i

theorem Stand.railState (h : Stand l s t) (i : SocketId) (hp : Piece.railState.isIn l = true := by rfl) :
    (t.sock i).rail.state = (s.sock i).rail.state := (h .railState hp).sock i

theorem Stand.inhibit (h : Stand l s t) (i : SocketId) (hp : Piece.inhibit.isIn l = true := by rfl) :
    (t.sock i).rail.inhibit = (s.sock i).rail.inhibit := (h .inhibit hp).sock i

theorem Stand.timers (h : Stand l s t) (i : SocketId) (hp : Piece.timers.isIn l = true := by rfl) :
    (t.sock i).rail.offTimer = (s.sock i).rail.offTimer ∧ (t.sock i).rail.stableTimer = (s.sock i).rail.stableTimer ∧
      (t.sock i).rail.phase1Timer = (s.sock i).rail.phase1Timer ∧
      (t.sock i).rail.rampTimer = (s.sock i).rail.rampTimer := (h .timers hp).sock i

theorem Stand.railProf (h : Stand l s t) (z : ZoneId) (hp : Piece.railProf.isIn l = true := by rfl) :
    (t.zone z).railProf = (s.zone z).railProf := (h .railProf hp).zone z

theorem Stand.queue (h : Stand l s t) (z : ZoneId) (hp : Piece.queue.isIn l = true := by rfl) :
    (t.zone z).rampQueue = (s.zone z).rampQueue := (h .queue hp).zone z

theorem Stand.thermProf (h : Stand l s t) (z : ZoneId) (hp : Piece.thermProf.isIn l = true := by rfl) :
    (t.zone z).thermProf = (s.zone z).thermProf := (h .thermProf hp).zone z

theorem Stand.budget (h : Stand l s t) (z : ZoneId) (hp : Piece.budget.isIn l = true := by rfl) :
    (t.zone z).budget = (s.zone z).budget := (h .budget hp).zone z

theorem Stand.seq (h : Stand l s t) (z : ZoneId) (hp : Piece.seq.isIn l = true := by rfl) :
    (t.zone z).seq = (s.zone z).seq := (h .seq hp).zone z

theorem Stand.record (h : Stand l s t) (hp : Piece.record.isIn l = true := by rfl) : t.run.record = s.run.record :=
  (h .record hp).board

theorem Stand.clock (h : Stand l s t) (hp : Piece.clock.isIn l = true := by rfl) : t.run.clock = s.run.clock :=
  (h .clock hp).board

theorem Stand.staging (h : Stand l s t) (hp : Piece.staging.isIn l = true := by rfl) : t.store.staging = s.store.staging :=
  (h .staging hp).board

theorem Stand.run (h : Stand l s t) (hp : Piece.runState.isIn l = true := by rfl) :
    t.run.state = s.run.state ∧ t.run.holds = s.run.holds ∧ t.run.acctTimer = s.run.acctTimer := (h .runState hp).board

theorem Stand.started (h : Stand l s t) (hp : Piece.runState.isIn l = true := by rfl) : t.started = s.started := by
  unfold State.started; rw [(h.run hp).1]

theorem Stand.declared (h : Stand l s t) (i : SocketId) (hp : Piece.record.isIn l = true := by rfl) :
    t.declared i = s.declared i := by
  unfold State.declared; rw [h.record hp]

theorem Stand.transfer (h : Stand l s t) (hp : Piece.port.isIn l = true := by rfl) : t.store.port = s.store.port :=
  (h .port hp).board.1

theorem Stand.slotHolders (h : Stand l s t) (z : ZoneId) (hp : Piece.railState.isIn l = true := by rfl) :
    t.slotHolders z = s.slotHolders z := by
  unfold State.slotHolders; simp only [h.railState _ hp]

theorem Stand.grantSum (h : Stand l s t) (z : ZoneId) (hp : Piece.therm.isIn l = true := by rfl) :
    t.grantSum z = s.grantSum z := by
  unfold State.grantSum; simp only [h.therm _ hp]

theorem Stand.hot (h : Stand l s t) (i : SocketId) (ht : Piece.therm.isIn l = true := by rfl)
    (hp : Piece.thermProf.isIn l = true := by rfl) : t.hot i = s.hot i := by
  unfold State.hot; rw [h.therm i ht, h.thermProf _ hp]

theorem railLaws_of_stand (h : Stand Law.rails.reads s t) (hs : RailLaws s) : RailLaws t := by
  obtain ⟨h1, h2, h3⟩ := hs
  refine ⟨fun z => ?_, fun z => ?_, fun i hi => ?_⟩
  · rw [h.slotHolders z]; exact h1 z
  · rw [h.queue z]
    exact ⟨(h2 z).1, fun i => by rw [h.railState i]; exact (h2 z).2 i⟩
  · unfold RailDown
    rw [h.railState i]
    exact h3 i (by rw [← h.inhibit i]; exact hi)

theorem demands_of_stand {M X : SocketId → Prop} (h : Stand Law.demand.reads s t) (hs : Demands M X s) :
    Demands M X t := by
  refine ⟨railLaws_of_stand h.mono hs.1, fun i => ?_⟩
  obtain ⟨hoff, hstab, hph, hramp⟩ := h.timers i
  unfold RailDemands
  rw [hoff, hstab, hph, hramp, h.railState i, h.inhibit i]
  exact hs.2 i

/-- A law is kept where every piece it reads stands. -/
theorem Law.kept_of_stand (x : Law) (h : Stand x.reads s t) : x.Kept s t := by
  cases x with
  | lanes =>
    have hu : t.notices.urgent = s.notices.urgent := (h .urgent rfl).board.1
    have hr : t.notices.routine = s.notices.routine := (h .routine rfl).board.1
    simp only [Law.Kept, hu, hr, imp_self, and_self]
  | logs => intro hs i; rw [h.acct i]; exact hs i
  | heat => intro hs i; rw [h.therm i]; exact hs i
  | share => intro hs z; rw [h.grantSum z, h.budget z]; exact hs z
  | runTable =>
    obtain ⟨hst, hholds, htimer⟩ := h.run
    simp only [Law.Kept, RunTable, hst, hholds, htimer, h.started, h.record, h.clock, imp_self]
  | limit => simp only [Law.Kept, LimitInv, Law11, h.run.1, h.record, h.acct, h.life, imp_self]
  | final =>
    intro i
    unfold Marked
    rw [h.inhibit i, h.therm i, h.life i]
    exact ⟨id, .inl⟩
  | accounts => exact fun i _ => ⟨h.life i, h.acct i⟩
  | fresh => simp only [Law.Kept, FreshLives, h.run.1, h.life, imp_self]
  | rails => exact railLaws_of_stand h
  | demand => exact fun _ _ hs => demands_of_stand h hs
  | slots =>
    rintro Z ⟨hrails, hs⟩
    refine ⟨railLaws_of_stand h.mono hrails, fun z hz => ?_⟩
    unfold SlotsFullAt
    rw [h.railProf z, h.queue z, h.slotHolders z]
    exact hs z hz
  | hold => simp only [Law.Kept, PermitHolds, h.run.1, h.run.2.1, h.life, h.inhibit, h.therm, imp_self]
  | trip =>
    simp only [Law.Kept, TripsStand, CausesStand, h.hot, h.therm, h.inhibit, h.started, h.declared, imp_self]
  | runs => simp only [Law.Kept, RunsStand, OutOfRun, h.inhibit, h.started, h.declared, imp_self]
  | places => simp only [Law.Kept, PlacesStand, h.seq, h.started, imp_self]
  | port =>
    simp only [Law.Kept, PortInv, h.transfer, h.staging, h.seq, h.started, imp_self]
  | seqs => simp only [Law.Kept, SeqInv, h.seq, imp_self]

end

/-! ## Lists closed under the laws -/

/-- Every law. -/
def allLaws : List Law :=
  [.lanes, .logs, .heat, .share, .runTable, .limit, .final, .accounts, .fresh, .rails, .demand, .slots, .hold,
    .trip, .runs, .places, .port, .seqs]

/-- The pieces of a list, with the laws that read one of them. -/
def closed (l : List Piece) : List Piece := l ++ (allLaws.filter fun x => x.reads.any (·.isIn l)).map .law

theorem mem_allLaws (x : Law) : x ∈ allLaws := by cases x <;> simp [allLaws]

/-- Where the pieces outside a list stand, the list with the laws that read it is all that is touched. -/
theorem closed_touches {l : List Piece} {s t : State} (h : ∀ p : Piece, p.isIn l = false → (∀ x, p ≠ .law x) → Same p s t) :
    Touches (closed l) s t := by
  intro p hp
  have hpl : p.isIn l = false := by
    by_contra hc
    obtain ⟨q, hq, hqp⟩ := List.any_eq_true.mp (by simpa using hc : p.isIn l = true)
    have : p.isIn (closed l) = true := List.any_eq_true.mpr ⟨q, List.mem_append_left _ hq, hqp⟩
    rw [this] at hp
    exact absurd hp (by decide)
  by_cases hx : ∃ x, p = .law x
  · obtain ⟨x, rfl⟩ := hx
    refine ⟨fun _ => trivial, fun _ => trivial, Law.kept_of_stand x fun q hq => h q ?_ ?_⟩
    · by_contra hc
      have hread : x.reads.any (·.isIn l) = true := by
        obtain ⟨q', hq', he⟩ := List.any_eq_true.mp hq
        refine List.any_eq_true.mpr ⟨q', hq', ?_⟩
        have : q'.isIn l = q.isIn l := by unfold Piece.isIn; rw [beq_iff_eq.mp he]
        rw [this]
        simpa using hc
      have hin : (Piece.law x).isIn (closed l) = true := by
        refine List.any_eq_true.mpr ⟨.law x, List.mem_append_right _ (List.mem_map_of_mem ?_), beq_self_eq_true _⟩
        exact List.mem_filter.mpr ⟨mem_allLaws x, hread⟩
      rw [hin] at hp
      exact absurd hp (by decide)
    · rintro y rfl
      revert hq
      cases x <;> cases y <;> decide
  · exact h p hpl (not_exists.mp hx)

theorem Law.ctorIdx_inj {x y : Law} (h : x.ctorIdx = y.ctorIdx) : x = y := by
  cases x <;> cases y <;> simp_all [Law.ctorIdx]

/-- A law that is kept is not broken. -/
theorem Touches.keep {l m : List Piece} {s t : State} {x : Law} (h : Touches m s t) (hx : x.Kept s t)
    (hm : m.all (·.isIn (.law x :: l)) = true := by rfl) : Touches l s t := by
  intro p hp
  by_cases hpx : p = .law x
  · subst hpx
    exact ⟨fun _ => trivial, fun _ => trivial, hx⟩
  · refine (h.mono hm) p ?_
    have hne : (Piece.law x).code ≠ p.code := by
      intro he
      cases p with
      | law y => exact hpx (congrArg Piece.law (Law.ctorIdx_inj (Nat.add_left_cancel he)).symm)
      | _ => exact absurd he (Nat.ne_of_gt (Nat.lt_of_lt_of_le (by decide) (Nat.le_add_right 100 x.ctorIdx)))
    rw [Piece.isIn, List.any_cons, beq_eq_false_iff_ne.mpr hne]
    exact hp

/-- Laws that are kept are not broken. -/
theorem Touches.keeps {l m : List Piece} {s t : State} (xs : List Law) (h : Touches m s t) (hx : ∀ x ∈ xs, x.Kept s t)
    (hm : m.all (·.isIn (xs.map .law ++ l)) = true := by rfl) : Touches l s t := by
  have hall : ∀ n : List Piece, n.all (·.isIn n) = true := fun n => List.all_eq_true.mpr fun p hp =>
    List.any_eq_true.mpr ⟨p, hp, beq_self_eq_true _⟩
  have h := h.mono hm
  clear hm
  induction xs with
  | nil => exact h
  | cons x xs ih => exact ih (fun y hy => hx y (by simp [hy])) (h.keep (hx x (by simp)) (hall _))

/-! ## The small updates -/

section
variable {l : List Piece} {s : State}

/-- A change of one socket record touches what it changes of the record. -/
theorem modSock_touches {i : SocketId} {f : Socket → Socket}
    (h : ∀ p : Piece, p.isIn l = false → SockSame p (s.sock i) (f (s.sock i))) : Touches (closed l) s (modSock i f s) := by
  refine closed_touches fun p hp hlaw => ⟨fun j => ?_, fun z => ZoneSame.refl p _, ?_⟩
  swap
  · cases p with
    | law x => exact absurd rfl (hlaw x)
    | _ => simp [BoardSame]
  by_cases hj : j = i
  · subst hj; rw [modSock_sock_self]; exact h p hp
  · rw [modSock_sock_ne hj]; exact SockSame.refl p _

/-- A change of one zone touches what it changes of the zone. -/
theorem modZone_touches {z : ZoneId} {f : Zone → Zone}
    (h : ∀ p : Piece, p.isIn l = false → ZoneSame p (s.zone z) (f (s.zone z))) : Touches (closed l) s (modZone z f s) := by
  refine closed_touches fun p hp hlaw => ⟨fun j => SockSame.refl p _, fun y => ?_, ?_⟩
  swap
  · cases p with
    | law x => exact absurd rfl (hlaw x)
    | _ => simp [BoardSame]
  by_cases hy : y = z
  · subst hy; rw [modZone_zone_self]; exact h p hp
  · rw [modZone_zone_ne hy]; exact ZoneSame.refl p _

/-- A change of the board's own fields touches what it changes of them. -/
theorem board_touches {t : State} (hs : t.sockets = s.sockets) (hz : t.zones = s.zones)
    (h : ∀ p : Piece, p.isIn l = false → (∀ x, p ≠ .law x) → BoardSame p s t) : Touches (closed l) s t := by
  refine closed_touches fun p hp hlaw => ⟨fun i => ?_, fun z => ?_, h p hp hlaw⟩
  · rw [show t.sock i = s.sock i by unfold State.sock; rw [hs]]; exact SockSame.refl p _
  · rw [show t.zone z = s.zone z by unfold State.zone; rw [hz]]; exact ZoneSame.refl p _

end

theorem setLife_touches (i : SocketId) (f : Lifecycle → Lifecycle) (s : State) : Touches (closed [.life]) s (modSock i (fun k => { k with life := f k.life }) s) :=
  modSock_touches fun p hp => by
    cases p with
    | life => exact absurd hp (by decide)
    | _ => simp [SockSame]

theorem setBin_touches (i : SocketId) (f : Socket → Option Bin) (s : State) : Touches (closed [.bin]) s (modSock i (fun k => { k with bin := f k }) s) :=
  modSock_touches fun p hp => by
    cases p with
    | bin => exact absurd hp (by decide)
    | _ => simp [SockSame]

theorem modRail_touches (i : SocketId) (f : Rail → Rail) (s : State) : Touches (closed [.railState, .inhibit, .timers, .power, .sample, .trips]) s (modRail i f s) :=
  modSock_touches fun p hp => by
    cases p with
    | railState | inhibit | timers | power | sample | trips => exact absurd hp (by decide)
    | _ => simp [SockSame]

theorem modTherm_touches (i : SocketId) (f : Thermal → Thermal) (s : State) : Touches (closed [.therm]) s (modTherm i f s) :=
  modSock_touches fun p hp => by
    cases p with
    | therm => exact absurd hp (by decide)
    | _ => simp [SockSame]

theorem modLive_touches (i : SocketId) (f : Liveness → Liveness) (s : State) : Touches (closed [.live]) s (modLive i f s) :=
  modSock_touches fun p hp => by
    cases p with
    | live => exact absurd hp (by decide)
    | _ => simp [SockSame]

theorem modPass_touches (i : SocketId) (f : Pass → Pass) (s : State) : Touches (closed [.checked, .context]) s (modPass i f s) :=
  modSock_touches fun p hp => by
    cases p with
    | checked | context => exact absurd hp (by decide)
    | _ => simp [SockSame]

theorem modAcct_touches (i : SocketId) (f : Accounts → Accounts) (s : State) : Touches (closed [.acct]) s (modAcct i f s) :=
  modSock_touches fun p hp => by
    cases p with
    | acct => exact absurd hp (by decide)
    | _ => simp [SockSame]

theorem dropPass_touches (i : SocketId) (s : State) : Touches (closed [.checked]) s (dropPass i s) := by
  unfold dropPass modPass
  exact modSock_touches fun p hp => by
    cases p with
    | checked => exact absurd hp (by decide)
    | _ => simp [SockSame]

theorem setInhibit_touches (i : SocketId) (f : Inhibit → Inhibit) (s : State) : Touches (closed [.inhibit]) s (modRail i (fun r => { r with inhibit := f r.inhibit }) s) :=
  modSock_touches fun p hp => by
    cases p with
    | inhibit => exact absurd hp (by decide)
    | _ => simp [SockSame]

theorem setRailState_touches (i : SocketId) (x : RailState) (s : State) : Touches (closed [.railState]) s (modRail i (fun r => { r with state := x }) s) :=
  modSock_touches fun p hp => by
    cases p with
    | railState => exact absurd hp (by decide)
    | _ => simp [SockSame]

theorem setPowerFigure_touches (i : SocketId) (v : Nat) (s : State) : Touches (closed [.power]) s (modRail i (fun r => { r with power := v }) s) :=
  modSock_touches fun p hp => by
    cases p with
    | power => exact absurd hp (by decide)
    | _ => simp [SockSame]

theorem setTrips_touches (i : SocketId) (f : Nat → Nat) (s : State) : Touches (closed [.trips]) s (modRail i (fun r => { r with trips := f r.trips }) s) :=
  modSock_touches fun p hp => by
    cases p with
    | trips => exact absurd hp (by decide)
    | _ => simp [SockSame]

theorem setWindow_touches (i : SocketId) (f : List Nat → List Nat) (s : State) : Touches (closed [.sample]) s (modRail i (fun r => { r with window := f r.window }) s) :=
  modSock_touches fun p hp => by
    cases p with
    | sample => exact absurd hp (by decide)
    | _ => simp [SockSame]

theorem takeSample_touches (i : SocketId) (w mA mV : Nat) (s : State) : Touches (closed [.sample]) s (modRail i (Rail.takeSample w mA mV) s) :=
  modSock_touches fun p hp => by
    cases p with
    | sample => exact absurd hp (by decide)
    | _ => simp [SockSame, Rail.takeSample]

theorem setRailProf_touches (z : ZoneId) (f : Option RailProfile → Option RailProfile) (s : State) : Touches (closed [.railProf]) s (modZone z (fun k => { k with railProf := f k.railProf }) s) :=
  modZone_touches fun p hp => by
    cases p with
    | railProf => exact absurd hp (by decide)
    | _ => simp [ZoneSame]

theorem setQueue_touches (z : ZoneId) (f : List SocketId → List SocketId) (s : State) : Touches (closed [.queue]) s (modZone z (fun k => { k with rampQueue := f k.rampQueue }) s) :=
  modZone_touches fun p hp => by
    cases p with
    | queue => exact absurd hp (by decide)
    | _ => simp [ZoneSame]

theorem setThermProf_touches (z : ZoneId) (f : Option ThermalProfile → Option ThermalProfile) (s : State) : Touches (closed [.thermProf]) s (modZone z (fun k => { k with thermProf := f k.thermProf }) s) :=
  modZone_touches fun p hp => by
    cases p with
    | thermProf => exact absurd hp (by decide)
    | _ => simp [ZoneSame]

theorem setBudget_touches (z : ZoneId) (f : Nat → Nat) (s : State) : Touches (closed [.budget]) s (modZone z (fun k => { k with budget := f k.budget }) s) :=
  modZone_touches fun p hp => by
    cases p with
    | budget => exact absurd hp (by decide)
    | _ => simp [ZoneSame]

theorem setArmed_touches (z : ZoneId) (f : Bool → Bool) (s : State) : Touches (closed [.armed]) s (modZone z (fun k => { k with armed := f k.armed }) s) :=
  modZone_touches fun p hp => by
    cases p with
    | armed => exact absurd hp (by decide)
    | _ => simp [ZoneSame]

theorem modSeq_touches (z : ZoneId) (f : Seq → Seq) (s : State) : Touches (closed [.seq]) s (modSeq z f s) :=
  modZone_touches fun p hp => by
    cases p with
    | seq => exact absurd hp (by decide)
    | _ => simp [ZoneSame]

theorem modChk_touches (z : ZoneId) (f : CheckZone → CheckZone) (s : State) : Touches (closed [.chk]) s (modChk z f s) :=
  modZone_touches fun p hp => by
    cases p with
    | chk => exact absurd hp (by decide)
    | _ => simp [ZoneSame]

theorem modRun_touches (f : Run → Run) (s : State) : Touches (closed [.runState, .record, .clock, .permit]) s (modRun f s) :=
  board_touches rfl rfl fun p hp hlaw => by
    cases p with
    | runState | record | clock | permit => exact absurd hp (by decide)
    | law x => exact absurd rfl (hlaw x)
    | _ => simp [BoardSame]

theorem modStore_touches (f : Store → Store) (s : State) : Touches (closed [.mem, .pages, .programs, .staging, .port]) s (modStore f s) :=
  board_touches rfl rfl fun p hp hlaw => by
    cases p with
    | mem | pages | programs | staging | port => exact absurd hp (by decide)
    | law x => exact absurd rfl (hlaw x)
    | _ => simp [BoardSame]

theorem modLink_touches (f : Link → Link) (s : State) : Touches (closed [.link]) s (modLink f s) :=
  board_touches rfl rfl fun p hp hlaw => by
    cases p with
    | link => exact absurd hp (by decide)
    | law x => exact absurd rfl (hlaw x)
    | _ => simp [BoardSame]

theorem modNotices_touches (f : NoticeQueue → NoticeQueue) (s : State) : Touches (closed [.urgent, .routine]) s (modNotices f s) :=
  board_touches rfl rfl fun p hp hlaw => by
    cases p with
    | urgent | routine => exact absurd hp (by decide)
    | law x => exact absurd rfl (hlaw x)
    | _ => simp [BoardSame]

theorem advanceTo_touches (n : Nat) (s : State) : Touches (closed [.now]) s (advanceTo n s) :=
  board_touches rfl rfl fun p hp hlaw => by
    cases p with
    | now => exact absurd hp (by decide)
    | law x => exact absurd rfl (hlaw x)
    | _ => simp [BoardSame]

theorem modPage_touches (pg : PageId) (f : Page → Page) (s : State) : Touches (closed [.pages]) s (modPage pg f s) :=
  board_touches rfl rfl fun p hp hlaw => by
    cases p with
    | pages => exact absurd hp (by decide)
    | law x => exact absurd rfl (hlaw x)
    | _ => simp [BoardSame, modPage]

theorem pushUrgent_touches (n : Notice) (s : State) : Touches [.urgent] s (pushUrgent n s) := by
  have h1 : Touches (closed [.urgent]) s (pushUrgent n s) := by
    obtain ⟨-, h⟩ | ⟨-, h⟩ := pushUrgent_cases n s
    all_goals
      rw [h]
      exact board_touches rfl rfl fun p hp hlaw => by
        cases p with
        | urgent => exact absurd hp (by decide)
        | law x => exact absurd rfl (hlaw x)
        | _ => simp [BoardSame]
  refine h1.keep (x := .lanes) ⟨fun hs => ?_, fun hs => ?_⟩
  · obtain ⟨hlt, h⟩ | ⟨-, h⟩ := pushUrgent_cases n s
    · rw [h]; simp; omega
    · rw [h]; exact hs
  · obtain ⟨-, h⟩ | ⟨-, h⟩ := pushUrgent_cases n s <;> rw [h] <;> exact hs

theorem pushRoutine_touches (n : Notice) (s : State) : Touches [.routine] s (pushRoutine n s) := by
  have h1 : Touches (closed [.routine]) s (pushRoutine n s) := by
    obtain ⟨-, h⟩ | ⟨-, h⟩ := pushRoutine_cases n s
    all_goals
      rw [h]
      exact board_touches rfl rfl fun p hp hlaw => by
        cases p with
        | routine => exact absurd hp (by decide)
        | law x => exact absurd rfl (hlaw x)
        | _ => simp [BoardSame]
  refine h1.keep (x := .lanes) ⟨fun hs => ?_, fun hs => ?_⟩
  · obtain ⟨-, h⟩ | ⟨-, h⟩ := pushRoutine_cases n s <;> rw [h] <;> exact hs
  · obtain ⟨hlt, h⟩ | ⟨-, h⟩ := pushRoutine_cases n s
    · rw [h]; simp; omega
    · rw [h]; exact hs

theorem sendUrgent_touches (x : Subject) (b : NoticeBody) (s : State) : Touches [.urgent] s (sendUrgent x b s) :=
  pushUrgent_touches _ s

theorem sendRoutine_touches (x : Subject) (b : NoticeBody) (s : State) : Touches [.routine] s (sendRoutine x b s) :=
  pushRoutine_touches _ s

theorem runStateNotice_touches (u : Bool) (s : State) : Touches [.urgent, .routine] s (runStateNotice u s) := by
  unfold runStateNotice
  split
  · exact (sendUrgent_touches _ _ s).mono
  · exact (sendRoutine_touches _ _ s).mono

theorem runStateNotice_routine_touches (s : State) : Touches [.routine] s (runStateNotice false s) :=
  sendRoutine_touches _ _ s

theorem arbitrate_touches (s : State) : Touches (closed [.port]) s (arbitrate s) := by
  obtain ⟨p, e, w, a, b, h⟩ := arbitrate_frame s
  rw [h]
  exact board_touches rfl rfl fun p hp hlaw => by
    cases p with
    | port => exact absurd hp (by decide)
    | law x => exact absurd rfl (hlaw x)
    | _ => simp [BoardSame]

end Sys2Proof.Proofs.Frames

/-! What the operations of the checker, the heartbeat monitor and the rail controller touch, and the laws of the rails that
they keep. -/

namespace Sys2Proof.Proofs.Frames

open Sys2Proof.Machine Sys2Proof.Safety

/-! ## The checker and the heartbeat monitor -/

theorem closePass_touches (z : ZoneId) (s : State) : Touches [.checked, .chk] s (closePass z s) :=
  (modChk_touches z _ s).comp (forEach_touches (fun i _ t => dropPass_touches i t) _)

theorem joinOne_touches (i : SocketId) (s : State) : Touches [.checked, .context] s (joinOne i s) := by
  unfold joinOne
  split
  · exact (modPass_touches i _ s).mono
  · exact (dropPass_touches i s).mono

theorem joinPass_touches (z : ZoneId) (n : Nat) (p : ProgId) (s : State) :
    Touches [.checked, .context, .chk] s (joinPass z n p s) :=
  (modChk_touches z _ s).comp (forEach_touches (fun i _ t => joinOne_touches i t) _)

/-- A strobe reads the checked flag and leaves it (R129). -/
theorem strobePass_checked (mode : Option CheckMode) (n : Nat) (v : Vec) (r : Byte) (p : Pass) :
    (strobePass mode n v r p).checked = p.checked := by
  simp only [strobePass]
  split_ifs <;> rfl

theorem strobeOne_touches (mode : Option CheckMode) (n : Nat) (v : Vec) (resp : Vector Byte 8) (i : SocketId) (s : State) :
    Touches [.checked, .context] s (strobeOne mode n v resp i s) := (modPass_touches i _ s).mono

theorem strobeOne_checked (mode : Option CheckMode) (n : Nat) (v : Vec) (resp : Vector Byte 8) (i j : SocketId) (s : State) :
    ((strobeOne mode n v resp i s).sock j).pass.checked = (s.sock j).pass.checked := by
  unfold strobeOne
  rw [modPass_sock]
  split
  · rename_i hj
    subst hj
    show (if (s.sock j).pass.checked = true then _ else _ : Pass).checked = _
    split
    · exact strobePass_checked ..
    · rfl
  · rfl

theorem strobeSample_touches (z : ZoneId) (v : Vec) (resp : Vector Byte 8) (s : State) :
    Touches [.context] s (strobeSample z v resp s) := by
  intro p hp
  have h := forEach_touches (as := zoneSockets z)
    (fun i _ t => strobeOne_touches (s.zone z).chk.mode (s.zone z).seq.ordinal v resp i t) s
  cases p with
  | checked =>
    refine ⟨fun j => ?_, fun _ => trivial, trivial⟩
    exact forEach_same (g := fun t => (t.sock j).pass.checked) (fun i _ t => strobeOne_checked _ _ v resp i j t) s
  | context => exact absurd hp (by decide)
  | law x => exact h (.law x) (by cases x <;> rfl)
  | _ => exact h _ rfl

theorem startHb_touches (i : SocketId) (st : HbState) (n : Nat) (s : State) : Touches [.live] s (startHb i st n s) :=
  (modLive_touches i _ s).mono

theorem stopHb_touches (i : SocketId) (st : HbState) (s : State) : Touches [.live] s (stopHb i st s) :=
  (modLive_touches i _ s).mono

theorem setOwed_touches (i : SocketId) (b : Bool) (s : State) : Touches [.live] s (setOwed i b s) :=
  (modLive_touches i _ s).mono

theorem hbToIdle_touches (i : SocketId) (s : State) : Touches [.live] s (hbToIdle i s) :=
  (stopHb_touches i _ s).trans (setOwed_touches i _ _)

theorem enterResetHeld_touches (i : SocketId) (s : State) : Touches [.live, .checked] s (enterResetHeld i s) :=
  (startHb_touches i _ _ s).comp (dropPass_touches i _)

theorem powerUpCycle_touches (i : SocketId) (s : State) : Touches [.live, .checked] s (powerUpCycle i s) :=
  (setOwed_touches i _ s).comp (enterResetHeld_touches i _)

theorem waitOrIdle_touches (i : SocketId) (s : State) : Touches [.live] s (waitOrIdle i s) := by
  unfold waitOrIdle
  split
  · exact startHb_touches i _ _ s
  · exact stopHb_touches i _ s

theorem hbRailOn_touches (i : SocketId) (s : State) : Touches [.live, .checked] s (hbRailOn i s) := by
  unfold hbRailOn
  split_ifs
  · exact powerUpCycle_touches i s
  · exact (stopHb_touches i _ s).comp (setOwed_touches i _ _)
  · exact Touches.refl _ s

theorem hbReleaseReset_touches (i : SocketId) (s : State) : Touches [.live] s (hbReleaseReset i s) := by
  unfold hbReleaseReset
  split
  · exact waitOrIdle_touches i s
  · exact startHb_touches i _ _ s

theorem hbHold_touches (i : SocketId) (s : State) : Touches [.live] s (hbHold i s) := by
  unfold hbHold
  split
  · exact (stopHb_touches i _ s).trans (setOwed_touches i _ _)
  · exact stopHb_touches i _ s
  · exact stopHb_touches i _ s
  · exact stopHb_touches i _ s
  · exact Touches.refl _ s
  · exact Touches.refl _ s

theorem hbResume_touches (i : SocketId) (s : State) : Touches [.live, .checked] s (hbResume i s) := by
  unfold hbResume
  split_ifs
  · exact powerUpCycle_touches i s
  · exact (waitOrIdle_touches i s).mono
  · exact Touches.refl _ s

theorem hbProgramChange_touches (i : SocketId) (s : State) : Touches [.live] s (hbProgramChange i s) := by
  unfold hbProgramChange
  split
  · exact waitOrIdle_touches i s
  · exact waitOrIdle_touches i s
  · split
    · exact waitOrIdle_touches i s
    · exact Touches.refl _ s
  · exact Touches.refl _ s
  · exact Touches.refl _ s
  · exact Touches.refl _ s

theorem hbZoneProgramChange_touches (z : ZoneId) (s : State) : Touches [.live] s (hbZoneProgramChange z s) :=
  forEach_touches (fun i _ t => hbProgramChange_touches i t) s

/-! ## The ramp slots -/

/-- A list's members that pass a test are as many or fewer where the test is passed by fewer. -/
theorem filter_length_le {α : Type} {l : List α} {p q : α → Bool} (h : ∀ a ∈ l, q a = true → p a = true) :
    (l.filter q).length ≤ (l.filter p).length := by
  rw [← List.countP_eq_length_filter, ← List.countP_eq_length_filter]
  exact List.countP_mono_left h

/-- One member more that passes a test. -/
theorem filter_length_succ {α : Type} {p q : α → Bool} {a : α} : ∀ {l : List α}, l.Nodup → a ∈ l → p a = false →
    q a = true → (∀ b ≠ a, q b = p b) → (l.filter q).length = (l.filter p).length + 1 := by
  intro l
  induction l with
  | nil => intro _ ha; exact absurd ha (by simp)
  | cons b l ih =>
    intro hn ha hp hq h
    obtain ⟨hb, hn⟩ := List.nodup_cons.mp hn
    by_cases hba : b = a
    · subst hba
      have hl : l.filter q = l.filter p :=
        List.filter_congr fun c hc => h c (fun hcb => hb (hcb ▸ hc))
      rw [List.filter_cons_of_pos hq, List.filter_cons_of_neg (by simp [hp]), List.length_cons, hl]
    · have hal : a ∈ l := by
        rcases List.mem_cons.mp ha with h' | h'
        · exact absurd h'.symm hba
        · exact h'
      have hih := ih hn hal hp hq h
      cases hpb : p b with
      | true =>
        rw [List.filter_cons_of_pos (by rw [h b hba]; exact hpb), List.filter_cons_of_pos hpb, List.length_cons,
          List.length_cons, hih]
      | false =>
        rw [List.filter_cons_of_neg (by rw [h b hba]; simp [hpb]), List.filter_cons_of_neg (by simp [hpb]), hih]

/-- The other rails of a change at one socket: state and set are as they were, and so are the other zones' queues. -/
structure RailsElse (i : SocketId) (s t : State) : Prop where
  rail : ∀ j ≠ i, (t.sock j).rail = (s.sock j).rail
  queue : ∀ z ≠ zoneOf i, (t.zone z).rampQueue = (s.zone z).rampQueue

section
variable {i : SocketId} {s t : State}

theorem RailsElse.slotHolders (h : RailsElse i s t) {z : ZoneId} (hz : z ≠ zoneOf i) :
    t.slotHolders z = s.slotHolders z := by
  refine List.filter_congr fun j hj => ?_
  rw [h.rail j]
  rintro rfl
  exact hz ((mem_zoneSockets _ _).mp hj).symm

/-- Laws 1 to 3 after a change at one socket: it holds a slot that was its own or free, waits exactly where it stands in
the queue, and is down where a cause stands. -/
theorem railLaws_of_change (hs : RailLaws s) (h : RailsElse i s t)
    (hnodup : (t.zone (zoneOf i)).rampQueue.Nodup)
    (hmem : ∀ j ≠ i, j ∈ (t.zone (zoneOf i)).rampQueue ↔ j ∈ (s.zone (zoneOf i)).rampQueue)
    (hself : i ∈ (t.zone (zoneOf i)).rampQueue ↔ (t.sock i).rail.state = .queued)
    (hslot : (t.sock i).rail.state.ramping = true →
      (s.sock i).rail.state.ramping = true ∨ (s.slotHolders (zoneOf i)).length < 2)
    (hdown : (t.sock i).rail.inhibit.isEmpty = false → RailDown t i) : RailLaws t := by
  obtain ⟨h1, h2, h3⟩ := hs
  refine ⟨fun z => ?_, fun z => ?_, fun j hj => ?_⟩
  · by_cases hz : z = zoneOf i
    · subst hz
      by_cases hr : (t.sock i).rail.state.ramping = true ∧ (s.sock i).rail.state.ramping = false
      · have hlt := (hslot hr.1).resolve_left (by simp [hr.2])
        have hlen : (t.slotHolders (zoneOf i)).length = (s.slotHolders (zoneOf i)).length + 1 :=
          filter_length_succ (zoneSockets_nodup _) ((mem_zoneSockets _ i).mpr rfl) hr.2 hr.1
            fun j hj => by rw [h.rail j hj]
        omega
      · refine le_trans (filter_length_le fun j _ hj => ?_) (h1 (zoneOf i))
        by_cases hji : j = i
        · subst hji
          by_contra hc
          exact hr ⟨hj, by simpa using hc⟩
        · rw [← h.rail j hji]; exact hj
    · rw [h.slotHolders hz]; exact h1 z
  · by_cases hz : z = zoneOf i
    · subst hz
      refine ⟨hnodup, fun j => ?_⟩
      by_cases hji : j = i
      · subst hji; rw [hself]; exact ⟨fun h => ⟨rfl, h⟩, fun h => h.2⟩
      · rw [hmem j hji, (h2 _).2 j, h.rail j hji]
    · rw [h.queue z hz]
      refine ⟨(h2 z).1, fun j => ?_⟩
      by_cases hji : j = i
      · subst hji
        rw [(h2 z).2 j]
        exact ⟨fun h => absurd h.1.symm hz, fun h => absurd h.1.symm hz⟩
      · rw [(h2 z).2 j, h.rail j hji]
  · by_cases hji : j = i
    · subst hji; exact hdown hj
    · unfold RailDown
      rw [h.rail j hji] at hj ⊢
      exact h3 j hj

/-- The demand of the rails after a change at one socket. -/
theorem demands_of_change {M X : SocketId → Prop} (hs : Demands M X s) (ht : RailLaws t) (h : RailsElse i s t)
    (hi : RailDemands (X i) (M i) (t.sock i).rail) : Demands M X t := by
  refine ⟨ht, fun j => ?_⟩
  by_cases hji : j = i
  · subst hji; exact hi
  · rw [h.rail j hji]; exact hs.2 j

/-- The slots after a change at one socket: the other zones' stand. -/
theorem slotsFull_of_change {Z : ZoneId → Prop} (hs : SlotsFull Z s) (ht : RailLaws t) (h : RailsElse i s t)
    (hprof : ∀ z, (t.zone z).railProf = (s.zone z).railProf) : SlotsFull (fun z => Z z ∨ z = zoneOf i) t := by
  refine ⟨ht, fun z hz => ?_⟩
  obtain ⟨hZ, hzi⟩ := not_or.mp hz
  unfold SlotsFullAt
  rw [hprof z, h.queue z hzi, h.slotHolders hzi]
  exact hs.2 z hZ

theorem RailsElse.refl (i : SocketId) (s : State) : RailsElse i s s := ⟨fun _ _ => rfl, fun _ _ => rfl⟩

theorem RailsElse.trans {u : State} (h : RailsElse i s t) (g : RailsElse i t u) : RailsElse i s u :=
  ⟨fun j hj => (g.rail j hj).trans (h.rail j hj), fun z hz => (g.queue z hz).trans (h.queue z hz)⟩

theorem railsElse_modRail (i : SocketId) (f : Rail → Rail) (s : State) : RailsElse i s (modRail i f s) :=
  ⟨fun j hj => by rw [modRail_sock, if_neg hj], fun z _ => by rw [modRail_zone]⟩

theorem railsElse_modQueue (i : SocketId) (f : List SocketId → List SocketId) (s : State) :
    RailsElse i s (modZone (zoneOf i) (fun k => { k with rampQueue := f k.rampQueue }) s) :=
  ⟨fun j _ => rfl, fun z hz => by rw [modZone_zone_ne hz]⟩

end

/-! ## The power figure and the over-budget test -/

theorem budgetTest_touches (z : ZoneId) (s : State) : Touches [.armed, .routine] s (budgetTest z s) := by
  obtain ⟨-, -, h⟩ | ⟨-, -, h⟩ | h := budgetTest_cases z s
  · rw [h]; exact (sendRoutine_touches _ _ s).comp (setArmed_touches z (fun _ => false) _)
  · rw [h]; exact (setArmed_touches z (fun _ => true) s).mono
  · rw [h]; exact Touches.refl _ s

theorem setPower_touches (i : SocketId) (v : Nat) (s : State) : Touches [.power, .armed, .routine] s (setPower i v s) := by
  unfold setPower
  split
  · exact Touches.refl _ s
  · exact (setPowerFigure_touches i v s).comp (budgetTest_touches _ _)

/-! ## Opening a rail -/

/-- A rail opened into `d`: its state and timers, and its place in the queue; what other blocks do comes after. -/
def railOpened (d : RailState) (i : SocketId) (s : State) : State :=
  leaveQueue i (modRail i (fun r =>
    { r with state := d, offTimer := s.offTimerNow i, stableTimer := none, phase1Timer := none, rampTimer := none }) s)

section
variable (d : RailState) (i : SocketId) (s : State)

@[simp] theorem railOpened_rail_self : ((railOpened d i s).sock i).rail = { (s.sock i).rail with
    state := d, offTimer := s.offTimerNow i, stableTimer := none, phase1Timer := none, rampTimer := none } := by
  unfold railOpened leaveQueue
  rw [modZone_sock, modRail_rail_self]

theorem railOpened_queue : ((railOpened d i s).zone (zoneOf i)).rampQueue = (s.zone (zoneOf i)).rampQueue.filter (· != i) := by
  unfold railOpened leaveQueue
  rw [modZone_zone_self]
  rfl

theorem railOpened_else : RailsElse i s (railOpened d i s) :=
  (railsElse_modRail i _ s).trans (railsElse_modQueue i (List.filter (· != i)) _)

theorem railOpened_base_touches : Touches (closed [.railState, .timers, .queue]) s (railOpened d i s) := by
  have h1 : Touches (closed [.railState, .timers]) s (modRail i (fun r =>
      { r with state := d, offTimer := s.offTimerNow i, stableTimer := none, phase1Timer := none, rampTimer := none }) s) :=
    modSock_touches fun p hp => by
      cases p with
      | railState | timers => exact absurd hp (by decide)
      | _ => simp [SockSame]
  exact h1.comp (setQueue_touches (zoneOf i) (List.filter (· != i)) _)

/-- What happens after the rail itself has opened. -/
theorem openRail_after : Touches [.power, .armed, .routine, .live, .checked] (railOpened d i s) (openRail d i s) := by
  unfold openRail
  exact ite_touches ((setPower_touches i 0 _).comp ((hbToIdle_touches i _).comp (dropPass_touches i _)
    (n := [.live, .checked]))) (Touches.refl _ _)

variable {d}

theorem railOpened_rails (hd : d = .off ∨ d = .rest) : Law.rails.Kept s (railOpened d i s) := by
  intro hs
  have hstate : ((railOpened d i s).sock i).rail.state = d := by rw [railOpened_rail_self]
  refine railLaws_of_change hs (railOpened_else d i s) ?_ (fun j hj => ?_) ?_ ?_ ?_
  · rw [railOpened_queue]; exact (hs.2.1 _).1.filter _
  · rw [railOpened_queue, List.mem_filter]; simp [hj]
  · rw [railOpened_queue, List.mem_filter, hstate]; rcases hd with rfl | rfl <;> simp
  · rw [hstate]; rcases hd with rfl | rfl <;> exact fun h => absurd h (by decide)
  · intro _; unfold RailDown; rw [hstate]; exact hd

theorem railOpened_touches (hd : d = .off ∨ d = .rest) :
    Touches [.railState, .timers, .queue, .law .demand, .law .slots] s (railOpened d i s) :=
  (railOpened_base_touches d i s).keep (railOpened_rails i s hd)

/-- What the rail controller touches as a rail opens. -/
abbrev openWork : List Piece :=
  [.railState, .timers, .queue, .power, .armed, .routine, .live, .checked, .law .demand, .law .slots]

theorem openRail_touches (hd : d = .off ∨ d = .rest) : Touches openWork s (openRail d i s) :=
  (railOpened_touches i s hd).comp (openRail_after d i s)

/-- The pieces that the laws of the rails read, after a rail opened. -/
theorem openRail_rail (d : RailState) : ((openRail d i s).sock i).rail.state = d ∧
    ((openRail d i s).sock i).rail.inhibit = (s.sock i).rail.inhibit := by
  have h := openRail_after d i s
  rw [h.railState i, h.inhibit i, railOpened_rail_self]
  exact ⟨rfl, rfl⟩

/-- The other rails' states, sets and timers, and the other zones' queues, after a rail opened. -/
theorem demands_openRail {M X : SocketId → Prop} (hs : Demands M X s) (hd : d = .off ∨ d = .rest)
    (hx : d = .rest → X i ∨ (s.offTimerNow i).isSome = true) (hset : (s.sock i).rail.inhibit.isEmpty = true → d ≠ .off) :
    Demands M X (openRail d i s) := by
  refine (openRail_after d i s).law .demand rfl M X ?_
  refine demands_of_change hs (railOpened_rails i s hd hs.1) (railOpened_else d i s) ?_
  rw [railOpened_rail_self]
  obtain ⟨-, -, -, -, -, hrun, -⟩ := hs.2 i
  refine ⟨?_, ?_, ?_, fun _ => hd, hx, hrun, hset⟩ <;> rcases hd with rfl | rfl <;> simp

theorem slots_openRail {Z : ZoneId → Prop} (hs : SlotsFull Z s) (hd : d = .off ∨ d = .rest) :
    SlotsFull (fun z => Z z ∨ z = zoneOf i) (openRail d i s) :=
  (openRail_after d i s).law .slots rfl _
    (slotsFull_of_change hs (railOpened_rails i s hd hs.1) (railOpened_else d i s)
      ((railOpened_base_touches d i s).railProf))

end

/-! ## Grants of a slot (R33, R34) -/

/-- The rail of a socket as its ramp begins now. -/
def ramped (p : RailProfile) (s : State) (r : Rail) : Rail :=
  if p.i1 = 0 then { r with state := .ramp2, rampTimer := some (afterMs p.rampMs s) }
  else { r with state := .ramp1, rampTimer := some (afterMs p.rampMs s), phase1Timer := some (afterMs p.t1 s) }

theorem startRamp_eq (p : RailProfile) (i : SocketId) (s : State) : startRamp p i s = modRail i (ramped p s) s := by
  unfold startRamp ramped
  split <;> rfl

/-- One grant: nothing waits or no slot is free, or the head of the queue begins its ramp. -/
theorem grantOne_cases (z : ZoneId) (s : State) : (grantOne z s = s ∧ SlotsFullAt z s) ∨
    ∃ i rest p, (s.zone z).rampQueue = i :: rest ∧ (s.zone z).railProf = some p ∧ (s.slotHolders z).length < 2 ∧
      grantOne z s = modRail i (ramped p s) (modZone z (fun k => { k with rampQueue := rest }) s) := by
  unfold grantOne
  split
  · rename_i i rest p hq hp
    split
    · rename_i hlt
      exact .inr ⟨i, rest, p, hq, hp, hlt, startRamp_eq p i _⟩
    · exact .inl ⟨rfl, fun _ _ => by omega⟩
  · rename_i hno
    refine .inl ⟨rfl, fun hp hq => ?_⟩
    obtain ⟨p, hp⟩ := Option.isSome_iff_exists.mp hp
    obtain ⟨i, rest, hq⟩ := List.exists_cons_of_ne_nil hq
    exact absurd hp (hno i rest p hq)

theorem ramped_ramping (p : RailProfile) (s : State) (r : Rail) :
    (ramped p s r).state = .ramp1 ∨ (ramped p s r).state = .ramp2 := by
  unfold ramped
  split
  · exact .inr rfl
  · exact .inl rfl

theorem ramped_inhibit (p : RailProfile) (s : State) (r : Rail) : (ramped p s r).inhibit = r.inhibit := by
  unfold ramped
  split <;> rfl

section
variable {i : SocketId} {rest : List SocketId} {p : RailProfile} {s : State}

/-- The state after the head of its zone's queue was granted a slot. -/
def granted (i : SocketId) (rest : List SocketId) (p : RailProfile) (s : State) : State :=
  modRail i (ramped p s) (modZone (zoneOf i) (fun k => { k with rampQueue := rest }) s)

theorem granted_rail : ((granted i rest p s).sock i).rail = ramped p s (s.sock i).rail := modRail_rail_self i _ _

theorem granted_queue : ((granted i rest p s).zone (zoneOf i)).rampQueue = rest := by
  unfold granted
  rw [modRail_zone, modZone_zone_self]

theorem granted_railProf (z : ZoneId) : ((granted i rest p s).zone z).railProf = (s.zone z).railProf := by
  unfold granted
  rw [modRail_zone]
  by_cases hz : z = zoneOf i
  · subst hz; rw [modZone_zone_self]
  · rw [modZone_zone_ne hz]

theorem granted_else : RailsElse i s (granted i rest p s) :=
  (railsElse_modQueue i (fun _ => rest) s).trans (railsElse_modRail i _ _)

theorem granted_rails (hs : RailLaws s) (hq : (s.zone (zoneOf i)).rampQueue = i :: rest)
    (hlt : (s.slotHolders (zoneOf i)).length < 2) : RailLaws (granted i rest p s) := by
  have hnodup := (hs.2.1 (zoneOf i)).1
  rw [hq] at hnodup
  obtain ⟨hi, hrest⟩ := List.nodup_cons.mp hnodup
  have hqueued : (s.sock i).rail.state = .queued := (((hs.2.1 (zoneOf i)).2 i).mp (by rw [hq]; exact List.mem_cons_self)).2
  refine railLaws_of_change hs granted_else ?_ (fun j hj => ?_) ?_ (fun _ => .inr hlt) ?_
  · rw [granted_queue]; exact hrest
  · rw [granted_queue, hq, List.mem_cons, or_iff_right hj]
  · rw [granted_queue, granted_rail]
    refine iff_of_false hi ?_
    rcases ramped_ramping p s (s.sock i).rail with h | h <;> rw [h] <;> decide
  · rw [granted_rail, ramped_inhibit]
    intro hset
    rcases hs.2.2 i hset with h | h <;> rw [hqueued] at h <;> exact absurd h (by decide)

end

theorem grantOne_granted {z : ZoneId} {s : State} (hs : RailLaws s) : (grantOne z s = s ∧ SlotsFullAt z s) ∨
    ∃ i rest p, zoneOf i = z ∧ (s.sock i).rail.state = .queued ∧ (s.zone z).rampQueue = i :: rest ∧
      (s.slotHolders z).length < 2 ∧ grantOne z s = granted i rest p s ∧ RailLaws (granted i rest p s) := by
  obtain h | ⟨i, rest, p, hq, -, hlt, h⟩ := grantOne_cases z s
  · exact .inl h
  · have hi : zoneOf i = z ∧ (s.sock i).rail.state = .queued :=
      ((hs.2.1 z).2 i).mp (by rw [hq]; exact List.mem_cons_self)
    obtain ⟨rfl, hst⟩ := hi
    exact .inr ⟨i, rest, p, rfl, hst, hq, hlt, h, granted_rails hs hq hlt⟩

theorem grantOne_rails (z : ZoneId) (s : State) : Law.rails.Kept s (grantOne z s) := by
  intro hs
  obtain ⟨h, -⟩ | ⟨i, rest, p, -, -, -, -, h, hr⟩ := grantOne_granted (z := z) hs
  · rw [h]; exact hs
  · rw [h]; exact hr

theorem grantOne_demands (z : ZoneId) (s : State) : Law.demand.Kept s (grantOne z s) := by
  intro M X hs
  obtain ⟨h, -⟩ | ⟨i, rest, p, -, hq, -, -, h, hr⟩ := grantOne_granted (z := z) hs.1
  · rw [h]; exact hs
  · rw [h]
    refine demands_of_change hs hr granted_else ?_
    rw [granted_rail]
    obtain ⟨hph, hramp, hstab, hoff, -, hrun, -⟩ := hs.2 i
    rw [hq] at hph hramp hstab hoff
    unfold ramped
    split
    · exact ⟨iff_of_false (by simpa using hph) (by simp), by simp, fun h => absurd (hstab h) (by decide),
        fun h => absurd (hoff h) (by decide), by simp, hrun, by simp⟩
    · exact ⟨by simp, by simp, fun h => absurd (hstab h) (by decide), fun h => absurd (hoff h) (by decide),
        by simp, hrun, by simp⟩

/-- A grant adds a holder in its zone and takes none anywhere. -/
theorem granted_slotHolders {i : SocketId} {rest : List SocketId} {p : RailProfile} {s : State}
    (hq : (s.sock i).rail.state = .queued) :
    ((granted i rest p s).slotHolders (zoneOf i)).length = (s.slotHolders (zoneOf i)).length + 1 := by
  refine filter_length_succ (zoneSockets_nodup _) ((mem_zoneSockets _ i).mpr rfl) (by rw [hq]; rfl) ?_
    fun j hj => by rw [granted_else.rail j hj]
  rw [granted_rail]
  rcases ramped_ramping p s (s.sock i).rail with h | h <;> rw [h] <;> rfl

theorem grantOne_slots (z : ZoneId) (s : State) : Law.slots.Kept s (grantOne z s) := by
  intro Z hs
  obtain ⟨h, -⟩ | ⟨i, rest, p, rfl, hqd, hq, hlt, h, hr⟩ := grantOne_granted (z := z) hs.1
  · rw [h]; exact hs
  · rw [h]
    refine ⟨hr, fun y hy => ?_⟩
    by_cases hyi : y = zoneOf i
    · subst hyi
      intro hp _
      have := hs.2 _ hy (by rw [← granted_railProf]; exact hp) (by rw [hq]; simp)
      omega
    · exact (slotsFull_of_change hs hr granted_else granted_railProf).2 y (not_or.mpr ⟨hy, hyi⟩)

/-- What a grant touches: the laws are kept. -/
theorem grantOne_touches (z : ZoneId) (s : State) : Touches [.railState, .timers, .queue] s (grantOne z s) := by
  have h1 : Touches (closed [.railState, .timers, .queue]) s (grantOne z s) := by
    obtain ⟨h, -⟩ | ⟨i, rest, p, -, -, -, h⟩ := grantOne_cases z s
    · rw [h]; exact Touches.refl _ s
    · rw [h]
      refine (setQueue_touches z (fun _ => rest) s).comp (l := closed [.queue]) (m := closed [.railState, .timers]) ?_
      refine modSock_touches fun p hp => ?_
      unfold ramped
      cases p with
      | railState | timers => exact absurd hp (by decide)
      | _ => simp only [SockSame] <;> split <;> exact (by trivial)
  exact ((h1.keep (l := [.railState, .timers, .queue, .law .demand, .law .slots]) (grantOne_rails z s)).keep
    (l := [.railState, .timers, .queue, .law .slots]) (grantOne_demands z s)).keep (grantOne_slots z s)

theorem grantSlots_touches (z : ZoneId) (s : State) : Touches [.railState, .timers, .queue] s (grantSlots z s) :=
  (grantOne_touches z s).trans (grantOne_touches z _)

/-- After its two grants no slot of a zone is free while one of its sockets waits. -/
theorem grantSlots_full {z : ZoneId} {s : State} (hs : RailLaws s) : SlotsFullAt z (grantSlots z s) := by
  unfold grantSlots
  obtain ⟨h, hfull⟩ | ⟨i, rest, p, rfl, hqd, -, -, h, hr⟩ := grantOne_granted (z := z) hs
  · rw [h, h]; exact hfull
  · rw [h]
    obtain ⟨h', hfull⟩ | ⟨j, rest', p', hj, hqd', -, -, h', -⟩ := grantOne_granted (z := zoneOf i) hr
    · rw [h']; exact hfull
    · intro _ _
      have h1 := granted_slotHolders (rest := rest) (p := p) hqd
      have h2 := granted_slotHolders (rest := rest') (p := p') hqd'
      rw [hj] at h2
      rw [h']
      omega

/-- A zone's grants make good what a change at one of its sockets left. -/
theorem grantSlots_slots {z : ZoneId} {Z : ZoneId → Prop} {s : State} (hs : SlotsFull (fun y => Z y ∨ y = z) s) :
    SlotsFull Z (grantSlots z s) := by
  have hkept := (grantSlots_touches z s).law .slots rfl _ hs
  refine ⟨hkept.1, fun y hy => ?_⟩
  by_cases hyz : y = z
  · subst hyz; exact grantSlots_full hs.1
  · exact hkept.2 y (not_or.mpr ⟨hy, hyz⟩)

/-- The grants of every zone leave no slot free while a socket waits. -/
theorem grantAll_slots {s : State} (hs : RailLaws s) (Z : ZoneId → Prop) : SlotsFull Z (forEach allZones grantSlots s) := by
  have hloop : ∀ (l : List ZoneId) (t : State), SlotsFull (fun y => y ∈ l) t → SlotsFull (fun _ => False) (forEach l grantSlots t) := by
    intro l
    induction l with
    | nil => intro t ht; exact ⟨ht.1, fun z _ => ht.2 z (by simp)⟩
    | cons z l ih =>
      intro t ht
      refine ih _ (grantSlots_slots ⟨ht.1, fun y hy => ht.2 y ?_⟩)
      simpa [or_comm] using hy
  have h := hloop allZones s ⟨hs, fun z hz => absurd (mem_allZones z) hz⟩
  exact ⟨h.1, fun z _ => h.2 z not_false⟩

/-! ## Changes of the inhibit set (R29, R30) -/

theorem adds_isEmpty {old new : Inhibit} (h : old.adds new = true) : new.isEmpty = false := by
  by_contra hc
  simp_all [Inhibit.adds, Inhibit.isEmpty]

theorem isEmpty_of_not_adds {old new : Inhibit} (h : old.adds new = false) (ho : old.isEmpty = true) :
    new.isEmpty = true := by
  simp_all [Inhibit.adds, Inhibit.isEmpty]

theorem railState_cases (r : RailState) : r.live = true ∨ r = .off ∨ r = .rest := by
  cases r <;> simp [RailState.live]

/-- The set of a socket changed, and nothing else yet. -/
abbrev withInhibit (x : Inhibit) (i : SocketId) (s : State) : State := modRail i (fun r => { r with inhibit := x }) s

/-- A change of the inhibit set is one of four: an upper rail opens, a rail in OFF queues or rests out its off-time, or
the rail stays, down where the set is not empty and not OFF where it is. -/
theorem changeInhibitNoGrant_cases (f : Inhibit → Inhibit) (i : SocketId) (s : State) :
    let r := (s.sock i).rail
    let x := f r.inhibit
    (r.state.live = true ∧ x.isEmpty = false ∧
      changeInhibitNoGrant f i s = openRail .off i (withInhibit x i s)) ∨
    (r.state = .off ∧ r.offTimer = none ∧ x.isEmpty = true ∧
      changeInhibitNoGrant f i s = joinQueue i (withInhibit x i s)) ∨
    (r.state = .off ∧ r.offTimer.isSome = true ∧ x.isEmpty = true ∧
      changeInhibitNoGrant f i s = modRail i (fun r => { r with state := .rest }) (withInhibit x i s)) ∨
    ((x.isEmpty = false → r.inhibit.isEmpty = false ∨ r.state = .off ∨ r.state = .rest) ∧
      (x.isEmpty = true → r.inhibit.isEmpty = true ∨ r.state ≠ .off) ∧
      changeInhibitNoGrant f i s = withInhibit x i s) := by
  intro r x
  have hrail : ((withInhibit x i s).sock i).rail = { r with inhibit := x } := modRail_rail_self i _ s
  have hadds : r.inhibit.adds x = true ∧ r.state.live = true ∨ r.inhibit.adds x = true ∧ (r.state = .off ∨ r.state = .rest) ∨
      r.inhibit.adds x = false := by
    cases r.inhibit.adds x
    · exact .inr (.inr rfl)
    · exact (railState_cases r.state).elim (fun h => .inl ⟨rfl, h⟩) fun h => .inr (.inl ⟨rfl, h⟩)
  have hdef : changeInhibitNoGrant f i s = if r.inhibit.adds x = true then
      (if r.state.live = true then openRail .off i (withInhibit x i s) else withInhibit x i s)
      else if (x.isEmpty && !r.inhibit.isEmpty) = true then demand i (withInhibit x i s) else withInhibit x i s := rfl
  obtain ⟨ha, hl⟩ | ⟨ha, hd⟩ | ha := hadds
  · exact .inl ⟨hl, adds_isEmpty ha, by rw [hdef, if_pos ha, if_pos hl]⟩
  · have hl : ¬ r.state.live = true := by rcases hd with h | h <;> rw [h] <;> decide
    exact .inr (.inr (.inr ⟨fun _ => .inr hd, fun h => absurd (adds_isEmpty ha) (by simp [h]),
      by rw [hdef, if_pos ha, if_neg hl]⟩))
  · rw [if_neg (by simp [ha])] at hdef
    by_cases he : (x.isEmpty && !r.inhibit.isEmpty) = true
    · obtain ⟨hx, -⟩ := by simpa using he
      rw [if_pos he] at hdef
      unfold demand at hdef
      rw [hrail] at hdef
      by_cases hoff : r.state = .off
      · cases ht : r.offTimer with
        | none => exact .inr (.inl ⟨hoff, rfl, hx, by rw [hdef, if_pos hoff, if_pos ht]⟩)
        | some e =>
          refine .inr (.inr (.inl ⟨hoff, rfl, hx, ?_⟩))
          rw [hdef, if_pos hoff, if_neg (by rw [ht]; simp)]
      · exact .inr (.inr (.inr ⟨by simp [hx], fun _ => .inr hoff, by rw [hdef, if_neg hoff]⟩))
    · refine .inr (.inr (.inr ⟨fun h => .inl ?_, fun h => .inl (by simpa [h] using he), by rw [hdef, if_neg he]⟩))
      by_contra hc
      have := isEmpty_of_not_adds ha (by simpa using hc)
      rw [h] at this
      exact absurd this (by decide)

/-- A rail queued: its state, and its place at the tail. -/
theorem joinQueue_rail (i : SocketId) (s : State) :
    ((joinQueue i s).sock i).rail = { (s.sock i).rail with state := .queued } := by
  unfold joinQueue
  rw [modZone_sock, modRail_rail_self]

theorem joinQueue_queue (i : SocketId) (s : State) :
    ((joinQueue i s).zone (zoneOf i)).rampQueue = (s.zone (zoneOf i)).rampQueue ++ [i] := by
  unfold joinQueue
  rw [modZone_zone_self]
  rfl

theorem joinQueue_else (i : SocketId) (s : State) : RailsElse i s (joinQueue i s) :=
  (railsElse_modRail i _ s).trans (railsElse_modQueue i (· ++ [i]) _)

theorem joinQueue_touches (i : SocketId) (s : State) : Touches (closed [.railState, .queue]) s (joinQueue i s) :=
  (setRailState_touches i _ s).comp (setQueue_touches (zoneOf i) (· ++ [i]) _)

/-- What the rail controller touches when a set changes, but for grants and laws. -/
abbrev inhibitPlain : List Piece :=
  [.railState, .inhibit, .timers, .queue, .power, .armed, .routine, .live, .checked]

theorem changeInhibitNoGrant_closed (f : Inhibit → Inhibit) (i : SocketId) (s : State) :
    Touches (closed inhibitPlain) s (changeInhibitNoGrant f i s) := by
  have h1 : Touches (closed inhibitPlain) s (withInhibit (f (s.sock i).rail.inhibit) i s) :=
    (setInhibit_touches i (fun _ => f (s.sock i).rail.inhibit) s).mono
  obtain ⟨-, -, h⟩ | ⟨-, -, -, h⟩ | ⟨-, -, -, h⟩ | ⟨-, -, h⟩ := changeInhibitNoGrant_cases f i s
  · rw [h]; exact h1.trans (openRail_touches i _ (.inl rfl)).mono
  · rw [h]; exact h1.trans (joinQueue_touches i _).mono
  · rw [h]; exact h1.trans (setRailState_touches i _ _).mono
  · rw [h]; exact h1

/-- What follows the rail itself when it opens. -/
abbrev openAfter : List Piece := [.power, .armed, .routine, .live, .checked]

/-- How a change of its set moves the rail of a socket and its place in the queue, other blocks apart: an upper rail
opens, one in OFF queues or rests out its off-time, or the rail stays. -/
def InhibitMoves (f : Inhibit → Inhibit) (i : SocketId) (s u : State) : Prop :=
  let r := (s.sock i).rail
  let x := f r.inhibit
  let q := (s.zone (zoneOf i)).rampQueue
  let r' := (u.sock i).rail
  let q' := (u.zone (zoneOf i)).rampQueue
  (r.state.live = true ∧ x.isEmpty = false ∧ q' = q.filter (· != i) ∧
    r' = { r with inhibit := x, state := .off, offTimer := s.offTimerNow i, stableTimer := none, phase1Timer := none,
                  rampTimer := none }) ∨
  (r.state = .off ∧ r.offTimer = none ∧ x.isEmpty = true ∧ q' = q ++ [i] ∧ r' = { r with inhibit := x, state := .queued }) ∨
  (r.state = .off ∧ r.offTimer.isSome = true ∧ x.isEmpty = true ∧ q' = q ∧ r' = { r with inhibit := x, state := .rest }) ∨
  ((x.isEmpty = false → r.inhibit.isEmpty = false ∨ r.state = .off ∨ r.state = .rest) ∧
    (x.isEmpty = true → r.inhibit.isEmpty = true ∨ r.state ≠ .off) ∧ q' = q ∧ r' = { r with inhibit := x })

/-- A change of a set moves the socket's own rail and its place in the queue, the other rails stand, and what other
blocks do follows. -/
theorem changeInhibitNoGrant_core (f : Inhibit → Inhibit) (i : SocketId) (s : State) :
    ∃ u, RailsElse i s u ∧ InhibitMoves f i s u ∧ Touches openAfter u (changeInhibitNoGrant f i s) ∧
      Touches (closed [.railState, .inhibit, .timers, .queue]) s u := by
  let r := (s.sock i).rail
  let x := f r.inhibit
  have h1 : RailsElse i s (withInhibit x i s) := railsElse_modRail i _ s
  have hrail : ((withInhibit x i s).sock i).rail = { r with inhibit := x } := modRail_rail_self i _ s
  have hx : Touches (closed [.railState, .inhibit, .timers, .queue]) s (withInhibit x i s) :=
    (setInhibit_touches i (fun _ => x) s).mono
  obtain ⟨hl, he, h⟩ | ⟨hoff, ht, he, h⟩ | ⟨hoff, ht, he, h⟩ | ⟨h2, h3, h⟩ := changeInhibitNoGrant_cases f i s
  · refine ⟨railOpened .off i (withInhibit x i s), h1.trans (railOpened_else _ i _),
      .inl ⟨hl, he, railOpened_queue _ i _, ?_⟩, ?_, hx.comp (railOpened_base_touches .off i _)⟩
    · rw [railOpened_rail_self, hrail]; rfl
    · rw [h]; exact openRail_after .off i _
  · refine ⟨joinQueue i (withInhibit x i s), h1.trans (joinQueue_else i _),
      .inr (.inl ⟨hoff, ht, he, joinQueue_queue i _, ?_⟩), ?_, hx.comp (joinQueue_touches i _)⟩
    · rw [joinQueue_rail, hrail]
    · rw [h]; exact Touches.refl _ _
  · refine ⟨modRail i (fun r => { r with state := .rest }) (withInhibit x i s), h1.trans (railsElse_modRail i _ _),
      .inr (.inr (.inl ⟨hoff, ht, he, rfl, ?_⟩)), ?_, hx.comp (setRailState_touches i _ _)⟩
    · rw [modRail_rail_self, hrail]
    · rw [h]; exact Touches.refl _ _
  · refine ⟨withInhibit x i s, h1, .inr (.inr (.inr ⟨h2, h3, rfl, hrail⟩)), ?_, hx⟩
    rw [h]; exact Touches.refl _ _

section
variable {f : Inhibit → Inhibit} {i : SocketId} {s u : State}

theorem InhibitMoves.inhibit (hu : InhibitMoves f i s u) :
    (u.sock i).rail.inhibit = f (s.sock i).rail.inhibit := by
  obtain ⟨-, -, -, h⟩ | ⟨-, -, -, -, h⟩ | ⟨-, -, -, -, h⟩ | ⟨-, -, -, h⟩ := hu <;> rw [h]

theorem InhibitMoves.rails (hu : InhibitMoves f i s u) (helse : RailsElse i s u) (hs : RailLaws s) : RailLaws u := by
  have hq := (hs.2.1 (zoneOf i)).2 i
  have hnodup := (hs.2.1 (zoneOf i)).1
  obtain ⟨-, hne, hqu, hr⟩ | ⟨hoff, -, he, hqu, hr⟩ | ⟨hoff, -, he, hqu, hr⟩ | ⟨hdown, -, hqu, hr⟩ := hu
  · refine railLaws_of_change hs helse ?_ (fun j hj => ?_) ?_ ?_ ?_
    · rw [hqu]; exact hnodup.filter _
    · rw [hqu, List.mem_filter]; simp [hj]
    · rw [hqu, List.mem_filter, hr]; simp
    · rw [hr]; simp [RailState.ramping]
    · intro _; exact .inl (by rw [hr])
  · have hni : i ∉ (s.zone (zoneOf i)).rampQueue := by rw [hq, hoff]; simp
    refine railLaws_of_change hs helse ?_ (fun j hj => ?_) ?_ ?_ ?_
    · rw [hqu]
      exact List.nodup_append.mpr ⟨hnodup, List.nodup_singleton i, fun a ha b hb => by
        rw [List.mem_singleton.mp hb]; exact fun h => hni (h ▸ ha)⟩
    · rw [hqu]; simp [hj]
    · rw [hqu, hr]; simp
    · rw [hr]; simp [RailState.ramping]
    · rw [hr, he]; exact fun h => absurd h (by decide)
  · refine railLaws_of_change hs helse ?_ (fun j hj => ?_) ?_ ?_ ?_
    · rw [hqu]; exact hnodup
    · rw [hqu]
    · rw [hqu, hr, hq, hoff]; simp
    · rw [hr]; simp [RailState.ramping]
    · intro _; exact .inr (by rw [hr])
  · refine railLaws_of_change hs helse ?_ (fun j hj => ?_) ?_ ?_ ?_
    · rw [hqu]; exact hnodup
    · rw [hqu]
    · rw [hqu, hr, hq]; simp
    · rw [hr]; exact .inl
    · unfold RailDown
      rw [hr]
      exact fun hne => (hdown hne).elim (hs.2.2 i) id

/-- A cause that stands in a set stands in it after the change. -/
def Retains (c : Inhibit → Bool) (f : Inhibit → Inhibit) : Prop := ∀ x, c x = true → c (f x) = true

theorem InhibitMoves.railDemands (hu : InhibitMoves f i s u) {x m : Prop} (hf : m → Retains Inhibit.run f)
    (hs : RailDemands x m (s.sock i).rail) : RailDemands x m (u.sock i).rail := by
  obtain ⟨hph, hramp, hstab, hoffT, hrest, hrun, hset⟩ := hs
  have hrun' := fun hm => hf hm _ (hrun hm)
  obtain ⟨-, hne, -, hr⟩ | ⟨hoff, ht, he, -, hr⟩ | ⟨hoff, ht, he, -, hr⟩ | ⟨-, hup, -, hr⟩ := hu
  · rw [hr]
    exact ⟨by simp, by simp, by simp, by simp, by simp, hrun', fun h => absurd (hne ▸ h) (by decide)⟩
  · rw [hoff] at hph hramp hstab
    rw [hr]
    exact ⟨by simpa using hph, by simpa using hramp, by simpa using hstab, by simp [ht], by simp, hrun', by simp⟩
  · rw [hoff] at hph hramp hstab
    rw [hr]
    exact ⟨by simpa using hph, by simpa using hramp, by simpa using hstab, by simp, fun _ => .inr ht, hrun', by simp⟩
  · rw [hr]
    exact ⟨hph, hramp, hstab, hoffT, hrest, hrun', fun he => (hup he).elim hset id⟩

end

/-- The set itself after the change. -/
theorem changeInhibitNoGrant_inhibit (f : Inhibit → Inhibit) (i j : SocketId) (s : State) :
    ((changeInhibitNoGrant f i s).sock j).rail.inhibit =
      if j = i then f (s.sock i).rail.inhibit else (s.sock j).rail.inhibit := by
  obtain ⟨u, helse, hu, hafter, -⟩ := changeInhibitNoGrant_core f i s
  rw [hafter.inhibit j]
  split
  · rename_i hj
    subst hj
    exact hu.inhibit
  · rename_i hj
    rw [helse.rail j hj]

theorem changeInhibitNoGrant_rails (f : Inhibit → Inhibit) (i : SocketId) (s : State) :
    Law.rails.Kept s (changeInhibitNoGrant f i s) := by
  intro hs
  obtain ⟨u, helse, hu, hafter, -⟩ := changeInhibitNoGrant_core f i s
  exact hafter.law .rails rfl (hu.rails helse hs)

theorem changeInhibitNoGrant_demands {f : Inhibit → Inhibit} {i : SocketId} {s : State} {M X : SocketId → Prop}
    (hf : M i → Retains Inhibit.run f) (hs : Demands M X s) : Demands M X (changeInhibitNoGrant f i s) := by
  obtain ⟨u, helse, hu, hafter, -⟩ := changeInhibitNoGrant_core f i s
  exact hafter.law .demand rfl M X (demands_of_change hs (hu.rails helse hs.1) helse (hu.railDemands hf (hs.2 i)))

theorem changeInhibitNoGrant_slots {f : Inhibit → Inhibit} {i : SocketId} {s : State} {Z : ZoneId → Prop}
    (hs : SlotsFull Z s) : SlotsFull (fun z => Z z ∨ z = zoneOf i) (changeInhibitNoGrant f i s) := by
  obtain ⟨u, helse, hu, hafter, hplain⟩ := changeInhibitNoGrant_core f i s
  exact hafter.law .slots rfl _ (slotsFull_of_change hs (hu.rails helse hs.1) helse hplain.railProf)

/-- What a change of one set touches, with the grants that follow it. -/
abbrev railWork : List Piece :=
  [.railState, .inhibit, .timers, .queue, .power, .armed, .routine, .live, .checked]

/-- The laws that a change of one set may break, by what it does to the set. -/
abbrev inhibitLaws : List Piece := [.law .demand, .law .final, .law .hold, .law .trip, .law .runs]

theorem changeInhibitNoGrant_touches (f : Inhibit → Inhibit) (i : SocketId) (s : State) :
    Touches (railWork ++ .law .slots :: inhibitLaws) s (changeInhibitNoGrant f i s) := by
  obtain ⟨u, -, -, hafter, hplain⟩ := changeInhibitNoGrant_core f i s
  exact (hplain.comp hafter (n := closed [.railState, .inhibit, .timers, .queue] ++ openAfter)).keep (changeInhibitNoGrant_rails f i s)

theorem changeInhibitNoGrant_final {f : Inhibit → Inhibit} (hf : Retains Inhibit.final f) (i : SocketId) (s : State) :
    Law.final.Kept s (changeInhibitNoGrant f i s) := by
  have ht := changeInhibitNoGrant_touches f i s
  refine fun j => ⟨fun ⟨hm, hoff⟩ => ⟨?_, by rw [ht.therm j]; exact hoff⟩, fun h => .inl (by rw [← ht.life j]; exact h)⟩
  rw [changeInhibitNoGrant_inhibit]
  split
  · rename_i hj; subst hj; exact hf _ hm
  · exact hm

theorem changeInhibitNoGrant_hold {f : Inhibit → Inhibit} (hf : Retains Inhibit.permit f) (i : SocketId) (s : State) :
    Law.hold.Kept s (changeInhibitNoGrant f i s) := by
  have ht := changeInhibitNoGrant_touches f i s
  intro hs
  unfold PermitHolds
  rw [ht.runState, ht.holds]
  refine fun hp => ⟨(hs hp).1, fun j => ?_⟩
  rw [ht.life j, ht.therm j, changeInhibitNoGrant_inhibit]
  intro hj
  obtain ⟨h1, h2⟩ := (hs hp).2 j hj
  refine ⟨?_, h2⟩
  split
  · rename_i hji; subst hji; exact hf _ h1
  · exact h1

theorem changeInhibitNoGrant_runs {f : Inhibit → Inhibit} (hf : Retains Inhibit.run f) (i : SocketId) (s : State) :
    Law.runs.Kept s (changeInhibitNoGrant f i s) := by
  have ht := changeInhibitNoGrant_touches f i s
  intro hs j hj
  unfold OutOfRun at hj
  rw [ht.started, ht.declared j] at hj
  rw [changeInhibitNoGrant_inhibit]
  split
  · rename_i hji; subst hji; exact hf _ (hs _ hj)
  · exact hs j hj

/-- A change that takes none of RUN, THERMAL, SENSOR and FINAL out of a set keeps the causes that stand for the thermal
states. -/
theorem changeInhibitNoGrant_trip {f : Inhibit → Inhibit} (hrun : Retains Inhibit.run f) (hthermal : Retains Inhibit.thermal f)
    (hsensor : Retains Inhibit.sensor f) (hfinal : Retains Inhibit.final f) (i : SocketId) (s : State) :
    Law.trip.Kept s (changeInhibitNoGrant f i s) := by
  have ht := changeInhibitNoGrant_touches f i s
  intro hs j
  have hhot : (changeInhibitNoGrant f i s).hot j = s.hot j := by
    unfold State.hot; rw [ht.thermProf, ht.therm j]
  unfold CausesStand
  rw [hhot, ht.therm j, ht.started, ht.declared j, changeInhibitNoGrant_inhibit]
  obtain ⟨⟨h1, h2, h3, h4⟩, h5⟩ := hs j
  split
  · rename_i hj
    subst hj
    exact ⟨⟨fun h => hthermal _ (h1 h), fun h => hsensor _ (h2 h), fun h => (h3 h).imp (hrun _) (hfinal _),
      fun h => ⟨hrun _ (h4 h).1, (h4 h).2⟩⟩, h5⟩
  · exact ⟨⟨h1, h2, h3, h4⟩, h5⟩

/-- A change of one set and the grants of its zone. -/
def changeInhibit (f : Inhibit → Inhibit) (i : SocketId) (s : State) : State :=
  grantSlots (zoneOf i) (changeInhibitNoGrant f i s)

section
variable (f : Inhibit → Inhibit) (i : SocketId) (s : State)

theorem changeInhibit_touches : Touches (railWork ++ inhibitLaws) s (changeInhibit f i s) :=
  ((changeInhibitNoGrant_touches f i s).comp (grantSlots_touches _ _) (n := railWork ++ .law .slots :: inhibitLaws)).keep
    (x := .slots) (fun _ hs => grantSlots_slots (changeInhibitNoGrant_slots hs))

theorem changeInhibit_inhibit (j : SocketId) : ((changeInhibit f i s).sock j).rail.inhibit =
    if j = i then f (s.sock i).rail.inhibit else (s.sock j).rail.inhibit := by
  unfold changeInhibit
  rw [(grantSlots_touches _ _).inhibit j, changeInhibitNoGrant_inhibit]

variable {f i s}

theorem changeInhibit_demands (hf : Retains Inhibit.run f) : Law.demand.Kept s (changeInhibit f i s) :=
  fun _ _ hs => (grantSlots_touches _ _).law .demand rfl _ _ (changeInhibitNoGrant_demands (fun _ => hf) hs)

/-- A change that takes neither RUN nor FINAL nor PERMIT out of the set may break what the thermal states need alone. -/
theorem changeInhibit_touches_of (hrun : Retains Inhibit.run f) (hpermit : Retains Inhibit.permit f)
    (hfinal : Retains Inhibit.final f) : Touches (railWork ++ [.law .trip]) s (changeInhibit f i s) := by
  have h := (changeInhibit_touches f i s).keep (l := railWork ++ [.law .final, .law .hold, .law .trip, .law .runs])
    (changeInhibit_demands hrun)
  have h := h.keep (l := railWork ++ [.law .final, .law .hold, .law .trip])
    ((changeInhibitNoGrant_runs hrun i s).trans ((grantSlots_touches _ _).law .runs))
  have h := h.keep (l := railWork ++ [.law .hold, .law .trip])
    ((changeInhibitNoGrant_final hfinal i s).trans ((grantSlots_touches _ _).law .final))
  exact h.keep (l := railWork ++ [.law .trip])
    ((changeInhibitNoGrant_hold hpermit i s).trans ((grantSlots_touches _ _).law .hold))

theorem changeInhibit_keeps (hrun : Retains Inhibit.run f) (hpermit : Retains Inhibit.permit f)
    (hfinal : Retains Inhibit.final f) (hthermal : Retains Inhibit.thermal f) (hsensor : Retains Inhibit.sensor f) :
    Touches railWork s (changeInhibit f i s) :=
  (changeInhibit_touches_of hrun hpermit hfinal).keep
    ((changeInhibitNoGrant_trip hrun hthermal hsensor hfinal i s).trans ((grantSlots_touches _ _).law .trip))

end

/-- A cause put into a set takes no other out of it; a cause taken out leaves the others. -/
theorem retains_put_true (c d : Cause) : Retains (Inhibit.has d) (Inhibit.put c true) := by
  intro x
  cases c <;> cases d <;> simp [Inhibit.has, Inhibit.put]

theorem retains_put_false {c d : Cause} (h : d ≠ c) : Retains (Inhibit.has d) (Inhibit.put c false) := by
  intro x
  cases c <;> cases d <;> simp_all [Inhibit.has, Inhibit.put]

theorem addCause_touches (c : Cause) (i : SocketId) (s : State) : Touches railWork s (addCause c i s) :=
  changeInhibit_keeps (retains_put_true c .run) (retains_put_true c .permit) (retains_put_true c .final)
    (retains_put_true c .thermal) (retains_put_true c .sensor)

theorem removeCold_touches (i : SocketId) (s : State) : Touches railWork s (removeCause .cold i s) :=
  changeInhibit_keeps (retains_put_false (d := .run) (by simp)) (retains_put_false (d := .permit) (by simp))
    (retains_put_false (d := .final) (by simp)) (retains_put_false (d := .thermal) (by simp))
    (retains_put_false (d := .sensor) (by simp))

theorem removeCause_touches {c : Cause} (hc : c = .cold ∨ c = .thermal ∨ c = .sensor) (i : SocketId) (s : State) :
    Touches (railWork ++ [.law .trip]) s (removeCause c i s) := by
  have hne : Cause.run ≠ c ∧ Cause.permit ≠ c ∧ Cause.final ≠ c := by rcases hc with rfl | rfl | rfl <;> decide
  exact changeInhibit_touches_of (retains_put_false hne.1) (retains_put_false hne.2.1) (retains_put_false hne.2.2)

theorem addCause_inhibit (c : Cause) (i j : SocketId) (s : State) : ((addCause c i s).sock j).rail.inhibit =
    if j = i then (s.sock i).rail.inhibit.put c true else (s.sock j).rail.inhibit := changeInhibit_inhibit _ i s j

theorem removeCause_inhibit (c : Cause) (i j : SocketId) (s : State) : ((removeCause c i s).sock j).rail.inhibit =
    if j = i then (s.sock i).rail.inhibit.put c false else (s.sock j).rail.inhibit := changeInhibit_inhibit _ i s j

/-! ## Changes of several sets -/

/-- The laws of a loop: what each turn keeps, the loop keeps. -/
theorem forEach_kept {α : Type} {x : Law} {as : List α} {f : α → State → State} (h : ∀ a ∈ as, ∀ s, x.Kept s (f a s))
    (s : State) : x.Kept s (forEach as f s) :=
  forEach_keeps (P := x.Kept s) (fun a ha t ht => ht.trans (h a ha t)) s (Law.Kept.refl x s)

theorem grantAll_touches (s : State) : Touches [.railState, .timers, .queue] s (forEach allZones grantSlots s) :=
  forEach_touches (fun z _ t => grantSlots_touches z t) s

section
variable (l : List SocketId) (f : SocketId → Inhibit → Inhibit) (s : State)

theorem changeInhibits_touches : Touches (railWork ++ inhibitLaws) s (changeInhibits l f s) := by
  have h1 : Touches (railWork ++ .law .slots :: inhibitLaws) s (forEach l (fun i => changeInhibitNoGrant (f i) i) s) :=
    forEach_touches (fun i _ t => changeInhibitNoGrant_touches (f i) i t) s
  refine (h1.comp (grantAll_touches _) (n := railWork ++ .law .slots :: inhibitLaws)).keep (x := .slots) fun Z hs => ?_
  exact grantAll_slots (h1.law .rails rfl hs.1) Z

theorem changeInhibits_inhibit (hl : l.Nodup) (j : SocketId) : ((changeInhibits l f s).sock j).rail.inhibit =
    if j ∈ l then f j (s.sock j).rail.inhibit else (s.sock j).rail.inhibit := by
  unfold changeInhibits
  rw [(grantAll_touches _).inhibit j, forEach_at (g := fun t i => (t.sock i).rail.inhibit) (h := f)
    (fun i t k => changeInhibitNoGrant_inhibit (f i) i k t) l hl]

variable {l f s}

theorem changeInhibits_rails : Law.rails.Kept s (changeInhibits l f s) := (changeInhibits_touches l f s).law .rails

theorem changeInhibits_demands {M X : SocketId → Prop} (hf : ∀ i ∈ l, M i → Retains Inhibit.run (f i))
    (hs : Demands M X s) : Demands M X (changeInhibits l f s) :=
  (grantAll_touches _).law .demand rfl _ _
    (forEach_keeps (P := Demands M X) (fun i hi _ ht => changeInhibitNoGrant_demands (hf i hi) ht) s hs)

theorem changeInhibits_final (hf : ∀ i, Retains Inhibit.final (f i)) : Law.final.Kept s (changeInhibits l f s) :=
  (forEach_kept (fun i _ t => changeInhibitNoGrant_final (hf i) i t) s).trans ((grantAll_touches _).law .final)

theorem changeInhibits_hold (hf : ∀ i, Retains Inhibit.permit (f i)) : Law.hold.Kept s (changeInhibits l f s) :=
  (forEach_kept (fun i _ t => changeInhibitNoGrant_hold (hf i) i t) s).trans ((grantAll_touches _).law .hold)

theorem changeInhibits_runs (hf : ∀ i, Retains Inhibit.run (f i)) : Law.runs.Kept s (changeInhibits l f s) :=
  (forEach_kept (fun i _ t => changeInhibitNoGrant_runs (hf i) i t) s).trans ((grantAll_touches _).law .runs)

theorem changeInhibits_trip (hrun : ∀ i, Retains Inhibit.run (f i)) (hthermal : ∀ i, Retains Inhibit.thermal (f i))
    (hsensor : ∀ i, Retains Inhibit.sensor (f i)) (hfinal : ∀ i, Retains Inhibit.final (f i)) :
    Law.trip.Kept s (changeInhibits l f s) :=
  (forEach_kept (fun i _ t => changeInhibitNoGrant_trip (hrun i) (hthermal i) (hsensor i) (hfinal i) i t) s).trans
    ((grantAll_touches _).law .trip)

end

/-! ## The end of REST (R42) -/

theorem joinQueue_rails {i : SocketId} {s : State} (hne : (s.sock i).rail.state ≠ .queued)
    (he : (s.sock i).rail.inhibit.isEmpty = true) : Law.rails.Kept s (joinQueue i s) := by
  intro hs
  have hni : i ∉ (s.zone (zoneOf i)).rampQueue := by rw [(hs.2.1 (zoneOf i)).2 i]; simp [hne]
  have hr := joinQueue_rail i s
  refine railLaws_of_change hs (joinQueue_else i s) ?_ (fun j hj => ?_) ?_ ?_ ?_
  · rw [joinQueue_queue]
    exact List.nodup_append.mpr ⟨(hs.2.1 (zoneOf i)).1, List.nodup_singleton i, fun a ha b hb => by
      rw [List.mem_singleton.mp hb]; exact fun h => hni (h ▸ ha)⟩
  · rw [joinQueue_queue]; simp [hj]
  · rw [joinQueue_queue, hr]; simp
  · rw [hr]; simp [RailState.ramping]
  · rw [hr, he]; exact fun h => absurd h (by decide)

theorem setOff_rails {i : SocketId} {s : State} (hrest : (s.sock i).rail.state = .rest) :
    Law.rails.Kept s (modRail i (fun r => { r with state := .off }) s) := by
  intro hs
  have hr : ((modRail i (fun r => { r with state := .off }) s).sock i).rail = { (s.sock i).rail with state := .off } :=
    modRail_rail_self i _ s
  refine railLaws_of_change hs (railsElse_modRail i _ s) (hs.2.1 _).1 (fun j _ => Iff.rfl) ?_ ?_ ?_
  · rw [hr]; simp only [modRail_zone]; rw [(hs.2.1 (zoneOf i)).2 i, hrest]; simp
  · rw [hr]; simp [RailState.ramping]
  · intro _; exact .inl (by rw [hr])

theorem leaveRest_rails (i : SocketId) (s : State) : Law.rails.Kept s (leaveRest i s) := by
  unfold leaveRest
  split_ifs with h1 h2
  · exact (joinQueue_rails (by rw [h1]; simp) h2).trans ((grantSlots_touches _ _).law .rails)
  · exact setOff_rails h1
  · exact Law.Kept.refl _ s

theorem leaveRest_slots (i : SocketId) (s : State) : Law.slots.Kept s (leaveRest i s) := by
  intro Z hs
  unfold leaveRest
  split_ifs with h1 h2
  · exact grantSlots_slots (slotsFull_of_change hs (joinQueue_rails (by rw [h1]; simp) h2 hs.1) (joinQueue_else i s)
      ((joinQueue_touches i s).railProf))
  · refine ⟨setOff_rails h1 hs.1, fun z hz hp hq => ?_⟩
    have hsl : (modRail i (fun r => { r with state := .off }) s).slotHolders z = s.slotHolders z := by
      refine List.filter_congr fun j _ => ?_
      rw [modRail_sock]
      split
      · rename_i hj; subst hj; rw [h1]; rfl
      · rfl
    rw [hsl]
    exact hs.2 z hz hp hq
  · exact hs

/-- A rail let off REST's timer needs it again. -/
theorem demands_strict {M X : SocketId → Prop} {i : SocketId} {s : State} (hs : Demands M (fun j => X j ∨ j = i) s)
    (hi : RailDemands (X i) (M i) (s.sock i).rail) : Demands M X s := by
  refine ⟨hs.1, fun j => ?_⟩
  by_cases hji : j = i
  · subst hji; exact hi
  · obtain ⟨g1, g2, g3, g4, g5, g6⟩ := hs.2 j
    exact ⟨g1, g2, g3, g4, fun hr => (g5 hr).imp (fun h => h.resolve_right hji) id, g6⟩

/-- The end of REST makes good the demand of a rail whose off-time has stopped. -/
theorem leaveRest_demands {M X : SocketId → Prop} {i : SocketId} {s : State}
    (hs : Demands M (fun j => X j ∨ j = i) s) (ht : (s.sock i).rail.offTimer = none) : Demands M X (leaveRest i s) := by
  obtain ⟨hph, hramp, hstab, hoff, hrest, hrun, hset⟩ := hs.2 i
  unfold leaveRest
  split_ifs with h1 h2
  · rw [h1] at hph hramp hstab
    have hi : RailDemands (X i) (M i) ((joinQueue i s).sock i).rail := by
      rw [joinQueue_rail]
      exact ⟨by simpa using hph, by simpa using hramp, by simpa using hstab, by simp [ht], by simp, hrun, by simp⟩
    have hi' : RailDemands (X i ∨ i = i) (M i) ((joinQueue i s).sock i).rail := by
      obtain ⟨g1, g2, g3, g4, g5, g6⟩ := hi
      exact ⟨g1, g2, g3, g4, fun _ => .inl (.inr rfl), g6⟩
    exact (grantSlots_touches _ _).law .demand rfl M X (demands_strict (demands_of_change hs
      (joinQueue_rails (by rw [h1]; simp) h2 hs.1) (joinQueue_else i s) hi') hi)
  · rw [h1] at hph hramp hstab
    have hi : ∀ x, RailDemands x (M i) ((modRail i (fun r => { r with state := .off }) s).sock i).rail := by
      intro x
      rw [modRail_rail_self]
      exact ⟨by simpa using hph, by simpa using hramp, by simpa using hstab, by simp, by simp, hrun,
        fun he => absurd he (by simpa using h2)⟩
    exact demands_strict (demands_of_change hs (setOff_rails h1 hs.1) (railsElse_modRail i _ s) (hi _)) (hi _)
  · exact demands_strict hs ⟨hph, hramp, hstab, hoff, fun h => absurd h h1, hrun, hset⟩

theorem leaveRest_touches (i : SocketId) (s : State) :
    Touches [.railState, .timers, .queue, .law .demand] s (leaveRest i s) := by
  have h : Touches (closed [.railState, .timers, .queue]) s (leaveRest i s) := by
    unfold leaveRest
    split_ifs
    · exact (joinQueue_touches i s).comp (grantSlots_touches _ _)
    · exact (setRailState_touches i _ s).mono
    · exact Touches.refl _ s
  exact (h.keep (l := [.railState, .timers, .queue, .law .demand, .law .slots]) (leaveRest_rails i s)).keep
    (leaveRest_slots i s)

end Sys2Proof.Proofs.Frames

/-! What the operations of the sequencers touch, and the laws of the memory port and of the page buffers that they keep. -/

namespace Sys2Proof.Proofs.Frames

open Sys2Proof.Machine Sys2Proof.Safety

/-! ## The port and its requesters -/

/-- A transfer has its requester (R95). -/
def PortHeld (s : State) : Prop := (s.store.port = some .staging → s.store.staging.isSome = true) ∧
  ∀ z : ZoneId, s.store.port = some (.burst z) → (s.zone z).seq.fetch.isSome = true

theorem portInv_iff (s : State) : PortInv s ↔
    (s.store.port = none → s.store.staging = none ∧ ∀ z : ZoneId, (s.zone z).seq.fetch = none) ∧ PortHeld s ∧
      PlacesStand s := by
  constructor
  · rintro ⟨h1, h2, h3, h4, h5⟩
    exact ⟨h1, ⟨h2, h3⟩, fun z => ⟨h4 z, fun h => h5 h z⟩⟩
  · rintro ⟨h1, ⟨h2, h3⟩, h4⟩
    exact ⟨h1, h2, h3, fun z => (h4 z).1, fun h z => (h4 z).2 h⟩

/-- No zone passes a test where no next zone is found; the next zone found passes it (R96). -/
theorem nextZone_none {ptr : ZoneId} {p : ZoneId → Bool} (h : nextZone ptr p = none) (z : ZoneId) : p z = false := by
  have hz : ∀ ptr z : ZoneId, z ∈ [ptr + 1, ptr + 2, ptr + 3, ptr] := by decide
  simpa using List.find?_eq_none.mp h z (hz ptr z)

theorem nextZone_some {ptr z : ZoneId} {p : ZoneId → Bool} (h : nextZone ptr p = some z) : p z = true :=
  List.find?_some h

/-- After a grant decision a transfer has its requester, and an idle port has none waiting (R95). -/
theorem arbitrate_held {s : State} (h : PortHeld s) : PortHeld (arbitrate s) ∧
    ((arbitrate s).store.port = none → s.store.staging = none ∧ ∀ z : ZoneId, (s.zone z).seq.fetch = none) := by
  have hwait : ∀ z, s.fetchWaits z = true → (s.zone z).seq.fetch.isSome = true := by
    intro z hz; simp only [State.fetchWaits, Bool.and_eq_true] at hz; exact hz.1
  have hst : s.stagingWaits = true → s.store.staging.isSome = true := by
    intro hw; simp only [State.stagingWaits, Bool.and_eq_true] at hw; exact hw.1
  have hburst : ∀ z u, (s.zone z).seq.fetch.isSome = true → u.store.port = some (.burst z) → u.zones = s.zones →
      PortHeld u ∧ (u.store.port = none → s.store.staging = none ∧ ∀ z : ZoneId, (s.zone z).seq.fetch = none) := by
    intro z u hz hp hu
    refine ⟨⟨fun h => absurd (hp.symm.trans h) (by simp), fun y hy => ?_⟩, fun h => absurd (hp.symm.trans h) (by simp)⟩
    rw [hp] at hy
    cases hy
    unfold State.zone
    rw [hu]
    exact hz
  have hstaging : s.stagingWaits = true → PortHeld (grantStaging s) ∧ ((grantStaging s).store.port = none →
      s.store.staging = none ∧ ∀ z : ZoneId, (s.zone z).seq.fetch = none) :=
    fun hw => ⟨⟨fun _ => hst hw, fun y hy => absurd hy (by simp [grantStaging])⟩, fun h => absurd h (by simp [grantStaging])⟩
  unfold arbitrate
  split
  · rename_i hp
    exact ⟨h, fun hn => by rw [hn] at hp; cases hp⟩
  · rename_i hp
    have hp : s.store.port = none := by simpa using hp
    split
    · rename_i z hz
      have := nextZone_some hz
      simp only [Bool.and_eq_true] at this
      exact hburst z _ (hwait z this.1) rfl rfl
    · rename_i hno1
      split
      · rename_i hw
        simp only [Bool.and_eq_true] at hw
        exact hstaging hw.1
      · split
        · rename_i z hz
          have := nextZone_some hz
          simp only [Bool.and_eq_true] at this
          exact hburst z _ (hwait z this.1) rfl rfl
        · rename_i hno3
          split
          · rename_i hw; exact hstaging hw
          · rename_i hw
            refine ⟨h, fun _ => ⟨?_, fun z => ?_⟩⟩
            · simpa [State.stagingWaits, hp] using hw
            · have h1 := nextZone_none hno1 z
              have h3 := nextZone_none hno3 z
              simp only [State.fetchWaits, hp, Bool.and_eq_false_iff] at h1 h3
              cases hf : (s.zone z).seq.fetch with
              | none => rfl
              | some f => rw [hf] at h1 h3; simp_all

/-- A grant decision makes the port good. -/
theorem arbitrate_port {s : State} (h : PortHeld s) (hp : PlacesStand s) : PortInv (arbitrate s) := by
  obtain ⟨h1, h2⟩ := arbitrate_held h
  have ht := arbitrate_touches s
  refine (portInv_iff _).mpr ⟨fun hn => ?_, h1, fun z => ?_⟩
  · rw [arbitrate_staging]
    exact ⟨(h2 hn).1, fun z => by rw [ht.seq z]; exact (h2 hn).2 z⟩
  · rw [ht.seq z, ht.started]; exact hp z

theorem arbitrate_keeps (s : State) : Touches [.port] s (arbitrate s) :=
  (arbitrate_touches s).keep (x := .port) fun hs =>
    arbitrate_port ((portInv_iff s).mp hs).2.1 ((portInv_iff s).mp hs).2.2

/-- Where every zone is where it may be, the port is good after a transfer ends. -/
theorem releasePort_port {s : State} (hp : PlacesStand s) : PortInv (releasePort s) :=
  arbitrate_port ⟨fun h => absurd h (by simp), fun z h => absurd h (by simp)⟩ hp

theorem setPort_touches (x : Option Transfer) (s : State) :
    Touches (closed [.port]) s (modStore (fun st => { st with port := x }) s) :=
  board_touches rfl rfl fun p hp hlaw => by
    cases p with
    | port => exact absurd hp (by decide)
    | law x => exact absurd rfl (hlaw x)
    | _ => simp [BoardSame]

theorem releasePort_touches (s : State) : Touches [.port] s (releasePort s) :=
  ((setPort_touches none s).trans (arbitrate_touches _)).keep (x := .port) fun hs =>
    releasePort_port ((portInv_iff s).mp hs).2.2

/-! ## A zone's sequencer record -/

/-- In a pass the playing buffer is full, and a fetch fills the other one (R105, R110). -/
def SeqFits (q : Seq) : Prop := (q.state.inPass = true → isFull (q.buf q.play.buf) = true) ∧
  ∀ f, q.fetch = some f → f.target = q.play.buf.other ∧ isFull (q.buf f.target) = false

theorem modSeq_seq (z y : ZoneId) (f : Seq → Seq) (s : State) :
    ((modSeq z f s).zone y).seq = if y = z then f (s.zone z).seq else (s.zone y).seq := by
  rw [modSeq_zone]; split <;> simp_all

section
variable {z : ZoneId} {f : Seq → Seq} {s : State}

theorem modSeq_places (h : PlaceFits s.started (s.zone z).seq → PlaceFits s.started (f (s.zone z).seq)) :
    Law.places.Kept s (modSeq z f s) := by
  intro hs y
  show PlaceFits s.started _
  rw [modSeq_seq]
  split
  · exact h (hs z)
  · exact hs y

theorem modSeq_seqs (h : SeqFits (s.zone z).seq → SeqFits (f (s.zone z).seq)) : Law.seqs.Kept s (modSeq z f s) := by
  intro hs y
  show SeqFits _
  rw [modSeq_seq]
  split
  · exact h (hs z)
  · exact hs y

theorem modSeq_held (hf : (s.zone z).seq.fetch.isSome = true → (f (s.zone z).seq).fetch.isSome = true) (hs : PortHeld s) :
    PortHeld (modSeq z f s) := by
  refine ⟨hs.1, fun y hy => ?_⟩
  rw [modSeq_seq]
  split
  · rename_i hyz; subst hyz; exact hf (hs.2 y hy)
  · exact hs.2 y hy

theorem modSeq_port (hf : (f (s.zone z).seq).fetch.isSome = (s.zone z).seq.fetch.isSome)
    (h : PlaceFits s.started (s.zone z).seq → PlaceFits s.started (f (s.zone z).seq)) : Law.port.Kept s (modSeq z f s) := by
  intro hs
  obtain ⟨h1, h2, h3⟩ := (portInv_iff s).mp hs
  refine (portInv_iff _).mpr ⟨fun hn => ⟨(h1 hn).1, fun y => ?_⟩, modSeq_held (fun h => hf ▸ h) h2, modSeq_places h h3⟩
  rw [modSeq_seq]
  split
  · rw [← Option.isNone_iff_eq_none, ← Option.not_isSome, hf, (h1 hn).2 z]; rfl
  · exact (h1 hn).2 y

/-- The laws of the port and of the buffers. -/
abbrev seqLaws : List Piece := [.law .places, .law .port, .law .seqs]

/-- A change of a sequencer record that leaves its fetch waiting or not keeps the laws where the record fits them. -/
theorem modSeq_keeps (hf : (f (s.zone z).seq).fetch.isSome = (s.zone z).seq.fetch.isSome)
    (hp : PlaceFits s.started (s.zone z).seq → PlaceFits s.started (f (s.zone z).seq))
    (hq : SeqFits (s.zone z).seq → SeqFits (f (s.zone z).seq)) : Touches [.seq] s (modSeq z f s) :=
  (((modSeq_touches z f s).keep (l := [.seq, .law .port, .law .seqs]) (modSeq_places hp)).keep (l := [.seq, .law .seqs])
    (modSeq_port hf hp)).keep (modSeq_seqs hq)

/-- A change that leaves the state, the fetch, the buffers and the play buffer keeps the laws. -/
theorem modSeq_aside (hst : (f (s.zone z).seq).state = (s.zone z).seq.state)
    (hf : (f (s.zone z).seq).fetch = (s.zone z).seq.fetch) (hb : ∀ b, (f (s.zone z).seq).buf b = (s.zone z).seq.buf b)
    (hp : (f (s.zone z).seq).play.buf = (s.zone z).seq.play.buf) : Touches [.seq] s (modSeq z f s) := by
  refine modSeq_keeps (by rw [hf]) (fun h => ?_) (fun h => ?_)
  · unfold PlaceFits; rw [hst, hf]; exact h
  · unfold SeqFits; rw [hst, hf, hp]; simp only [hb]; exact h

end

/-! ## Buffers -/

theorem buf_setBuf (q : Seq) (b c : BufId) (x : Buffer) : (q.setBuf b x).buf c = if c = b then x else q.buf c := by
  cases b <;> cases c <;> rfl

@[simp] theorem buf_emptied (q : Seq) (b : BufId) : q.emptied.buf b = .empty := by cases b <;> rfl

theorem setBuf_frame (q : Seq) (b : BufId) (x : Buffer) :
    (q.setBuf b x).state = q.state ∧ (q.setBuf b x).fetch = q.fetch ∧ (q.setBuf b x).play = q.play := by
  cases b <;> exact ⟨rfl, rfl, rfl⟩

@[simp] theorem other_other (b : BufId) : b.other.other = b := by cases b <;> rfl

theorem other_ne (b : BufId) : b.other ≠ b := by cases b <;> simp [BufId.other]

theorem eq_other_of_ne {b c : BufId} (h : c ≠ b) : c = b.other := by cases b <;> cases c <;> simp_all [BufId.other]

/-- A buffer of the sequencer other than the playing one, marked not full, leaves the record fit. -/
theorem seqFits_setBuf {q : Seq} {x : Buffer} (hx : isFull x = false) (h : SeqFits q) :
    SeqFits (q.setBuf q.play.buf.other x) := by
  obtain ⟨hst, hf, hp⟩ := setBuf_frame q q.play.buf.other x
  obtain ⟨h1, h2⟩ := h
  refine ⟨?_, ?_⟩
  · rw [hst, hp, buf_setBuf, if_neg (other_ne _).symm]; exact h1
  · rw [hf, hp]
    intro f hfe
    refine ⟨(h2 f hfe).1, ?_⟩
    rw [buf_setBuf, if_pos (h2 f hfe).1]
    exact hx

/-- With its buffers empty a record out of a pass fits. -/
theorem seqFits_of_empty {q : Seq} (hst : q.state.inPass = false) (hb : ∀ b, q.buf b = .empty)
    (hf : ∀ f, q.fetch = some f → f.target = q.play.buf.other) : SeqFits q :=
  ⟨fun h => by rw [hst] at h; exact absurd h (by decide), fun f hfe => ⟨hf f hfe, by rw [hb]; rfl⟩⟩

/-- A pass that plays from a full buffer fits: a fetch under way fills another one. -/
theorem seqFits_playing {q q' : Seq} {b : BufId} (h : ∀ f, q.fetch = some f → isFull (q.buf f.target) = false)
    (hb : isFull (q.buf b) = true) (hplay : q'.play.buf = b) (hf : q'.fetch = q.fetch) (hbuf : ∀ c, q'.buf c = q.buf c) :
    SeqFits q' := by
  refine ⟨fun _ => by rw [hplay, hbuf]; exact hb, fun f hfe => ?_⟩
  rw [hf] at hfe
  have hfull := h f hfe
  rw [hplay, hbuf]
  refine ⟨eq_other_of_ne ?_, hfull⟩
  rintro rfl
  rw [hb] at hfull
  exact absurd hfull (by decide)

theorem isFull_of_holds {t : PageTag} {x : Buffer} (h : x.holds t = true) : isFull x = true := by
  cases x <;> simp_all [Buffer.holds, isFull]

/-! ## Fetches -/

theorem startFetch_touches (z : ZoneId) (t : PageTag) (s : State) :
    Touches (closed [.seq, .port]) s (startFetch z t s) :=
  (modSeq_touches z _ s).comp (arbitrate_touches _)

/-- A fetch starts in a zone that may have one. -/
theorem startFetch_keeps {z : ZoneId} {s : State} (t : PageTag)
    (hst : (s.zone z).seq.state ≠ .idle ∧ (s.zone z).seq.state ≠ .static ∧ (s.zone z).seq.state ≠ .done) :
    Touches [.seq, .port] s (startFetch z t s) := by
  let g : Seq → Seq := fun q => { q.setBuf q.play.buf.other (.filling t) with
    fetch := some { tag := t, target := q.play.buf.other, burst := 0, data := [] } }
  have hg := setBuf_frame (s.zone z).seq (s.zone z).seq.play.buf.other (.filling t)
  have hplace : Law.places.Kept s (modSeq z g s) := modSeq_places fun h => ⟨fun hi => by
    rcases hi with hi | hi | hi
    · exact absurd (hg.1.symm.trans hi) hst.1
    · exact absurd (hg.1.symm.trans hi) hst.2.1
    · exact absurd (hg.1.symm.trans hi) hst.2.2, fun hr => hg.1.trans (h.2 hr)⟩
  have hseqs : Law.seqs.Kept s (modSeq z g s) := modSeq_seqs fun h => by
    obtain ⟨h1, -⟩ := seqFits_setBuf (x := .filling t) rfl h
    refine ⟨h1, fun f hfe => ?_⟩
    obtain rfl := Option.some.inj hfe
    refine ⟨congrArg (fun p : Play => p.buf.other) hg.2.2.symm, ?_⟩
    show isFull (((s.zone z).seq.setBuf _ _).buf _) = false
    rw [buf_setBuf, if_pos rfl]
    rfl
  have h1 := ((startFetch_touches z t s).keep (l := [.seq, .port, .law .port, .law .seqs]) (x := .places)
    (hplace.trans ((arbitrate_touches _).law .places)))
  refine (h1.keep (l := [.seq, .port, .law .port]) (x := .seqs) (hseqs.trans ((arbitrate_touches _).law .seqs))).keep
    (x := .port) fun hs => ?_
  obtain ⟨-, h2, h3⟩ := (portInv_iff s).mp hs
  exact arbitrate_port (modSeq_held (fun _ => rfl) h2) (hplace h3)

theorem wanted_state {z : ZoneId} {s : State} {t : PageTag} (h : s.wanted z = some t) :
    (s.zone z).seq.state ≠ .idle ∧ (s.zone z).seq.state ≠ .static ∧ (s.zone z).seq.state ≠ .done := by
  unfold State.wanted at h
  split at h <;> simp_all

/-- What the sequencer of a zone touches with its fetches. -/
abbrev seqPort : List Piece := [.seq, .port]

theorem fetchWanted_touches (z : ZoneId) (s : State) : Touches seqPort s (fetchWanted z s) := by
  unfold fetchWanted
  split
  · rename_i t ht
    split
    · exact Touches.refl _ s
    · split
      · rename_i f hf
        split
        · obtain ⟨hst, hfe, hp⟩ := setBuf_frame (s.zone z).seq f.target (.filling t)
          refine (modSeq_keeps (by rw [hfe]) (fun h => ?_) fun h => ?_).mono
          · unfold PlaceFits; rw [hst, hfe]; exact h
          · rw [(h.2 f hf).1]; exact seqFits_setBuf rfl h
        · exact Touches.refl _ s
      · exact startFetch_keeps t (wanted_state ht)
  · exact Touches.refl _ s

theorem chooseNext_touches (z : ZoneId) (s : State) : Touches seqPort s (chooseNext z s) := by
  simp only [chooseNext]
  split
  · exact (modSeq_aside rfl rfl (fun b => by cases b <;> rfl) rfl).mono
  · rename_i t _
    obtain ⟨hst, hfe, hp⟩ := setBuf_frame (s.zone z).seq (s.zone z).seq.play.buf.other .empty
    refine (modSeq_keeps (f := fun q => { q.setBuf q.play.buf.other .empty with next := some t }) ?_ (fun h => ?_)
      fun h => ?_).comp (fetchWanted_touches z _)
    · exact congrArg Option.isSome hfe
    · exact ⟨fun hi => hfe.trans (h.1 (hst ▸ hi)), fun hr => hst.trans (h.2 hr)⟩
    · exact seqFits_setBuf (x := .empty) rfl h

/-! ## Playing -/

/-- The zone is out of IDLE, or the run has started: it may take another place. -/
def MayMove (z : ZoneId) (s : State) : Prop := (s.zone z).seq.state ≠ .idle ∨ s.started = true

theorem mayMove_started {z : ZoneId} {s : State} (h : MayMove z s) (hp : PlaceFits s.started (s.zone z).seq) :
    s.started = true := by
  rcases h with h | h
  · by_contra hc
    exact h (hp.2 (by simpa using hc))
  · exact h

theorem MayMove.of_touches {z : ZoneId} {s t : State} {l : List Piece} (h : MayMove z s) (ht : Touches l s t)
    (hs : Piece.seq.isIn l = false := by rfl) (hr : Piece.runState.isIn l = false := by rfl) : MayMove z t := by
  unfold MayMove
  rw [ht.seq z hs, ht.started hr]
  exact h

/-- A state that IDLE, STATIC and DONE are not needs no fetch withdrawn. -/
theorem placeFits_of_started {st : Bool} {q : Seq} (hst : st = true)
    (hq : q.state ≠ .idle ∧ q.state ≠ .static ∧ q.state ≠ .done) : PlaceFits st q :=
  ⟨fun h => by rcases h with h | h | h <;> simp_all, fun h => absurd (hst.symm.trans h) (by decide)⟩

/-- What a pass start touches. -/
abbrev passWork : List Piece := [.seq, .port, .chk, .checked, .context]

theorem passStart_touches (z : ZoneId) (b : BufId) (s : State) : Touches (passWork ++ seqLaws) s (passStart z b s) := by
  unfold passStart
  split
  · exact Touches.refl _ s
  · exact (modSeq_touches z _ s).comp ((joinPass_touches z _ _ _).comp (chooseNext_touches z _) (n := passWork))

/-- A pass starts from a full buffer of a zone that may play. -/
theorem passStart_keeps {z : ZoneId} {b : BufId} {s : State} (hz : MayMove z s) (hb : isFull ((s.zone z).seq.buf b) = true) :
    Touches passWork s (passStart z b s) := by
  unfold passStart
  split
  · exact Touches.refl _ s
  · refine Touches.comp (l := [.seq]) (modSeq_keeps rfl (fun h => ?_) fun h => ?_)
      ((joinPass_touches z _ _ _).comp (chooseNext_touches z _) (n := passWork))
    · exact placeFits_of_started (mayMove_started hz h) (by simp [applyVec])
    · exact seqFits_playing (fun f hf => (h.2 f hf).2) hb rfl rfl fun c => by cases c <;> rfl

/-- The ready buffer is full. -/
theorem ready_full {z : ZoneId} {b : BufId} {s : State} (h : s.ready z = some b) :
    isFull ((s.zone z).seq.buf b) = true := by
  unfold State.ready at h
  obtain ⟨t, -, h⟩ := Option.bind_eq_some_iff.mp h
  unfold Seq.readyBuf at h
  split_ifs at h with h1 h2
  · obtain rfl := Option.some.inj h; exact isFull_of_holds h1
  · obtain rfl := Option.some.inj h; exact isFull_of_holds h2

/-- The sequencer record of a zone that enters PRIMING. -/
abbrev toPriming (w : BitVec 16) (q : Seq) : Seq := { q with state := .priming, gapTimer := none, next := none, drive := w }

theorem enterPriming_eq (z : ZoneId) (s : State) : enterPriming z s =
    match (modSeq z (toPriming (s.idleWord z)) s).ready z with
    | some b => passStart z b (modSeq z (toPriming (s.idleWord z)) s)
    | none => fetchWanted z (modSeq z (toPriming (s.idleWord z)) s) := rfl

/-- What follows the entry into PRIMING keeps the laws. -/
theorem primed_keeps (z : ZoneId) (w : BitVec 16) (s : State) : Touches passWork (modSeq z (toPriming w) s)
    (match (modSeq z (toPriming w) s).ready z with
      | some b => passStart z b (modSeq z (toPriming w) s)
      | none => fetchWanted z (modSeq z (toPriming w) s)) := by
  split
  · rename_i b hb
    exact passStart_keeps (.inl (by rw [modSeq_seq, if_pos rfl]; simp)) (ready_full hb)
  · exact (fetchWanted_touches z _).mono

theorem enterPriming_touches (z : ZoneId) (s : State) : Touches (passWork ++ seqLaws) s (enterPriming z s) :=
  (modSeq_touches z (toPriming (s.idleWord z)) s).comp (primed_keeps z _ s)

theorem enterPriming_keeps {z : ZoneId} {s : State} (hz : MayMove z s) : Touches passWork s (enterPriming z s) := by
  refine Touches.comp (l := [.seq]) (m := passWork) (modSeq_keeps rfl (fun h => ?_) fun h => ?_) (primed_keeps z _ s)
  · exact placeFits_of_started (mayMove_started hz h) (by simp)
  · exact ⟨fun h => absurd h (by simp [SeqState.inPass]), h.2⟩

/-! ## A fetch withdrawn -/

theorem withdrawFetch_plain (z : ZoneId) (s : State) : Touches (closed [.seq, .port]) s (withdrawFetch z s) := by
  unfold withdrawFetch
  refine (modSeq_touches z (fun q => { q with fetch := none }) s).comp (m := closed [.port]) ?_
  exact board_touches rfl rfl fun p hp hlaw => by
    cases p with
    | port => exact absurd hp (by decide)
    | law x => exact absurd rfl (hlaw x)
    | mem | pages | programs | staging => simp only [BoardSame, modStore_store]; split <;> rfl
    | _ => simp [BoardSame]

theorem withdrawFetch_seq (z y : ZoneId) (s : State) : ((withdrawFetch z s).zone y).seq =
    if y = z then { (s.zone z).seq with fetch := none } else (s.zone y).seq :=
  modSeq_seq z y (fun q => { q with fetch := none }) s

theorem withdrawFetch_held {z : ZoneId} {s : State} (hs : PortHeld s) : PortHeld (withdrawFetch z s) := by
  have hport : (withdrawFetch z s).store.port = if s.store.port = some (.burst z) then none else s.store.port := by
    by_cases h : s.store.port = some (.burst z)
    · simp [withdrawFetch, h]
    · simp [withdrawFetch, h]
  have hst : (withdrawFetch z s).store.staging = s.store.staging := (withdrawFetch_plain z s).staging
  refine ⟨fun h => ?_, fun y hy => ?_⟩
  · rw [hport] at h
    split at h
    · cases h
    · rw [hst]; exact hs.1 h
  · rw [hport] at hy
    split at hy
    · cases hy
    · rename_i hne
      rw [withdrawFetch_seq]
      split
      · rename_i hyz; subst hyz; exact absurd hy hne
      · exact hs.2 y hy

theorem portHeld_of_touches {l : List Piece} {s t : State} (h : Touches l s t) (hs : PortHeld s)
    (h1 : Piece.port.isIn l = false := by rfl) (h2 : Piece.staging.isIn l = false := by rfl)
    (h3 : Piece.seq.isIn l = false := by rfl) : PortHeld t := by
  unfold PortHeld
  rw [(h.portPart h1).1, h.staging h2]
  exact ⟨hs.1, fun z hz => by rw [h.seq z h3]; exact hs.2 z hz⟩

/-- What a zone that leaves play does besides its sequencer record: the checker closes its pass. -/
abbrev leaveAside : List Piece := [.chk, .checked]

section
variable {z : ZoneId} {g : Seq → Seq} {s u : State}

/-- A zone leaves play for a place out of a pass, and its fetch is withdrawn. -/
theorem withdrawn_places (hu : Touches leaveAside (modSeq z g s) u)
    (hst : PlaceFits s.started (s.zone z).seq → s.started = false → (g (s.zone z).seq).state = .idle) :
    Law.places.Kept s (withdrawFetch z u) := by
  intro hs y
  rw [withdrawFetch_seq, (withdrawFetch_plain z u).started, hu.started, hu.seq z, hu.seq y]
  split
  · rw [modSeq_seq, if_pos rfl]
    exact ⟨fun _ => rfl, hst (hs z)⟩
  · rename_i hy
    rw [modSeq_seq, if_neg hy]
    exact hs y

theorem withdrawn_seqs (hu : Touches leaveAside (modSeq z g s) u) (hpass : (g (s.zone z).seq).state.inPass = false) :
    Law.seqs.Kept s (withdrawFetch z u) := by
  intro hs y
  show SeqFits _
  rw [withdrawFetch_seq, hu.seq z, hu.seq y]
  split
  · rw [modSeq_seq, if_pos rfl]
    exact ⟨fun h => absurd (hpass.symm.trans h) (by decide), fun f h => absurd h (by simp)⟩
  · rename_i hy
    rw [modSeq_seq, if_neg hy]
    exact hs y

theorem withdrawn_held (hu : Touches leaveAside (modSeq z g s) u)
    (hf : (s.zone z).seq.fetch.isSome = true → (g (s.zone z).seq).fetch.isSome = true) (hs : PortHeld s) :
    PortHeld (withdrawFetch z u) :=
  withdrawFetch_held (portHeld_of_touches hu (modSeq_held hf hs))

/-- A zone leaves play, its fetch is withdrawn, and the port is granted anew. -/
theorem withdrawn_keeps {l : List Piece} (hl : Touches (l ++ seqLaws) s (arbitrate (withdrawFetch z u)))
    (hu : Touches leaveAside (modSeq z g s) u)
    (hf : (s.zone z).seq.fetch.isSome = true → (g (s.zone z).seq).fetch.isSome = true)
    (hst : PlaceFits s.started (s.zone z).seq → s.started = false → (g (s.zone z).seq).state = .idle)
    (hpass : (g (s.zone z).seq).state.inPass = false)
    (h1 : (l ++ seqLaws).all (·.isIn (Piece.law .places :: (l ++ [.law .port, .law .seqs]))) = true := by rfl)
    (h2 : (l ++ [Piece.law .port, .law .seqs]).all (·.isIn (Piece.law .seqs :: (l ++ [.law .port]))) = true := by rfl)
    (h3 : (l ++ [Piece.law .port]).all (·.isIn (Piece.law .port :: l)) = true := by rfl) :
    Touches l s (arbitrate (withdrawFetch z u)) := by
  have hplace := withdrawn_places hu hst
  refine ((hl.keep (l := l ++ [.law .port, .law .seqs]) (hplace.trans ((arbitrate_touches _).law .places)) h1).keep
    (l := l ++ [.law .port]) ((withdrawn_seqs hu hpass).trans ((arbitrate_touches _).law .seqs)) h2).keep
    (x := .port) (fun hs => ?_) h3
  obtain ⟨-, hheld, hp⟩ := (portInv_iff s).mp hs
  exact arbitrate_port (withdrawn_held hu hf hheld) (hplace hp)

end

theorem enterStatic_touches (z : ZoneId) (s : State) : Touches (seqPort ++ seqLaws) s (enterStatic z s) :=
  (modSeq_touches z _ s).comp ((withdrawFetch_plain z _).comp (arbitrate_touches _) (n := closed [.seq, .port]))

theorem enterStatic_keeps {z : ZoneId} {s : State} (hz : MayMove z s) : Touches seqPort s (enterStatic z s) :=
  withdrawn_keeps (enterStatic_touches z s) (Touches.refl _ _) id
    (fun h hs => absurd ((mayMove_started hz h).symm.trans hs) (by decide)) rfl

theorem enterHeld_touches (z : ZoneId) (s : State) : Touches (.seq :: seqLaws) s (enterHeld z s) :=
  (modSeq_touches z _ s).mono

theorem enterHeld_keeps {z : ZoneId} {s : State} (hz : MayMove z s) : Touches [.seq] s (enterHeld z s) :=
  modSeq_keeps rfl (fun h => placeFits_of_started (mayMove_started hz h) (by simp))
    fun h => seqFits_of_empty rfl (fun b => by cases b <;> rfl) fun f hf => (h.2 f hf).1

theorem passVoidNotice_touches (z : ZoneId) (s : State) : Touches [.routine] s (passVoidNotice z s) :=
  sendRoutine_touches _ _ s

/-- Counting a void pass leaves the record as it was otherwise. -/
theorem countVoid_touches (z : ZoneId) (f : Seq → Seq) (hf : ∀ q, f q = { q with voidCount := (f q).voidCount, void := (f q).void })
    (s : State) : Touches [.seq] s (modSeq z f s) := by
  have h := hf (s.zone z).seq
  refine modSeq_aside ?_ ?_ (fun b => ?_) ?_ <;> rw [h]
  cases b <;> rfl

theorem cutByHold_touches (z : ZoneId) (s : State) : Touches [.seq, .chk, .checked, .routine] s (cutByHold z s) :=
  (countVoid_touches z _ (fun _ => rfl) s).comp ((passVoidNotice_touches z _).comp (closePass_touches z _)
    (n := [.routine, .checked, .chk]))

theorem cutByHold_state (z : ZoneId) (s : State) : ((cutByHold z s).zone z).seq.state = (s.zone z).seq.state := by
  unfold cutByHold
  rw [(closePass_touches z _).seq z, (passVoidNotice_touches z _).seq z, modSeq_seq, if_pos rfl]
  rfl

theorem zoneHold_touches (z : ZoneId) (s : State) : Touches [.seq, .chk, .checked, .routine] s (zoneHold z s) := by
  have hcut : (s.zone z).seq.state ≠ .idle → Touches [.seq, .chk, .checked, .routine] s (enterHeld z (cutByHold z s)) :=
    fun hne => (cutByHold_touches z s).comp (enterHeld_keeps (.inl (by rw [cutByHold_state]; exact hne)))
  have hheld : (s.zone z).seq.state ≠ .idle → Touches [.seq, .chk, .checked, .routine] s (enterHeld z s) :=
    fun hne => (enterHeld_keeps (.inl hne)).mono
  unfold zoneHold
  split
  case h_1 h | h_2 h => exact hcut (by rw [h]; simp)
  case h_3 h | h_4 h => exact hheld (by rw [h]; simp)
  all_goals exact Touches.refl _ s

theorem zoneResume_touches (z : ZoneId) (s : State) : Touches passWork s (zoneResume z s) := by
  unfold zoneResume
  split
  · rename_i h
    have hz : MayMove z s := .inl (by rw [h]; simp)
    split
    · exact enterPriming_keeps hz
    · exact (enterStatic_keeps hz).mono
  · exact Touches.refl _ s

/-! ## The end of a zone's part -/

/-- What the end of a zone's part touches. -/
abbrev zoneEnd : List Piece := [.seq, .port, .chk, .checked]

theorem zoneDone_touches (z : ZoneId) (s : State) : Touches (zoneEnd ++ seqLaws) s (zoneDone z s) :=
  (modSeq_touches z _ s).comp ((closePass_touches z _).comp ((withdrawFetch_plain z _).comp (arbitrate_touches _)
    (n := closed [.seq, .port])) (n := zoneEnd ++ seqLaws))

theorem zoneDone_keeps {z : ZoneId} {s : State} (hz : MayMove z s) : Touches zoneEnd s (zoneDone z s) :=
  withdrawn_keeps (zoneDone_touches z s) (closePass_touches z _).mono id
    (fun h hs => absurd ((mayMove_started hz h).symm.trans hs) (by decide)) rfl

theorem zoneTold_touches (z : ZoneId) (s : State) : Touches zoneEnd s (zoneTold z s) := by
  unfold zoneTold
  split
  · rename_i h
    simp only [Bool.and_eq_true] at h
    exact zoneDone_keeps (.inr h.1.1)
  · exact Touches.refl _ s

theorem zoneToIdle_plain (z : ZoneId) (s : State) : Touches (zoneEnd ++ seqLaws) s (zoneToIdle z s) :=
  (modSeq_touches z _ s).comp ((closePass_touches z _).comp (withdrawFetch_plain z _) (n := zoneEnd ++ seqLaws))

/-- A zone's sequencer record at the end of the run. -/
def idled (q : Seq) : Seq :=
  { q.emptied with state := .idle, gapTimer := none, staged := none, drive := 0, fetch := none }

theorem zoneToIdle_seq (z y : ZoneId) (s : State) : ((zoneToIdle z s).zone y).seq =
    if y = z then idled (s.zone z).seq else (s.zone y).seq := by
  unfold zoneToIdle
  rw [withdrawFetch_seq, (closePass_touches z _).seq z, (closePass_touches z _).seq y]
  split
  · rw [modSeq_seq, if_pos rfl]; rfl
  · rename_i hy; rw [modSeq_seq, if_neg hy]

theorem zoneToIdle_held {z : ZoneId} {s : State} (hs : PortHeld s) : PortHeld (zoneToIdle z s) :=
  withdrawn_held (u := closePass z _) (closePass_touches z _).mono id hs

theorem zoneToIdle_seqs (z : ZoneId) (s : State) : Law.seqs.Kept s (zoneToIdle z s) :=
  withdrawn_seqs (u := closePass z _) (closePass_touches z _).mono rfl

/-- Every zone goes to IDLE at the end of the run. -/
theorem zonesToIdle_seq (s : State) (z : ZoneId) :
    ((forEach allZones zoneToIdle s).zone z).seq = idled (s.zone z).seq := by
  rw [forEach_at (g := fun t z => (t.zone z).seq) (h := fun _ => idled) (fun y t z => zoneToIdle_seq y z t) _
    allZones_nodup, if_pos (mem_allZones z)]

theorem zonesToIdle_touches (s : State) : Touches (zoneEnd ++ [.law .places, .law .port]) s
    (arbitrate (forEach allZones zoneToIdle s)) := by
  have h1 : Touches (zoneEnd ++ [.law .places, .law .port]) s (forEach allZones zoneToIdle s) :=
    forEach_touches (fun z _ t => (zoneToIdle_plain z t).keep (zoneToIdle_seqs z t)) s
  exact h1.comp (arbitrate_touches _)

/-- At the end of the run every zone is in its place, whatever the run state. -/
theorem zonesToIdle_places (s : State) : PlacesStand (arbitrate (forEach allZones zoneToIdle s)) := by
  intro z
  rw [(arbitrate_touches _).seq z, zonesToIdle_seq]
  exact ⟨fun _ => rfl, fun _ => rfl⟩

theorem zonesToIdle_port {s : State} (hs : PortHeld s) : PortInv (arbitrate (forEach allZones zoneToIdle s)) := by
  refine arbitrate_port ?_ fun z => ?_
  · exact forEach_keeps (P := PortHeld) (fun z _ t ht => zoneToIdle_held ht) s hs
  · rw [zonesToIdle_seq]
    exact ⟨fun _ => rfl, fun _ => rfl⟩

/-! ## Halts and fetch completions -/

theorem zoneHalt_touches (z : ZoneId) (pg : PageId) (idx : Nat) (s : State) :
    Touches ([.seq, .chk, .checked, .urgent] ++ seqLaws) s (zoneHalt z pg idx s) := by
  simp only [zoneHalt]
  split
  · exact (modSeq_touches z _ s).comp ((closePass_touches z _).comp (sendUrgent_touches _ _ _)
      (n := [.checked, .chk, .urgent]))
  · exact (modSeq_touches z _ s).comp (sendUrgent_touches _ _ _)

/-- The sequencer record of a halted zone. -/
def haltedSeq (cut : Bool) (pg : PageId) (idx : Nat) (w : BitVec 16) (q : Seq) : Seq :=
  { (if cut then q.countVoid else q).emptied with
    state := .halted, gapTimer := none, halt := some (pg, idx), fetch := none, drive := w }

theorem zoneHalt_eq (z : ZoneId) (pg : PageId) (idx : Nat) (s : State) :
    let cut := (s.zone z).seq.state.inPass
    let u := modSeq z (haltedSeq cut pg idx (s.idleWord z)) s
    let v := if cut = true then closePass z u else u
    zoneHalt z pg idx s = sendUrgent (.zone z) (.zoneHalt pg idx (s.zone z).seq.passNo cut) v := rfl

theorem zoneHalt_after (z : ZoneId) (pg : PageId) (idx : Nat) (s : State) : Touches [.chk, .checked, .urgent]
    (modSeq z (haltedSeq (s.zone z).seq.state.inPass pg idx (s.idleWord z)) s) (zoneHalt z pg idx s) := by
  rw [zoneHalt_eq]
  exact (ite_touches (closePass_touches z _).mono (Touches.refl _ _)).trans (sendUrgent_touches _ _ _).mono

theorem zoneHalt_places {z : ZoneId} {s : State} (pg : PageId) (idx : Nat) (hz : MayMove z s) :
    Law.places.Kept s (zoneHalt z pg idx s) :=
  (modSeq_places fun h => placeFits_of_started (mayMove_started hz h) (by simp [haltedSeq])).trans
    ((zoneHalt_after z pg idx s).law .places)

theorem zoneHalt_seqs (z : ZoneId) (pg : PageId) (idx : Nat) (s : State) : Law.seqs.Kept s (zoneHalt z pg idx s) :=
  (modSeq_seqs fun _ => seqFits_of_empty rfl (fun b => by cases b <;> rfl) fun f hf => absurd hf (by simp [haltedSeq])).trans
    ((zoneHalt_after z pg idx s).law .seqs)

/-- The sequencer record of a zone that plays on after a page change. -/
def changedPage (b : BufId) (now : Nat) (q : Seq) : Seq :=
  applyVec b 0 0 now { q with state := .playing, ordinal := q.ordinal + 1, period := (q.period + 1) % 16 }

theorem changePage_touches (z : ZoneId) (b : BufId) (s : State) : Touches (seqPort ++ seqLaws) s (changePage z b s) :=
  (modSeq_touches z _ s).comp (chooseNext_touches z _)

theorem changePage_keeps {z : ZoneId} {b : BufId} {s : State} (hz : MayMove z s)
    (hb : isFull ((s.zone z).seq.buf b) = true) : Touches seqPort s (changePage z b s) := by
  refine Touches.comp (l := [.seq]) (modSeq_keeps rfl (fun h => ?_) fun h => ?_) (chooseNext_touches z _)
  · exact placeFits_of_started (mayMove_started hz h) (by simp [applyVec])
  · exact seqFits_playing (fun f hf => (h.2 f hf).2) hb rfl rfl fun c => by cases c <;> rfl

/-- The sequencer record after a fetch ended. -/
abbrev noFetch (q : Seq) : Seq := { q with fetch := none }

/-- A fetch that ended GOOD and is wanted: its page is in its buffer. -/
def filled (z : ZoneId) (f : Fetch) (vs : List Vec) (s : State) : State :=
  modSeq z (fun q => q.setBuf f.target (.full f.tag vs)) (modSeq z noFetch s)

/-- A fetch that ended GOOD and is not wanted: its buffer is empty. -/
def dropped (z : ZoneId) (f : Fetch) (s : State) : State :=
  modSeq z (fun q => if q.buf f.target = .filling f.tag then q.setBuf f.target .empty else q) (modSeq z noFetch s)

theorem fetchGood_eq (z : ZoneId) (f : Fetch) (vs : List Vec) (s : State) : fetchGood z f vs s =
    if s.wanted z = some f.tag then
      match ((filled z f vs s).zone z).seq.state with
      | .stalled => changePage z f.target (filled z f vs s)
      | .priming => passStart z f.target (filled z f vs s)
      | _ => filled z f vs s
    else fetchWanted z (dropped z f s) := rfl

theorem filled_seq (z : ZoneId) (f : Fetch) (vs : List Vec) (s : State) :
    ((filled z f vs s).zone z).seq = (noFetch (s.zone z).seq).setBuf f.target (.full f.tag vs) := by
  unfold filled
  rw [modSeq_seq, if_pos rfl, modSeq_seq, if_pos rfl]

theorem filled_buf (z : ZoneId) (f : Fetch) (vs : List Vec) (s : State) :
    isFull (((filled z f vs s).zone z).seq.buf f.target) = true := by
  rw [filled_seq, buf_setBuf, if_pos rfl]
  rfl

theorem noFetch_places (z : ZoneId) (s : State) : Law.places.Kept s (modSeq z noFetch s) :=
  modSeq_places fun h => ⟨fun _ => rfl, h.2⟩

theorem noFetch_seqs (z : ZoneId) (s : State) : Law.seqs.Kept s (modSeq z noFetch s) :=
  modSeq_seqs fun h => ⟨h.1, fun f hf => absurd hf (by simp)⟩

theorem setBuf_places (z : ZoneId) (b : BufId) (x : Buffer) (s : State) :
    Law.places.Kept s (modSeq z (fun q => q.setBuf b x) s) :=
  modSeq_places fun h => by
    obtain ⟨hst, hf, -⟩ := setBuf_frame (s.zone z).seq b x
    unfold PlaceFits
    rw [hst, hf]
    exact h

theorem filled_places (z : ZoneId) (f : Fetch) (vs : List Vec) (s : State) : Law.places.Kept s (filled z f vs s) :=
  (noFetch_places z s).trans (setBuf_places z _ _ _)

theorem filled_seqs {z : ZoneId} {f : Fetch} {s : State} (vs : List Vec) (hf : (s.zone z).seq.fetch = some f) :
    Law.seqs.Kept s (filled z f vs s) := by
  intro hs
  obtain ⟨htarget, -⟩ := (hs z).2 f hf
  refine modSeq_seqs (fun h => ?_) (noFetch_seqs z s hs)
  rw [modSeq_seq, if_pos rfl] at h ⊢
  obtain ⟨hst, hfe, hp⟩ := setBuf_frame (noFetch (s.zone z).seq) f.target (.full f.tag vs)
  refine ⟨fun hpass => ?_, fun g hg => ?_⟩
  · rw [hst] at hpass
    rw [hp, buf_setBuf, if_neg (by rw [htarget]; exact (other_ne _).symm)]
    exact h.1 hpass
  · rw [hfe] at hg; cases hg

theorem dropped_places (z : ZoneId) (f : Fetch) (s : State) : Law.places.Kept s (dropped z f s) := by
  refine (noFetch_places z s).trans (modSeq_places fun h => ?_)
  split
  · obtain ⟨hst, hf, -⟩ := setBuf_frame ((modSeq z noFetch s).zone z).seq f.target .empty
    unfold PlaceFits
    rw [hst, hf]
    exact h
  · exact h

theorem dropped_seqs {z : ZoneId} {f : Fetch} {s : State} (hf : (s.zone z).seq.fetch = some f) :
    Law.seqs.Kept s (dropped z f s) := by
  intro hs
  obtain ⟨htarget, -⟩ := (hs z).2 f hf
  refine modSeq_seqs (fun h => ?_) (noFetch_seqs z s hs)
  rw [modSeq_seq, if_pos rfl] at h ⊢
  split
  · rw [htarget]; exact seqFits_setBuf rfl h
  · exact h

theorem filled_touches (z : ZoneId) (f : Fetch) (vs : List Vec) (s : State) : Touches (.seq :: seqLaws) s (filled z f vs s) :=
  ((modSeq_touches z noFetch s).trans (modSeq_touches z _ _)).mono

theorem dropped_touches (z : ZoneId) (f : Fetch) (s : State) : Touches (.seq :: seqLaws) s (dropped z f s) :=
  ((modSeq_touches z noFetch s).trans (modSeq_touches z _ _)).mono

/-- The filled buffer of a STALLED zone plays at once, and that of a PRIMING one starts the pass. -/
theorem filled_after (z : ZoneId) (f : Fetch) (vs : List Vec) (s : State) : Touches passWork (filled z f vs s)
    (match ((filled z f vs s).zone z).seq.state with
      | .stalled => changePage z f.target (filled z f vs s)
      | .priming => passStart z f.target (filled z f vs s)
      | _ => filled z f vs s) := by
  split
  · rename_i h
    exact (changePage_keeps (.inl (by rw [h]; simp)) (filled_buf z f vs s)).mono
  · rename_i h
    exact passStart_keeps (.inl (by rw [h]; simp)) (filled_buf z f vs s)
  · exact Touches.refl _ _

theorem fetchGood_touches (z : ZoneId) (f : Fetch) (vs : List Vec) (s : State) :
    Touches (passWork ++ seqLaws) s (fetchGood z f vs s) := by
  rw [fetchGood_eq]
  exact ite_touches ((filled_touches z f vs s).comp (filled_after z f vs s))
    ((dropped_touches z f s).comp (fetchWanted_touches z _))

theorem fetchGood_places (z : ZoneId) (f : Fetch) (vs : List Vec) (s : State) : Law.places.Kept s (fetchGood z f vs s) := by
  rw [fetchGood_eq]
  split
  · exact (filled_places z f vs s).trans ((filled_after z f vs s).law .places)
  · exact (dropped_places z f s).trans ((fetchWanted_touches z _).law .places)

theorem fetchGood_seqs {z : ZoneId} {f : Fetch} {s : State} (vs : List Vec) (hf : (s.zone z).seq.fetch = some f) :
    Law.seqs.Kept s (fetchGood z f vs s) := by
  rw [fetchGood_eq]
  split
  · exact (filled_seqs vs hf).trans ((filled_after z f vs s).law .seqs)
  · exact (dropped_seqs hf).trans ((fetchWanted_touches z _).law .seqs)

/-- A burst read goes on, ends GOOD, or ends PARITY. -/
theorem burstRead_cases (z : ZoneId) (f : Fetch) (w : List (Nat × Slot)) (s : State) :
    (∃ idx, burstRead z f w s = zoneHalt z f.tag.page idx s) ∨ (∃ vs, burstRead z f w s = fetchGood z f vs s) ∨
      ∃ d, burstRead z f w s = modSeq z (fun q => { q with fetch := some { f with burst := f.burst + 1, data := d } }) s := by
  simp only [burstRead]
  split
  · exact .inl ⟨_, rfl⟩
  · split
    · exact .inr (.inl ⟨_, rfl⟩)
    · exact .inr (.inr ⟨_, rfl⟩)

theorem burstRead_touches (z : ZoneId) (f : Fetch) (w : List (Nat × Slot)) (s : State) :
    Touches (.urgent :: passWork ++ seqLaws) s (burstRead z f w s) := by
  obtain ⟨idx, h⟩ | ⟨vs, h⟩ | ⟨d, h⟩ := burstRead_cases z f w s <;> rw [h]
  · exact (zoneHalt_touches z _ _ s).mono
  · exact (fetchGood_touches z f _ s).mono
  · exact (modSeq_touches z _ s).mono

theorem burstRead_places {z : ZoneId} {f : Fetch} {s : State} (w : List (Nat × Slot)) (hf : (s.zone z).seq.fetch = some f) :
    Law.places.Kept s (burstRead z f w s) := by
  intro hs
  have hidle : (s.zone z).seq.state ≠ .idle ∧ (s.zone z).seq.state ≠ .static ∧ (s.zone z).seq.state ≠ .done := by
    have h := fun h => Option.some_ne_none f (hf.symm.trans ((hs z).1 h))
    exact ⟨fun hi => h (.inl hi), fun hi => h (.inr (.inl hi)), fun hi => h (.inr (.inr hi))⟩
  obtain ⟨idx, h⟩ | ⟨vs, h⟩ | ⟨d, h⟩ := burstRead_cases z f w s <;> rw [h]
  · exact zoneHalt_places _ _ (.inl hidle.1) hs
  · exact fetchGood_places z f vs s hs
  · exact modSeq_places (fun h => ⟨fun hi => by rcases hi with hi | hi | hi <;> simp_all, h.2⟩) hs

theorem burstRead_seqs {z : ZoneId} {f : Fetch} {s : State} (w : List (Nat × Slot)) (hf : (s.zone z).seq.fetch = some f) :
    Law.seqs.Kept s (burstRead z f w s) := by
  obtain ⟨idx, h⟩ | ⟨vs, h⟩ | ⟨d, h⟩ := burstRead_cases z f w s <;> rw [h]
  · exact zoneHalt_seqs z _ _ s
  · exact fetchGood_seqs vs hf
  · refine modSeq_seqs fun h => ⟨h.1, fun g hg => ?_⟩
    obtain rfl := Option.some.inj hg
    exact h.2 f hf

/-- The end of a burst, with the grant that follows it. -/
theorem burstDone_touches {z : ZoneId} {f : Fetch} {s : State} (w : List (Nat × Slot))
    (hf : (s.zone z).seq.fetch = some f) : Touches (.urgent :: passWork) s (releasePort (burstRead z f w s)) := by
  have h := (burstRead_touches z f w s).comp (releasePort_touches _) (n := .urgent :: passWork ++ seqLaws)
  have h := h.keep (l := .urgent :: passWork ++ [.law .port, .law .seqs]) (x := .places)
    ((burstRead_places w hf).trans ((releasePort_touches _).law .places))
  have h := h.keep (l := .urgent :: passWork ++ [.law .port]) (x := .seqs)
    ((burstRead_seqs w hf).trans ((releasePort_touches _).law .seqs))
  exact h.keep (x := .port) fun hs => releasePort_port (burstRead_places w hf ((portInv_iff s).mp hs).2.2)

/-! ## The next place of a zone -/

theorem enterGap_touches (z : ZoneId) (n : Nat) (s : State) : Touches (seqPort ++ seqLaws) s (enterGap z n s) :=
  (modSeq_touches z _ s).comp (fetchWanted_touches z _)

theorem placeZone_plain (z : ZoneId) (s : State) : Touches (passWork ++ seqLaws) s (placeZone z s) := by
  simp only [placeZone]
  split
  · exact (enterStatic_touches z s).mono
  · split
    · exact (modSeq_touches z _ s).comp (enterGap_touches z _ _)
    · exact (modSeq_touches z _ s).comp (enterPriming_touches z _)

/-- The end of a pass leaves a fetch under way into a buffer that is not full. -/
theorem keepFirst_fetch {t : Option PageTag} {q : Seq} (h : ∀ f, q.fetch = some f → f.target = q.play.buf.other ∧
    isFull (q.buf f.target) = false) : ∀ f, (q.keepFirst t).fetch = some f →
      f.target = (q.keepFirst t).play.buf.other ∧ isFull ((q.keepFirst t).buf f.target) = false := by
  have hframe := Seq.keepFirst_frame t q
  have hfe : (q.keepFirst t).fetch = q.fetch := by rw [hframe]
  have hp : (q.keepFirst t).play = q.play := by rw [hframe]
  rw [hfe, hp]
  intro f hf
  refine ⟨(h f hf).1, ?_⟩
  by_cases he : (q.keepFirst t).buf f.target = .empty
  · rw [he]; rfl
  · rw [(Seq.keepFirst_kept t q f.target he).1]; exact (h f hf).2

/-- The state in which the buffers have been kept or emptied at the end of a pass. -/
abbrev keptFirst (z : ZoneId) (s : State) : State := modSeq z (Seq.keepFirst (s.firstTag z)) s

theorem keptFirst_seq (z : ZoneId) (s : State) : ((keptFirst z s).zone z).seq = (s.zone z).seq.keepFirst (s.firstTag z) := by
  rw [modSeq_seq, if_pos rfl]

theorem keptFirst_port (z : ZoneId) (s : State) : Law.port.Kept s (keptFirst z s) ∧ Law.places.Kept s (keptFirst z s) := by
  have hframe := Seq.keepFirst_frame (s.firstTag z) (s.zone z).seq
  have hfe : ((s.zone z).seq.keepFirst (s.firstTag z)).fetch = (s.zone z).seq.fetch := by rw [hframe]
  have hst : ((s.zone z).seq.keepFirst (s.firstTag z)).state = (s.zone z).seq.state := by rw [hframe]
  have hp : PlaceFits s.started (s.zone z).seq → PlaceFits s.started ((s.zone z).seq.keepFirst (s.firstTag z)) := by
    unfold PlaceFits; rw [hfe, hst]; exact id
  exact ⟨modSeq_port (by rw [hfe]) hp, modSeq_places hp⟩

/-- A zone that leaves its pass for GAP or PRIMING fits again, whatever the end of the pass did to its buffers. -/
theorem leftPass_seqs {z : ZoneId} {s : State} {g : Seq → Seq} (hg : ∀ q : Seq, (g q).state.inPass = false ∧
    (g q).fetch = q.fetch ∧ (g q).play = q.play ∧ ∀ b, (g q).buf b = q.buf b) : Law.seqs.Kept s (modSeq z g (keptFirst z s)) := by
  intro hs y
  show SeqFits _
  rw [modSeq_seq]
  split
  · rw [keptFirst_seq]
    obtain ⟨hpass, hfe, hp, hb⟩ := hg ((s.zone z).seq.keepFirst (s.firstTag z))
    refine ⟨fun h => absurd (hpass.symm.trans h) (by decide), ?_⟩
    rw [hfe, hp]
    simp only [hb]
    exact keepFirst_fetch (hs z).2
  · rename_i hy
    rw [modSeq_seq, if_neg hy]
    exact hs y

theorem keptFirst_mayMove {z : ZoneId} {s : State} (hz : MayMove z s) : MayMove z (keptFirst z s) := by
  refine hz.imp (fun h => ?_) (fun h => h)
  rw [keptFirst_seq, Seq.keepFirst_frame]
  exact h

/-- The sequencer record of a zone that enters GAP. -/
abbrev toGap (e : Nat) (w : BitVec 16) (q : Seq) : Seq :=
  { q with state := .gap, gapTimer := some e, next := none, drive := w }

theorem keptFirst_touches (z : ZoneId) (s : State) : Touches [.seq, .law .seqs] s (keptFirst z s) :=
  ((modSeq_touches z _ s).keep (l := [.seq, .law .port, .law .seqs]) (keptFirst_port z s).2).keep (keptFirst_port z s).1

theorem toGap_touches {z : ZoneId} {s : State} (e : Nat) (w : BitVec 16) (hz : MayMove z s) :
    Touches [.seq] s (modSeq z (toGap e w) s) :=
  modSeq_keeps rfl (fun h => placeFits_of_started (mayMove_started hz h) (by simp))
    fun h => ⟨fun h => absurd h (by simp [SeqState.inPass]), h.2⟩

theorem keptGap_keeps {z : ZoneId} {s : State} (n : Nat) (hz : MayMove z s) :
    Touches seqPort s (enterGap z n (keptFirst z s)) :=
  ((keptFirst_touches z s).comp ((toGap_touches _ _ (keptFirst_mayMove hz)).comp (fetchWanted_touches z _) (n := seqPort))
    (n := seqPort ++ [.law .seqs])).keep (x := .seqs)
    ((leftPass_seqs (g := toGap _ _) fun q => ⟨rfl, rfl, rfl, fun b => by cases b <;> rfl⟩).trans
      ((fetchWanted_touches z _).law .seqs))

theorem keptPriming_keeps {z : ZoneId} {s : State} (hz : MayMove z s) :
    Touches passWork s (enterPriming z (keptFirst z s)) :=
  ((keptFirst_touches z s).comp (enterPriming_keeps (keptFirst_mayMove hz)) (n := passWork ++ [.law .seqs])).keep
    (x := .seqs) ((leftPass_seqs (g := toPriming _) fun q => ⟨rfl, rfl, rfl, fun b => by cases b <;> rfl⟩).trans
      ((primed_keeps z _ _).law .seqs))

theorem placeZone_keeps {z : ZoneId} {s : State} (hz : MayMove z s) : Touches passWork s (placeZone z s) := by
  unfold placeZone
  split
  · exact (enterStatic_keeps hz).mono
  · exact ite_touches (keptGap_keeps _ hz).mono (keptPriming_keeps hz)

theorem swapProgram_touches (z : ZoneId) (s : State) : Touches [.seq, .live] s (swapProgram z s) := by
  unfold swapProgram
  split
  · exact (modSeq_aside rfl rfl (fun b => by cases b <;> rfl) rfl).comp (hbZoneProgramChange_touches z _)
  · exact Touches.refl _ s

theorem swapProgram_state (z : ZoneId) (s : State) : ((swapProgram z s).zone z).seq.state = (s.zone z).seq.state := by
  unfold swapProgram
  split
  · rw [(hbZoneProgramChange_touches z _).seq z, modSeq_seq, if_pos rfl]
  · rfl

theorem voidEnd_touches (z : ZoneId) (s : State) : Touches [.seq, .chk, .checked, .routine] s (voidEnd z s) :=
  (closePass_touches z s).comp ((countVoid_touches z _ (fun _ => rfl) _).comp (passVoidNotice_touches z _)
    (n := [.seq, .routine]))

/-! ## The end of a vector period -/

theorem stepVec_touches (z : ZoneId) (idx loop : Nat) (s : State) : Touches [.seq] s (stepVec z idx loop s) :=
  modSeq_aside rfl rfl (fun b => by cases b <;> rfl) rfl

theorem enterStalled_touches {z : ZoneId} {s : State} (h : (s.zone z).seq.state = .playing) :
    Touches [.seq] s (enterStalled z s) :=
  modSeq_keeps rfl (fun hp => placeFits_of_started (mayMove_started (.inl (by rw [h]; simp)) hp) (by simp))
    fun hq => ⟨fun _ => hq.1 (by rw [h]; rfl), hq.2⟩

theorem pageChange_touches {z : ZoneId} {s : State} (h : (s.zone z).seq.state = .playing) :
    Touches seqPort s (pageChange z s) := by
  simp only [pageChange]
  split
  · split
    · rename_i hb
      exact changePage_keeps (.inl (by rw [h]; simp)) (isFull_of_holds hb)
    · exact (enterStalled_touches h).mono
  · exact (enterStalled_touches h).mono

end Sys2Proof.Proofs.Frames

/-! What the heater loops' entries to their states, the end of a run, the accounts and the verdicts touch, and the laws that
they keep. -/

namespace Sys2Proof.Proofs.Frames

open Sys2Proof.Machine Sys2Proof.Safety

/-! ## A heater loop -/

section
variable {i : SocketId} {f : Thermal → Thermal} {s : State}

theorem modTherm_therm (i : SocketId) (f : Thermal → Thermal) (s : State) (j : SocketId) :
    ((modTherm i f s).sock j).therm = if j = i then f (s.sock i).therm else (s.sock j).therm := by
  rw [modTherm_sock]; split <;> simp_all

theorem modTherm_heat (h : ((f (s.sock i).therm).state.control = false → (s.sock i).therm.state.control = false ∧
      (f (s.sock i).therm).duty = (s.sock i).therm.duty ∧ (f (s.sock i).therm).grant = (s.sock i).therm.grant) ∨
      (f (s.sock i).therm).duty = 0 ∧ (f (s.sock i).therm).grant = 0) : Law.heat.Kept s (modTherm i f s) := by
  intro hs j
  rw [modTherm_therm]
  split
  · intro hc
    rcases h with h | h
    · obtain ⟨h1, h2, h3⟩ := h hc
      rw [h2, h3]
      exact hs i h1
    · exact h
  · exact hs j

/-- A sum over sockets falls where every term does. -/
theorem sum_map_le {l : List SocketId} {g h : SocketId → Nat} (hle : ∀ j ∈ l, g j ≤ h j) : (l.map g).sum ≤ (l.map h).sum :=
  List.sum_le_sum hle

theorem modTherm_share (h : (f (s.sock i).therm).grant ≤ (s.sock i).therm.grant) :
    Law.share.Kept s (modTherm i f s) := by
  intro hs z
  refine le_trans (sum_map_le fun j _ => ?_) (hs z)
  rw [modTherm_therm]
  split
  · rename_i hj; subst hj; exact h
  · exact le_rfl

theorem modTherm_final (h : (s.sock i).therm.state = .off → (f (s.sock i).therm).state = .off) :
    Law.final.Kept s (modTherm i f s) := by
  refine fun j => ⟨fun ⟨h1, h2⟩ => ⟨?_, ?_⟩, fun h => .inl (((modTherm_touches i f s).life j) ▸ h)⟩
  · rw [(modTherm_touches i f s).inhibit j]; exact h1
  · rw [modTherm_therm]
    split
    · rename_i hj; subst hj; exact h h2
    · exact h2

theorem modTherm_hold (h : (f (s.sock i).therm).state.control = true → (s.sock i).therm.state.control = true ∨
    s.permitHold = false) : Law.hold.Kept s (modTherm i f s) := by
  intro hs hp
  obtain ⟨hstate, hall⟩ := hs hp
  refine ⟨hstate, fun j hj => ?_⟩
  have ht := modTherm_touches i f s
  rw [ht.life j] at hj
  obtain ⟨h1, h2⟩ := hall j hj
  rw [ht.inhibit j, modTherm_therm]
  refine ⟨h1, ?_⟩
  split
  · rename_i hji
    subst hji
    by_contra hc
    rcases h (by simpa using hc) with hcon | hperm
    · exact absurd (hcon.symm.trans h2) (by decide)
    · exact absurd hperm (by simp [State.permitHold, hstate, show s.run.holds.permit = true from hp])
  · exact h2

theorem hot_congr {s t : State} {i : SocketId} (hp : ∀ z, (t.zone z).thermProf = (s.zone z).thermProf)
    (hr : (t.sock i).therm.reading = (s.sock i).therm.reading) : t.hot i = s.hot i := by
  unfold State.hot
  rw [hp, hr]

/-- What a thermal state needs of the causes, and what a hot reading allows (R65). -/
def TripFits (run must hot : Prop) (x : Inhibit) (st : ThermalState) : Prop :=
  ((st = .tripped → x.thermal = true) ∧ (st = .sensorFault → x.sensor = true) ∧
    (st = .off → x.run = true ∨ x.final = true) ∧ (run ∨ must → x.run = true ∧ st = .off)) ∧
  (hot → st.control = false ∧ st ≠ .held)

theorem tripsStand_iff (s : State) : TripsStand s ↔ ∀ i, TripFits (s.started = false) (s.declared i = false)
    (s.hot i = true) (s.sock i).rail.inhibit (s.sock i).therm.state := Iff.rfl

/-- A change of a heater loop that leaves its reading keeps the causes where its new state has them. -/
theorem modTherm_trip (hread : (f (s.sock i).therm).reading = (s.sock i).therm.reading)
    (h : TripFits (s.started = false) (s.declared i = false) (s.hot i = true) (s.sock i).rail.inhibit (s.sock i).therm.state →
      TripFits (s.started = false) (s.declared i = false) (s.hot i = true) (s.sock i).rail.inhibit
        (f (s.sock i).therm).state) : Law.trip.Kept s (modTherm i f s) := by
  intro hs j
  have ht := modTherm_touches i f s
  have hhot : (modTherm i f s).hot j = s.hot j := hot_congr (ht.thermProf) (by
    rw [modTherm_therm]
    split
    · rename_i hj; subst hj; exact hread
    · rfl)
  show TripFits _ _ _ _ _
  rw [hhot, ht.inhibit j, ht.started, ht.declared j, modTherm_therm]
  split
  · rename_i hj; subst hj; exact h (hs j)
  · exact hs j

/-- A change of a heater loop beside its state, its reading, its duty and its grant keeps every law. -/
theorem modTherm_aside (hst : (f (s.sock i).therm).state = (s.sock i).therm.state)
    (hread : (f (s.sock i).therm).reading = (s.sock i).therm.reading)
    (hduty : (f (s.sock i).therm).duty = (s.sock i).therm.duty)
    (hgrant : (f (s.sock i).therm).grant = (s.sock i).therm.grant) : Touches [.therm] s (modTherm i f s) := by
  have h := (modTherm_touches i f s).keep (l := [.therm, .law .share, .law .final, .law .hold, .law .trip])
    (modTherm_heat (.inl fun hc => ⟨hst ▸ hc, hduty, hgrant⟩))
  have h := h.keep (l := [.therm, .law .final, .law .hold, .law .trip]) (modTherm_share hgrant.le)
  have h := h.keep (l := [.therm, .law .hold, .law .trip]) (modTherm_final fun h => hst.trans h)
  have h := h.keep (l := [.therm, .law .trip]) (modTherm_hold fun h => .inl (hst ▸ h))
  exact h.keep (modTherm_trip hread fun h => hst.symm ▸ h)

/-- A heater loop that is cut and leaves control. -/
theorem modTherm_cut (hcut : (f (s.sock i).therm).duty = 0 ∧ (f (s.sock i).therm).grant = 0)
    (hst : (f (s.sock i).therm).state.control = false) : Touches [.therm, .law .final, .law .trip] s (modTherm i f s) := by
  have h := (modTherm_touches i f s).keep (l := [.therm, .law .share, .law .final, .law .hold, .law .trip])
    (modTherm_heat (.inr hcut))
  have h := h.keep (l := [.therm, .law .final, .law .hold, .law .trip]) (modTherm_share (by rw [hcut.2]; exact Nat.zero_le _))
  exact h.keep (modTherm_hold fun h => absurd (h.symm.trans hst) (by decide))

/-- A heater loop that comes under control. -/
theorem modTherm_control (hst : (f (s.sock i).therm).state.control = true)
    (hgrant : (f (s.sock i).therm).grant ≤ (s.sock i).therm.grant) :
    Touches [.therm, .law .final, .law .hold, .law .trip] s (modTherm i f s) :=
  ((modTherm_touches i f s).keep (l := [.therm, .law .share, .law .final, .law .hold, .law .trip])
    (modTherm_heat (.inl fun hc => absurd (hst.symm.trans hc) (by decide)))).keep (modTherm_share hgrant)

end

/-! ## The heater OFF (R54) -/

/-- A heater loop in OFF. -/
def heaterOff (t : Thermal) : Thermal := { t.cut with state := .off, integral := 0 }

/-- COLD and SENSOR out of a set. -/
def warm (x : Inhibit) : Inhibit := { x with cold := false, sensor := false }

theorem thermOff_eq (i : SocketId) (s : State) : thermOff i s = changeInhibit warm i (modTherm i heaterOff s) := rfl

theorem thermOff_therm (i j : SocketId) (s : State) : ((thermOff i s).sock j).therm =
    if j = i then heaterOff (s.sock i).therm else (s.sock j).therm := by
  rw [thermOff_eq, (changeInhibit_touches _ i _).therm j, modTherm_therm]

theorem thermOff_inhibit (i j : SocketId) (s : State) : ((thermOff i s).sock j).rail.inhibit =
    if j = i then warm (s.sock i).rail.inhibit else (s.sock j).rail.inhibit := by
  have ht := modTherm_touches i heaterOff s
  rw [thermOff_eq, changeInhibit_inhibit, ht.inhibit i, ht.inhibit j]

theorem thermOff_touches (i : SocketId) (s : State) : Touches (.therm :: railWork ++ [.law .trip]) s (thermOff i s) := by
  have h1 : Touches [.therm, .law .trip] s (modTherm i heaterOff s) :=
    (modTherm_cut (f := heaterOff) ⟨rfl, rfl⟩ rfl).keep (modTherm_final fun _ => rfl)
  have h2 : Touches (railWork ++ [.law .trip]) (modTherm i heaterOff s) (thermOff i s) :=
    changeInhibit_touches_of (f := warm) (fun _ h => h) (fun _ h => h) (fun _ h => h)
  exact h1.comp h2

/-- A heater may be cut where RUN or FINAL stands. -/
theorem thermOff_keeps {i : SocketId} {s : State}
    (h : (s.sock i).rail.inhibit.run = true ∨ (s.sock i).rail.inhibit.final = true) :
    Touches (.therm :: railWork) s (thermOff i s) := by
  refine (thermOff_touches i s).keep (x := .trip) fun hs j => ?_
  have ht := thermOff_touches i s
  have hhot : (thermOff i s).hot j = s.hot j := hot_congr (ht.thermProf) (by
    rw [thermOff_therm]
    split
    · rename_i hj; subst hj; rfl
    · rfl)
  show TripFits _ _ _ _ _
  rw [hhot, ht.started, ht.declared j, thermOff_therm, thermOff_inhibit]
  split
  · rename_i hj
    subst hj
    refine ⟨⟨fun h => ?_, fun h => ?_, fun _ => h, fun hm => ⟨?_, rfl⟩⟩, fun _ => ⟨rfl, ?_⟩⟩
    · cases h
    · cases h
    · exact ((hs j).1.2.2.2 hm).1
    · intro h; cases h
  · exact hs j

/-! ## The end of a run -/

/-- What the end of a run touches. -/
abbrev runEnd : List Piece :=
  [.bin, .railState, .inhibit, .timers, .queue, .power, .armed, .urgent, .routine, .live, .checked, .therm, .seq, .chk,
    .port, .runState]

theorem assignBins_touches (s : State) : Touches [.bin] s (assignBins s) :=
  forEach_touches (fun i _ t => (setBin_touches i (fun k => some k.binNow) t).mono) s

/-- The run controller as the run ends. -/
def runEnded (st : RunState) : State → State :=
  modRun fun r => { r with state := st, holds := ⟨false, false⟩, acctTimer := none }

theorem runEnded_plain (st : RunState) (s : State) : Touches (closed [.runState]) s (runEnded st s) :=
  board_touches rfl rfl fun p hp hlaw => by
    cases p with
    | runState => exact absurd hp (by decide)
    | law x => exact absurd rfl (hlaw x)
    | _ => simp [BoardSame, runEnded]

/-- The rails after the sets of the end of the run, the heaters off after that, and the zones in IDLE after that. -/
def railsEnded (st : RunState) (s : State) : State := changeInhibits allSockets (endInhibit (runEnded st s)) (runEnded st s)

def heatersEnded (st : RunState) (s : State) : State := forEach allSockets thermOff (railsEnded st s)

def zonesEnded (st : RunState) (s : State) : State := arbitrate (forEach allZones zoneToIdle (heatersEnded st s))

theorem endRun_eq (st : RunState) (s : State) : endRun st s =
    runStateNotice (st == .aborted) (assignBins (forEach allSockets hbToIdle (zonesEnded st s))) := rfl

theorem railsEnded_touches (st : RunState) (s : State) :
    Touches (railWork ++ inhibitLaws) (runEnded st s) (railsEnded st s) := changeInhibits_touches _ _ _

theorem heatersEnded_touches (st : RunState) (s : State) :
    Touches (.therm :: railWork ++ [.law .trip]) (railsEnded st s) (heatersEnded st s) :=
  forEach_touches (fun i _ t => thermOff_touches i t) _

theorem zonesEnded_touches (st : RunState) (s : State) :
    Touches (zoneEnd ++ [.law .places, .law .port]) (heatersEnded st s) (zonesEnded st s) := zonesToIdle_touches _

theorem endRun_after (st : RunState) (s : State) :
    Touches [.live, .bin, .urgent, .routine] (zonesEnded st s) (endRun st s) := by
  rw [endRun_eq]
  exact (forEach_touches (fun i _ t => hbToIdle_touches i t) _).comp ((assignBins_touches _).comp
    (runStateNotice_touches _ _) (n := [.bin, .urgent, .routine]))

/-- The laws that the steps of the end of a run may break on the way. -/
abbrev endLaws : List Piece :=
  [.law .runTable, .law .limit, .law .fresh, .law .demand, .law .final, .law .hold, .law .trip, .law .runs, .law .places,
    .law .port]

theorem endRun_plain (st : RunState) (s : State) : Touches (runEnd ++ endLaws) s (endRun st s) := by
  have h1 := (runEnded_plain st s).mono (m := runEnd ++ endLaws)
  have h2 := (railsEnded_touches st s).mono (m := runEnd ++ endLaws)
  have h3 := (heatersEnded_touches st s).mono (m := runEnd ++ endLaws)
  have h4 := (zonesEnded_touches st s).mono (m := runEnd ++ endLaws)
  have h5 := (endRun_after st s).mono (m := runEnd ++ endLaws)
  exact h1.trans (h2.trans (h3.trans (h4.trans h5)))

theorem endRun_run (st : RunState) (s : State) : (endRun st s).run.state = st ∧ (endRun st s).run.holds = ⟨false, false⟩ ∧
    (endRun st s).run.acctTimer = none := by
  have h2 := railsEnded_touches st s
  have h3 := heatersEnded_touches st s
  have h4 := zonesEnded_touches st s
  have h5 := endRun_after st s
  rw [h5.runState, h4.runState, h3.runState, h2.runState, h5.holds, h4.holds, h3.holds, h2.holds, h5.acctTimer,
    h4.acctTimer, h3.acctTimer, h2.acctTimer]
  exact ⟨rfl, rfl, rfl⟩

/-- Every heater is OFF at the end of the run. -/
theorem endRun_therm (st : RunState) (s : State) (i : SocketId) :
    ((endRun st s).sock i).therm = heaterOff (s.sock i).therm := by
  rw [(endRun_after st s).therm i, (zonesEnded_touches st s).therm i]
  unfold heatersEnded
  rw [forEach_at (g := fun t j => (t.sock j).therm) (h := fun _ => heaterOff) (fun i t j => thermOff_therm i j t) _
    allSockets_nodup, if_pos (mem_allSockets i), (railsEnded_touches st s).therm i]
  rfl

/-- The sets at the end of the run: RUN for every declared socket, and neither PERMIT, COLD nor SENSOR. -/
theorem endRun_inhibit (st : RunState) (s : State) (i : SocketId) :
    ((endRun st s).sock i).rail.inhibit = warm (endInhibit s i (s.sock i).rail.inhibit) := by
  rw [(endRun_after st s).inhibit i, (zonesEnded_touches st s).inhibit i]
  unfold heatersEnded
  rw [forEach_at (g := fun t j => (t.sock j).rail.inhibit) (h := fun _ => warm) (fun i t j => thermOff_inhibit i j t) _
    allSockets_nodup, if_pos (mem_allSockets i)]
  unfold railsEnded
  rw [changeInhibits_inhibit _ _ _ allSockets_nodup, if_pos (mem_allSockets i)]
  rfl

theorem endRun_declared (st : RunState) (s : State) (i : SocketId) : (endRun st s).declared i = s.declared i :=
  (endRun_plain st s).declared i

theorem endRun_hot (st : RunState) (s : State) (i : SocketId) : (endRun st s).hot i = s.hot i := by
  unfold State.hot
  rw [(endRun_plain st s).thermProf, endRun_therm]
  rfl

section
variable {st : RunState} {s : State}

theorem endRun_demands : Law.demand.Kept s (endRun st s) := by
  intro M X hs
  have h1 : Demands M X (runEnded st s) := hs
  have h2 : Demands M X (railsEnded st s) := changeInhibits_demands (fun i _ _ x hx => by simp [endInhibit, hx]) h1
  exact (endRun_after st s).law .demand rfl M X ((zonesEnded_touches st s).law .demand rfl M X
    ((heatersEnded_touches st s).law .demand rfl M X h2))

theorem endRun_final : Law.final.Kept s (endRun st s) := by
  refine fun i => ⟨fun ⟨h1, h2⟩ => ⟨?_, ?_⟩, fun h => .inl ((endRun_plain st s).life i ▸ h)⟩
  · rw [endRun_inhibit]; exact h1
  · rw [endRun_therm]; rfl

theorem endRun_hold : Law.hold.Kept s (endRun st s) := by
  intro _ hp
  rw [(endRun_run st s).2.1] at hp
  cases hp

/-- RUN or FINAL stands for every socket at the end of a run, and every heater is OFF. -/
theorem endRun_trip : Law.trip.Kept s (endRun st s) := by
  intro hs i
  have hrun : ((endRun st s).sock i).rail.inhibit.run = true := by
    rw [endRun_inhibit]
    simp only [warm, endInhibit, Bool.or_eq_true]
    by_cases hd : s.declared i = true
    · exact .inr hd
    · exact .inl ((hs i).1.2.2.2 (.inr (by simpa using hd))).1
  have hst : ((endRun st s).sock i).therm.state = .off := by rw [endRun_therm]; rfl
  exact ⟨⟨fun h => absurd (hst.symm.trans h) (by decide), fun h => absurd (hst.symm.trans h) (by decide),
    fun _ => .inl hrun, fun _ => ⟨hrun, hst⟩⟩, fun _ => hst.symm ▸ ⟨rfl, by decide⟩⟩

/-- RUN stands for every socket at the end of a run. -/
theorem endRun_runs : Law.runs.Kept s (endRun st s) := by
  intro hs i _
  rw [endRun_inhibit]
  simp only [warm, endInhibit, Bool.or_eq_true]
  by_cases hd : s.declared i = true
  · exact .inr hd
  · exact .inl (hs i (.inr (by simpa using hd)))

theorem endRun_places : Law.places.Kept s (endRun st s) :=
  fun _ => (endRun_after st s).law .places rfl (zonesToIdle_places _)

theorem endRun_port : Law.port.Kept s (endRun st s) := by
  intro hs
  have h1 : PortHeld (runEnded st s) := ((portInv_iff s).mp hs).2.1
  exact (endRun_after st s).law .port rfl (zonesToIdle_port (portHeld_of_touches (heatersEnded_touches st s)
    (portHeld_of_touches (railsEnded_touches st s) h1)))

/-- The run ends in a state that has a record and is past. -/
theorem endRun_past (hst : st = .finished ∨ st = .aborted) : Law.limit.Kept s (endRun st s) ∧
    Law.fresh.Kept s (endRun st s) := by
  have hne : ¬ ((endRun st s).run.state = .idle ∨ (endRun st s).run.state = .ready) := by
    rw [(endRun_run st s).1]; rcases hst with rfl | rfl <;> simp
  have ht := endRun_plain st s
  refine ⟨fun ⟨h1, h2, _⟩ => ⟨?_, ?_, fun h => absurd h hne⟩, fun _ h => absurd h hne⟩
  · unfold Law11; rw [ht.record]; simp only [ht.acct, ht.life]; exact h1
  · rw [ht.record]; exact h2

theorem endRun_runTable (hst : st = .finished ∨ st = .aborted) (hr : s.run.record.isSome = true) :
    RunTable (endRun st s) := by
  obtain ⟨h1, h2, h3⟩ := endRun_run st s
  unfold RunTable State.started
  rw [(endRun_plain st s).record, h1, h2, h3, hr]
  rcases hst with rfl | rfl <;> simp

end

theorem endRun_touches {st : RunState} {s : State} (hst : st = .finished ∨ st = .aborted) :
    Touches (runEnd ++ [.law .runTable]) s (endRun st s) := by
  obtain ⟨h1, h2⟩ := endRun_past (s := s) hst
  refine (endRun_plain st s).keeps [.limit, .fresh, .demand, .final, .hold, .trip, .runs, .places, .port] ?_
  simp only [List.forall_mem_cons, List.not_mem_nil, false_imp_iff, implies_true, and_true]
  exact ⟨h1, h2, endRun_demands, endRun_final, endRun_hold, endRun_trip, endRun_runs, endRun_places, endRun_port⟩

theorem finishTest_touches (s : State) : Touches runEnd s (finishTest s) := by
  unfold finishTest
  split
  · rename_i hdue
    refine (endRun_touches (.inl rfl)).keep (x := .runTable) fun hs => endRun_runTable (.inl rfl) ?_
    have hst : s.started = true := by
      simp only [State.finishDue, Bool.and_eq_true] at hdue
      exact hdue.1
    refine hs.1.mpr fun hi => ?_
    unfold State.started at hst
    rw [hi] at hst
    exact absurd hst (by decide)
  · exact Touches.refl _ s

end Sys2Proof.Proofs.Frames

/-! What retirement, the fail records, verdicts and the accounting expiry touch, and the laws that they keep. -/

namespace Sys2Proof.Proofs.Frames

open Sys2Proof.Machine Sys2Proof.Safety Sys2Proof.Proofs.Requests

/-! ## Final sockets -/

/-- What a socket that became final brings with it, the end of the run apart. -/
abbrev finalWork : List Piece :=
  [.railState, .inhibit, .timers, .queue, .power, .armed, .routine, .live, .checked, .therm, .seq, .chk, .port]

/-- FINAL is put into the set and the heater cut; what other blocks do comes after. -/
def finalCut (i : SocketId) (s : State) : State := thermOff i (addCause .final i s)

theorem finalCut_touches (i : SocketId) (s : State) : Touches (.therm :: railWork) s (finalCut i s) :=
  (addCause_touches .final i s).comp (thermOff_keeps (.inr (by rw [addCause_inhibit, if_pos rfl]; rfl)))

theorem finalEffects_after (i : SocketId) (s : State) :
    Touches (.live :: zoneEnd) (finalCut i s) (finalEffects i s) :=
  (hbToIdle_touches i _).comp ((dropPass_touches i _).comp (zoneTold_touches _ _) (n := zoneEnd))

theorem finalEffects_touches (i : SocketId) (s : State) : Touches finalWork s (finalEffects i s) :=
  (finalCut_touches i s).comp (finalEffects_after i s)

theorem finalEffects_marked (i : SocketId) (s : State) : Marked ((finalEffects i s).sock i) := by
  have h := finalEffects_after i s
  unfold Marked
  rw [h.inhibit i, h.therm i]
  unfold finalCut
  rw [thermOff_inhibit, if_pos rfl, thermOff_therm, if_pos rfl, addCause_inhibit, if_pos rfl]
  exact ⟨rfl, rfl⟩

/-- A change of a socket's record that makes it final, with what other blocks do for it. -/
theorem final_kept (i : SocketId) (f : Socket → Socket) (s : State) :
    Law.final.Kept s (finalEffects i (modSock i f s)) := by
  have hplain := finalEffects_touches i (modSock i f s)
  have hmark := hplain.law .final
  intro j
  by_cases hj : j = i
  · subst hj
    exact ⟨fun _ => finalEffects_marked j _, fun _ => .inr (finalEffects_marked j _)⟩
  · obtain ⟨h1, h2⟩ := hmark j
    rw [modSock_sock_ne hj] at h1 h2
    exact ⟨h1, h2⟩

/-! ## Retirement -/

/-- What a retirement touches: everything that the end of the run may, and the lifecycle and accounts. -/
abbrev retireWork : List Piece := .life :: .acct :: runEnd

/-- The socket record as the socket retires. -/
def retiredSock (d : Option Deciding) (k : Socket) : Socket :=
  { k with life := .retired, acct := { k.acct with deciding := d, byHost := d.isNone } }

section
variable (i : SocketId) (d : Option Deciding) (s : State)

theorem retiredSock_plain : Touches (closed [.life, .acct]) s (modSock i (retiredSock d) s) :=
  modSock_touches fun p hp => by
    cases p with
    | life | acct => exact absurd hp (by decide)
    | _ => simp [SockSame, retiredSock]

theorem retire_eq : retire i d s =
    finishTest (sendUrgent (.socket i) (.retired (d.map (·.kind))) (finalEffects i (modSock i (retiredSock d) s))) := rfl

theorem retiredSock_sock (j : SocketId) : (modSock i (retiredSock d) s).sock j =
    if j = i then retiredSock d (s.sock i) else s.sock j := modSock_sock i j _ s

theorem retiredSock_logs : Law.logs.Kept s (modSock i (retiredSock d) s) := by
  intro hs j
  rw [retiredSock_sock]
  split
  · exact hs i
  · exact hs j

/-- Law 11 but for one socket, with what carries it. -/
def LimitsBut (i : SocketId) (s : State) : Prop :=
  (∀ r, s.run.record = some r → ∀ j ≠ i, r.retireLimit ≤ (s.sock j).acct.counted → (s.sock j).life = .retired) ∧
  (∀ r, s.run.record = some r → 1 ≤ r.retireLimit) ∧
  (s.run.state = .idle ∨ s.run.state = .ready → ∀ j : SocketId, (s.sock j).acct.counted = 0)

/-- A retirement makes law 11 good. -/
theorem retiredSock_limits {i : SocketId} {s : State} (hs : LimitsBut i s) : LimitInv (modSock i (retiredSock d) s) := by
  obtain ⟨h1, h2, h3⟩ := hs
  refine ⟨fun r hr j hj => ?_, h2, fun h j => ?_⟩
  · rw [retiredSock_sock] at hj ⊢
    split
    · rfl
    · rename_i hne; rw [if_neg hne] at hj; exact h1 r hr j hne hj
  · rw [retiredSock_sock]
    split
    · exact h3 h i
    · exact h3 h j

theorem LimitInv.but {i : SocketId} {s : State} (hs : LimitInv s) : LimitsBut i s :=
  ⟨fun r hr j _ => hs.1 r hr j, hs.2.1, hs.2.2⟩

theorem retiredSock_hold : Law.hold.Kept s (modSock i (retiredSock d) s) := by
  intro hs hp
  refine ⟨(hs hp).1, fun j hj => ?_⟩
  rw [retiredSock_sock] at hj ⊢
  split at hj
  · exact absurd hj (by simp [retiredSock])
  · rename_i hne; rw [if_neg hne]; exact (hs hp).2 j hj

theorem retire_after : Touches (.urgent :: runEnd) (finalEffects i (modSock i (retiredSock d) s)) (retire i d s) := by
  rw [retire_eq]
  exact (sendUrgent_touches _ _ _).comp (finishTest_touches _)

theorem retire_touches : Touches (retireWork ++ [.law .limit, .law .accounts, .law .fresh]) s (retire i d s) := by
  have h := (retiredSock_plain i d s).keep (l := [.life, .acct, .law .limit, .law .final, .law .accounts, .law .fresh,
    .law .hold]) (retiredSock_logs i d s)
  have h := h.keep (l := [.life, .acct, .law .limit, .law .final, .law .accounts, .law .fresh]) (retiredSock_hold i d s)
  have h2 := (finalEffects_touches i (modSock i (retiredSock d) s)).comp (retire_after i d s) (n := runEnd)
  have h3 : Touches (retireWork ++ [.law .limit, .law .final, .law .accounts, .law .fresh]) s (retire i d s) := h.comp h2
  exact h3.keep ((final_kept i (retiredSock d) s).trans ((retire_after i d s).law .final))

variable {i d s}

theorem retire_limits (hs : LimitsBut i s) : LimitInv (retire i d s) :=
  (retire_after i d s).law .limit rfl ((finalEffects_touches i _).law .limit rfl (retiredSock_limits d hs))

theorem retire_lives (j : SocketId) (hj : j ≠ i) : ((retire i d s).sock j).life = (s.sock j).life ∧
    ((retire i d s).sock j).acct = (s.sock j).acct := by
  have h1 := finalEffects_touches i (modSock i (retiredSock d) s)
  have h2 := retire_after i d s
  rw [h2.life j, h2.acct j, h1.life j, h1.acct j, modSock_sock_ne hj]
  exact ⟨rfl, rfl⟩

theorem retire_self : ((retire i d s).sock i).life = .retired ∧
    ((retire i d s).sock i).acct = { (s.sock i).acct with deciding := d, byHost := d.isNone } := by
  have h1 := finalEffects_touches i (modSock i (retiredSock d) s)
  have h2 := retire_after i d s
  rw [h2.life i, h2.acct i, h1.life i, h1.acct i, modSock_sock_self]
  exact ⟨rfl, rfl⟩

/-- A change of one socket's accounts alone that was not final leaves the final sockets' accounts. -/
theorem accounts_kept {u : State} (hlife : (s.sock i).life.final = false)
    (h : ∀ j ≠ i, (u.sock j).life = (s.sock j).life ∧ (u.sock j).acct = (s.sock j).acct) : Law.accounts.Kept s u := by
  intro j hj
  by_cases hji : j = i
  · subst hji; rw [hlife] at hj; cases hj
  · exact h j hji

theorem started_past {s t : State} (hst : s.started = true) (h : t.run.state = s.run.state ∨ t.run.state = .finished) :
    ¬ (t.run.state = .idle ∨ t.run.state = .ready) := by
  obtain h | h := h
  · rw [h]
    rcases (started_iff s).mp hst with h | h <;> rw [h] <;> simp
  · rw [h]; simp

theorem finishTest_state (s : State) : (finishTest s).run.state = s.run.state ∨ (finishTest s).run.state = .finished := by
  unfold finishTest
  split
  · exact .inr (endRun_run _ s).1
  · exact .inl rfl

theorem retire_state : (retire i d s).run.state = s.run.state ∨ (retire i d s).run.state = .finished := by
  rw [retire_eq]
  refine (finishTest_state _).imp (fun h => h.trans ?_) id
  rw [(sendUrgent_touches _ _ _).runState, (finalEffects_touches i _).runState]
  rfl

/-- A STRESSING socket of a started run retires: every law is kept. -/
theorem retire_keeps (hst : s.started = true) (hlife : (s.sock i).life = .stressing) :
    Touches retireWork s (retire i d s) := by
  have h := (retire_touches i d s).keep (l := retireWork ++ [.law .accounts, .law .fresh]) (x := .limit)
    (fun hs => retire_limits (LimitInv.but hs))
  have h := h.keep (l := retireWork ++ [.law .fresh]) (x := .accounts)
    (accounts_kept (by rw [hlife]; rfl) fun j hj => retire_lives j hj)
  exact h.keep (x := .fresh) fun _ hidle => absurd hidle (started_past hst retire_state)

end

/-! ## Fail records -/

section
variable (i : SocketId) (r : FailRec) (s : State)

/-- The accounts hold the record, and its notice is sent; no retirement yet. -/
def recorded : State :=
  sendUrgent (.socket i) (.fail r.kind (logSlot (s.sock i).acct.log)) (modAcct i (fun a => a.record r) s)

theorem acceptRecord_eq : acceptRecord i r s =
    if r.disp = .retire ∨ (recorded i r s).limitReached i r.kind = true then
      retire i (some ⟨r.kind, logSlot (s.sock i).acct.log⟩) (recorded i r s)
    else recorded i r s := rfl

theorem recorded_acct (j : SocketId) : ((recorded i r s).sock j).acct =
    if j = i then (s.sock i).acct.record r else (s.sock j).acct := by
  unfold recorded
  rw [(sendUrgent_touches _ _ _).acct j, modAcct_sock]
  split
  · rename_i hj; subst hj; rfl
  · rfl

theorem record_fits {a : Accounts} (h : a.log.length ≤ 6 ∧ a.log.length ≤ a.total) :
    (a.record r).log.length ≤ 6 ∧ (a.record r).log.length ≤ (a.record r).total := by
  have hlen : (a.record r).log.length = min 5 a.log.length + 1 := by
    simp [Accounts.record, logStore]
  have htot : (a.record r).total = min 65535 (a.total + 1) := rfl
  rw [hlen, htot]
  omega

theorem recorded_touches : Touches [.acct, .urgent, .law .limit, .law .accounts] s (recorded i r s) := by
  have h1 : Touches (closed [.acct] ++ [.urgent]) s (recorded i r s) :=
    (modAcct_touches i (fun a => a.record r) s).comp (sendUrgent_touches _ _ _)
  refine h1.keep (x := .logs) fun hs j => ?_
  rw [recorded_acct]
  split
  · exact record_fits r (hs i)
  · exact hs j

/-- A record that does not bring its socket to the limit leaves it below. -/
theorem recorded_limits {i : SocketId} {r : FailRec} {s : State} (hlife : (s.sock i).life = .stressing)
    (hno : (recorded i r s).limitReached i r.kind = false) (hs : LimitInv s) (hst : s.started = true) :
    LimitInv (recorded i r s) := by
  obtain ⟨h1, h2, -⟩ := hs
  have ht := recorded_touches i r s
  refine ⟨fun x hx j hj => ?_, by rw [ht.record]; exact h2, fun h => ?_⟩
  · rw [ht.record] at hx
    rw [recorded_acct] at hj
    rw [ht.life j]
    split at hj
    · rename_i hji
      subst hji
      have hlt : (s.sock j).acct.counted < x.retireLimit := by
        by_contra hc
        have := h1 x hx j (by omega)
        rw [hlife] at this
        cases this
      unfold State.limitReached at hno
      rw [ht.record, hx] at hno
      rw [recorded_acct, if_pos rfl] at hno
      unfold Accounts.record at hj hno
      by_cases hk : r.kind = .sensorFault
      · simp only [hk, if_true] at hj; omega
      · simp only [hk, if_false, Bool.and_eq_false_iff, bne_eq_false_iff_eq, beq_eq_false_iff_ne, false_or] at hj hno
        omega
    · exact h1 x hx j hj
  · rw [ht.runState] at h
    exact absurd h (started_past hst (.inl rfl))

theorem recorded_but {i : SocketId} {r : FailRec} {s : State} (hs : LimitInv s) (hst : s.started = true) :
    LimitsBut i (recorded i r s) := by
  have ht := recorded_touches i r s
  refine ⟨fun x hx j hji hj => ?_, by rw [ht.record]; exact hs.2.1, fun h => ?_⟩
  · rw [ht.record] at hx
    rw [recorded_acct, if_neg hji] at hj
    rw [ht.life j]
    exact hs.1 x hx j hj
  · rw [ht.runState] at h
    exact absurd h (started_past hst (.inl rfl))

theorem recorded_accounts {i : SocketId} {r : FailRec} {s : State} (hlife : (s.sock i).life = .stressing) :
    Law.accounts.Kept s (recorded i r s) :=
  accounts_kept (i := i) (by rw [hlife]; rfl) fun j hj =>
    ⟨(recorded_touches i r s).life j, by rw [recorded_acct, if_neg hj]⟩

/-- A record accepted from a STRESSING socket of a started run keeps every law. -/
theorem acceptRecord_keeps {i : SocketId} {r : FailRec} {s : State} (hst : s.started = true)
    (hlife : (s.sock i).life = .stressing) : Touches retireWork s (acceptRecord i r s) := by
  have ht := (recorded_touches i r s).keep (l := [.acct, .urgent, .law .limit]) (recorded_accounts hlife)
  rw [acceptRecord_eq]
  split
  · have h2 := (retire_keeps (d := some ⟨r.kind, logSlot (s.sock i).acct.log⟩) (ht.started.trans hst)
      ((ht.life i).trans hlife))
    exact (ht.comp h2 (n := retireWork ++ [.law .limit])).keep (x := .limit) fun hs => retire_limits (recorded_but hs hst)
  · rename_i hno
    exact (ht.mono (m := retireWork ++ [.law .limit])).keep (x := .limit) fun hs =>
      recorded_limits hlife (by simpa using (not_or.mp hno).2) hs hst

end

theorem accepts_iff {s : State} {i : SocketId} : s.accepts i = true ↔ s.started = true ∧ (s.sock i).life = .stressing := by
  simp [State.accepts]

theorem recordWith_touches (i : SocketId) (k : FailKind) (d : Detail) (n : Option Nat) (x : Disp) (s : State) :
    Touches retireWork s (recordWith i k d n x s) := by
  unfold recordWith
  split
  · rename_i h
    obtain ⟨hst, hlife⟩ := accepts_iff.mp h
    exact acceptRecord_keeps hst hlife
  · exact Touches.refl _ s

theorem failRecord_touches (i : SocketId) (k : FailKind) (d : Detail) (s : State) :
    Touches retireWork s (failRecord i k d s) := recordWith_touches i k d _ _ s

/-- A record retires its socket, or touches nothing but its accounts and the urgent lane. -/
theorem recordWith_or (i : SocketId) (k : FailKind) (d : Detail) (n : Option Nat) (x : Disp) (s : State) :
    Touches [.acct, .urgent, .law .limit, .law .accounts] s (recordWith i k d n x s) ∨
      ∃ r e, recordWith i k d n x s = retire i e (recorded i r s) := by
  unfold recordWith
  split
  · rw [acceptRecord_eq]
    split
    · exact .inr ⟨_, _, rfl⟩
    · exact .inl (recorded_touches i _ s)
  · exact .inl (Touches.refl _ s)

theorem failRecord_or (i : SocketId) (k : FailKind) (d : Detail) (s : State) :
    Touches [.acct, .urgent, .law .limit, .law .accounts] s (failRecord i k d s) ∨
      ∃ r e, failRecord i k d s = retire i e (recorded i r s) := recordWith_or i k d _ _ s

/-- A retired socket's heater is OFF. -/
theorem retire_off (i : SocketId) (d : Option Deciding) (s : State) : ((retire i d s).sock i).therm.state = .off := by
  have h := finalEffects_marked i (modSock i (retiredSock d) s)
  exact (((retire_after i d s).law .final rfl i).1 h).2

theorem resetCycle_touches (i : SocketId) (s : State) : Touches [.live, .checked] s (resetCycle i s) := by
  have h1 := (modLive_touches i (fun l => { l with cycles := incTo 255 l.cycles }) s).mono (m := [.live])
  simp only [resetCycle]
  split_ifs
  · exact Touches.refl _ s
  · exact h1.comp (stopHb_touches i _ _)
  · exact h1.comp (setOwed_touches i _ _)
  · exact h1.comp (enterResetHeld_touches i _)

theorem resetRequest_touches (i : SocketId) (s : State) : Touches retireWork s (resetRequest i s) := by
  unfold resetRequest
  exact ite_touches ((resetCycle_touches i s).comp (failRecord_touches i _ _ _)) (resetCycle_touches i s).mono

theorem mismatchRecord_touches (i : SocketId) (k : FailKind) (d : Detail) (n : Nat) (s : State) :
    Touches retireWork s (mismatchRecord i k d n s) := by
  have h1 := recordWith_touches i k d (some n) (s.dispTaken k) s
  simp only [mismatchRecord]
  exact ite_touches (h1.trans (resetRequest_touches i _)) h1

/-! ## Verdicts and the end of a pass -/

/-- What a verdict touches: the pass context and all that its records lead to. -/
abbrev verdictWork : List Piece := .context :: retireWork

theorem judgeCounts_touches (i : SocketId) (f : Pass → Pass) (hf : ∀ p, (f p).checked = p.checked) (s : State) :
    Touches [.context] s (modPass i f s) := by
  have h : Touches [.checked, .context] s (modPass i f s) := (modPass_touches i f s).mono
  intro p hp
  cases p with
  | checked =>
    refine ⟨fun j => ?_, fun _ => trivial, trivial⟩
    show ((modPass i f s).sock j).pass.checked = _
    rw [modPass_sock]
    split
    · rename_i hj; subst hj; exact hf _
    · rfl
  | context => exact absurd hp (by decide)
  | law x => exact h (.law x) (by cases x <;> rfl)
  | _ => exact h _ rfl

/-- A judged socket's counts (R131). -/
def judgedPass (bad : Bool) (p : Pass) : Pass :=
  { p with nChecked := incTo top32 p.nChecked, nFailed := if bad then incTo top32 p.nFailed else p.nFailed }

/-- The strobe record of a verdict, and the state it leaves (R132). -/
def strobeVerdict (chk : CheckZone) (i : SocketId) (p : Pass) (s : State) : State :=
  if strobeFailed chk.mode p then
    mismatchRecord i .strobeMismatch (.strobe (p.first.getD ⟨0, 0⟩).ordinal (p.first.getD ⟨0, 0⟩).bits p.count) chk.passNo s
  else s

/-- The signature record of a verdict, and the state it leaves (R132). -/
def signatureVerdict (chk : CheckZone) (i : SocketId) (p : Pass) (s : State) : State :=
  if signatureFailed chk.mode chk.expect p then
    mismatchRecord i .signatureMismatch (.signature p.crc p.lpc) chk.passNo s
  else s

theorem judgeOne_eq (chk : CheckZone) (i : SocketId) (s : State) : judgeOne chk i s =
    let p := (s.sock i).pass
    let bad := strobeFailed chk.mode p || signatureFailed chk.mode chk.expect p
    signatureVerdict chk i p (strobeVerdict chk i p (modPass i (judgedPass bad) s)) := rfl

theorem strobeVerdict_touches (chk : CheckZone) (i : SocketId) (p : Pass) (s : State) :
    Touches retireWork s (strobeVerdict chk i p s) := by
  unfold strobeVerdict
  exact ite_touches (mismatchRecord_touches i _ _ _ s) (Touches.refl _ s)

theorem signatureVerdict_touches (chk : CheckZone) (i : SocketId) (p : Pass) (s : State) :
    Touches retireWork s (signatureVerdict chk i p s) := by
  unfold signatureVerdict
  exact ite_touches (mismatchRecord_touches i _ _ _ s) (Touches.refl _ s)

theorem judgeOne_touches (c : CheckZone) (i : SocketId) (s : State) : Touches verdictWork s (judgeOne c i s) := by
  rw [judgeOne_eq]
  have h1 := fun f => (judgeCounts_touches i (judgedPass f) (fun _ => rfl) s).mono (m := verdictWork)
  have h2 := fun p t => (strobeVerdict_touches c i p t).mono (m := verdictWork)
  have h3 := fun p t => (signatureVerdict_touches c i p t).mono (m := verdictWork)
  exact (h1 _).trans ((h2 _ _).trans (h3 _ _))

theorem judgePass_touches (z : ZoneId) (s : State) : Touches verdictWork s (judgePass z s) :=
  (closePass_touches z s).comp (forEach_touches (fun i _ t => judgeOne_touches _ i t) _)

/-- The judged or void end of a pass, before the zone's next place. -/
def passJudged (z : ZoneId) (s : State) : State := if (s.zone z).seq.void = none then judgePass z s else voidEnd z s

theorem endPass_eq (z : ZoneId) (s : State) : endPass z s =
    if ((passJudged z s).zone z).seq.state = .playing then placeZone z (swapProgram z (passJudged z s))
    else passJudged z s := rfl

theorem passJudged_touches (z : ZoneId) (s : State) : Touches verdictWork s (passJudged z s) := by
  unfold passJudged
  exact ite_touches (judgePass_touches z s) (voidEnd_touches z s).mono

theorem endPass_touches (z : ZoneId) (s : State) : Touches verdictWork s (endPass z s) := by
  rw [endPass_eq]
  split
  · rename_i hp
    exact (passJudged_touches z s).comp ((swapProgram_touches z _).comp
      (placeZone_keeps (.inl (by rw [swapProgram_state, hp]; simp))) (n := .live :: passWork))
  · exact passJudged_touches z s

theorem nextVector_touches {z : ZoneId} {s : State} (t : PageTag) (vs : List Vec) (v : Vec)
    (h : (s.zone z).seq.state = .playing) : Touches verdictWork s (nextVector z t vs v s) := by
  simp only [nextVector]
  split
  · exact (stepVec_touches z _ _ s).mono
  · exact ite_touches (endPass_touches z s) (ite_touches (stepVec_touches z _ _ s).mono (pageChange_touches h).mono)

end Sys2Proof.Proofs.Frames

/-! What completions, rail events, thermal events and heartbeat failures touch, and the laws that they keep. -/

namespace Sys2Proof.Proofs.Frames

open Sys2Proof.Machine Sys2Proof.Safety Sys2Proof.Proofs.Requests

/-! ## Completion and the accounting expiry -/

/-- The lifecycle state of a socket that completes. -/
abbrev completed (i : SocketId) (s : State) : State := modSock i (fun k => { k with life := .complete }) s

theorem completed_sock (i j : SocketId) (s : State) : (completed i s).sock j =
    if j = i then { s.sock i with life := .complete } else s.sock j := modSock_sock i j _ s

theorem completed_acct (i j : SocketId) (s : State) : ((completed i s).sock j).acct = (s.sock j).acct :=
  (setLife_touches i (fun _ => .complete) s).acct j

/-- A STRESSING socket that completes leaves laws 6, 8 and 11, and the hold. -/
theorem completed_touches {i : SocketId} {s : State} (hst : s.started = true) (hlife : (s.sock i).life = .stressing) :
    Touches [.life, .law .final] s (completed i s) := by
  have ht := setLife_touches i (fun _ => .complete) s
  have hlife' : ∀ j, ((completed i s).sock j).life = .stressing → (s.sock j).life = .stressing := by
    intro j hj
    rw [completed_sock] at hj
    split at hj
    · cases hj
    · exact hj
  have hretired : ∀ j, (s.sock j).life = .retired → ((completed i s).sock j).life = .retired := by
    intro j hj
    rw [completed_sock]
    split
    · rename_i hji; subst hji; rw [hlife] at hj; cases hj
    · exact hj
  have h := ht.keep (l := [.life, .law .final, .law .accounts, .law .fresh, .law .hold]) (x := .limit)
    fun ⟨g1, g2, g3⟩ => ⟨fun r hr j hj => hretired j (g1 r hr j (by rwa [completed_acct] at hj)), g2,
      fun hi j => by rw [completed_acct]; exact g3 hi j⟩
  have h := h.keep (l := [.life, .law .final, .law .fresh, .law .hold]) (x := .accounts)
    (accounts_kept (i := i) (by rw [hlife]; rfl) fun j hj => by rw [completed_sock, if_neg hj]; exact ⟨rfl, rfl⟩)
  have h := h.keep (l := [.life, .law .final, .law .hold]) (x := .fresh)
    fun _ hidle => absurd hidle (started_past hst (.inl rfl))
  refine h.keep (x := .hold) fun hs hp => ⟨(hs hp).1, fun j hj => ?_⟩
  rw [ht.inhibit j, ht.therm j]
  exact (hs hp).2 j (hlife' j hj)

theorem complete_after (i : SocketId) (s : State) : Touches [.routine] (finalEffects i (completed i s)) (complete i s) :=
  sendRoutine_touches _ _ _

theorem complete_keeps {i : SocketId} {s : State} (hst : s.started = true) (hlife : (s.sock i).life = .stressing) :
    Touches (.life :: finalWork) s (complete i s) := by
  have h : Touches (.life :: finalWork ++ [.law .final]) s (complete i s) :=
    (completed_touches hst hlife).comp ((finalEffects_touches i _).comp (complete_after i s) (n := finalWork))
  exact h.keep ((final_kept i _ s).trans ((complete_after i s).law .final))

/-- One credited second more. -/
abbrev credited (i : SocketId) (s : State) : State := modAcct i (fun a => { a with credit := a.credit + 1 }) s

theorem credited_acct (i j : SocketId) (s : State) : ((credited i s).sock j).acct =
    if j = i then { (s.sock i).acct with credit := (s.sock i).acct.credit + 1 } else (s.sock j).acct := by
  rw [modAcct_sock]; split <;> simp_all

theorem credited_touches {i : SocketId} {s : State} (hlife : (s.sock i).life = .stressing) :
    Touches [.acct] s (credited i s) := by
  have ht := modAcct_touches i (fun a => { a with credit := a.credit + 1 }) s
  have hrest : ∀ j, ((credited i s).sock j).acct.log = (s.sock j).acct.log ∧
      ((credited i s).sock j).acct.total = (s.sock j).acct.total ∧
      ((credited i s).sock j).acct.counted = (s.sock j).acct.counted := by
    intro j
    rw [credited_acct]
    split
    · rename_i hj; subst hj; exact ⟨rfl, rfl, rfl⟩
    · exact ⟨rfl, rfl, rfl⟩
  have h := ht.keep (l := [.acct, .law .limit, .law .accounts]) (x := .logs) fun hs j => by
    rw [(hrest j).1, (hrest j).2.1]; exact hs j
  have h := h.keep (l := [.acct, .law .accounts]) (x := .limit) fun ⟨g1, g2, g3⟩ =>
    ⟨fun r hr j hj => by rw [ht.life j]; exact g1 r hr j (by rwa [(hrest j).2.2] at hj), g2,
      fun hi j => by rw [(hrest j).2.2]; exact g3 hi j⟩
  exact h.keep (x := .accounts) (accounts_kept (i := i) (by rw [hlife]; rfl) fun j hj =>
    ⟨ht.life j, by rw [credited_acct, if_neg hj]⟩)

/-- One socket examined at an expiry is left, credited, or credited and complete. -/
theorem creditOne_cases (i : SocketId) (s : State) : (creditOne i s = s) ∨
    ((s.sock i).life = .stressing ∧ s.creditDue i = true ∧
      (((credited i s).targetReached i = false ∧ creditOne i s = credited i s) ∨
        ((credited i s).targetReached i = true ∧ creditOne i s = complete i (credited i s)))) := by
  unfold creditOne
  split
  · rename_i h
    refine .inr ⟨h.1, h.2, ?_⟩
    show _ ∨ _
    by_cases ht : (credited i s).targetReached i = true
    · exact .inr ⟨ht, if_pos ht⟩
    · exact .inl ⟨by simpa using ht, if_neg ht⟩
  · exact .inl rfl

theorem creditDue_active {s : State} {i : SocketId} (h : s.creditDue i = true) : s.run.state = .active := by
  simp only [State.creditDue, Bool.and_eq_true, beq_iff_eq] at h
  exact h.1.1.1.1.1

/-- What the accounting expiry does to a socket. -/
abbrev creditWork : List Piece := .life :: .acct :: finalWork

theorem creditOne_touches (i : SocketId) (s : State) : Touches (creditWork) s (creditOne i s) := by
  obtain h | ⟨hlife, hdue, ⟨-, h⟩ | ⟨-, h⟩⟩ := creditOne_cases i s <;> rw [h]
  · exact Touches.refl _ s
  · exact (credited_touches hlife).mono
  · have ht := credited_touches hlife
    have hst : (credited i s).started = true := by
      rw [ht.started]; exact (started_iff s).mpr (.inl (creditDue_active hdue))
    exact ht.comp (complete_keeps hst ((ht.life i).trans hlife))

/-- The clock rises at an expiry, and its timer is set again. -/
abbrev ticked (e : Option Nat) (s : State) : State :=
  modRun (fun r => { r with clock := incTo top32 r.clock, acctTimer := e }) s

theorem ticked_touches {e : Nat} {s : State} (he : s.run.acctTimer.isSome = true) :
    Touches [.clock, .runState] s (ticked (some e) s) := by
  have h : Touches (closed [.clock, .runState]) s (ticked (some e) s) :=
    board_touches rfl rfl fun p hp hlaw => by
      cases p with
      | clock | runState => exact absurd hp (by decide)
      | law x => exact absurd rfl (hlaw x)
      | _ => simp [BoardSame]
  refine h.keeps [.runTable, .limit, .fresh, .hold, .trip, .runs, .places, .port] ?_
  simp only [List.forall_mem_cons, List.not_mem_nil, false_imp_iff, implies_true, and_true]
  refine ⟨fun ⟨h1, h2, h3, _⟩ => ?_, fun hs => hs, fun hs => hs, fun hs => hs, fun hs => hs, fun hs => hs, fun hs => hs,
    fun hs => hs⟩
  have hst := h3.mp he
  exact ⟨h1, h2, ⟨fun _ => hst, fun _ => rfl⟩, fun hi => absurd hi (started_past hst (.inl rfl))⟩

theorem accounted_touches {e : Nat} {s : State} (he : s.run.acctTimer.isSome = true) :
    Touches (.clock :: retireWork) s (finishTest (forEach allSockets creditOne (ticked (some e) s))) :=
  (ticked_touches he).comp ((forEach_touches (fun i _ t => creditOne_touches i t) _).comp (finishTest_touches _)
    (n := retireWork))

/-! ## Trips of a rail -/

/-- A rail opened into REST, with the grants that follow. -/
def restRail (i : SocketId) (s : State) : State := grantSlots (zoneOf i) (openRail .rest i s)

theorem restRail_touches (i : SocketId) (s : State) :
    Touches [.railState, .timers, .queue, .power, .armed, .routine, .live, .checked, .law .demand] s (restRail i s) := by
  have h : Touches openWork s (restRail i s) := (openRail_touches i s (.inr rfl)).comp (grantSlots_touches _ _)
  exact h.keep (x := .slots) fun Z hs => grantSlots_slots (slots_openRail i s hs (.inr rfl))

theorem restRail_demands {M X : SocketId → Prop} {i : SocketId} {s : State} (hs : Demands M X s) :
    Demands M (fun j => X j ∨ j = i) (restRail i s) := by
  have hs' : Demands M (fun j => X j ∨ j = i) s := by
    refine ⟨hs.1, fun j => ?_⟩
    obtain ⟨g1, g2, g3, g4, g5, g6⟩ := hs.2 j
    exact ⟨g1, g2, g3, g4, fun hr => (g5 hr).imp .inl id, g6⟩
  exact (grantSlots_touches _ _).law .demand rfl _ _ (demands_openRail i s hs' (.inr rfl) (fun _ => .inl (.inr rfl)) (by simp))

/-- A rail tripped, with its records, before it leaves REST. -/
def tripRecords (p : RailProfile) (i : SocketId) (k : FailKind) (n : Nat) (ph : RailState) (s : State) : State :=
  let t := modRail i (fun r => { r with trips := incTo 16 r.trips }) (restRail i s)
  let u := failRecord i k (.rail n ph) t
  if p.retryLimit < (t.sock i).rail.trips then failRecord i .railExhausted .nothing u else u

theorem railTrip_eq (p : RailProfile) (i : SocketId) (k : FailKind) (n : Nat) (ph : RailState) (s : State) :
    railTrip p i k n ph s = if ((tripRecords p i k n ph s).sock i).rail.offTimer = none then
      leaveRest i (tripRecords p i k n ph s) else tripRecords p i k n ph s := by
  unfold railTrip tripRecords restRail
  rfl

section
variable (p : RailProfile) (i : SocketId) (k : FailKind) (n : Nat) (ph : RailState) (s : State)

theorem tripRecords_after : Touches (.trips :: retireWork) (restRail i s) (tripRecords p i k n ph s) := by
  have h1 := (setTrips_touches i (incTo 16) (restRail i s)).mono (m := .trips :: retireWork)
  have h2 := fun t => (failRecord_touches i k (.rail n ph) t).mono (m := .trips :: retireWork)
  have h3 := fun t => (failRecord_touches i .railExhausted .nothing t).mono (m := .trips :: retireWork)
  unfold tripRecords
  exact (h1.trans (h2 _)).trans (ite_touches (h3 _) (Touches.refl _ _))

theorem railTrip_touches : Touches (.trips :: retireWork) s (railTrip p i k n ph s) := by
  have h1 := (restRail_touches i s).mono (m := .trips :: retireWork ++ [.law .demand])
  have h2 := (tripRecords_after p i k n ph s).mono (m := .trips :: retireWork ++ [.law .demand])
  have h3 := (leaveRest_touches i (tripRecords p i k n ph s)).mono (m := .trips :: retireWork ++ [.law .demand])
  rw [railTrip_eq]
  refine ((h1.trans h2).trans (ite_touches h3 (Touches.refl _ _))).keep (x := .demand) fun M X hs => ?_
  have hmid := (tripRecords_after p i k n ph s).law .demand rfl _ _ (restRail_demands (i := i) hs)
  split
  · rename_i ht; exact leaveRest_demands hmid ht
  · rename_i ht
    obtain ⟨g1, g2, g3, g4, -, g6⟩ := hmid.2 i
    exact demands_strict hmid ⟨g1, g2, g3, g4, fun _ => .inr (Option.isSome_iff_ne_none.mpr ht), g6⟩

end

/-! ## A rail enters ON, and moves to RAMP-2 -/

/-- The rail of a socket that enters ON. -/
def railOn (mA e : Nat) (r : Rail) : Rail :=
  { r with state := .on, rampTimer := none, phase1Timer := none, window := [mA], stableTimer := some e }

theorem enterOn_eq (p : RailProfile) (i : SocketId) (mA : Nat) (s : State) : enterOn p i mA s =
    let t := modRail i (railOn mA (afterMs (1000 * p.stableS) s)) s
    grantSlots (zoneOf i) (hbRailOn i (setPower i (t.sock i).rail.powerNow t)) := rfl

theorem railOn_touches (i : SocketId) (mA e : Nat) (s : State) :
    Touches (closed [.railState, .timers, .sample]) s (modRail i (railOn mA e) s) :=
  modSock_touches fun p hp => by
    cases p with
    | railState | timers | sample => exact absurd hp (by decide)
    | _ => simp [SockSame, railOn]

/-- A change of a rail that leaves its set, takes it to no slot, and has it up only where it was up. -/
theorem modRail_rails {i : SocketId} {f : Rail → Rail} {s : State} (hset : (f (s.sock i).rail).inhibit = (s.sock i).rail.inhibit)
    (hslot : (f (s.sock i).rail).state.ramping = true → (s.sock i).rail.state.ramping = true)
    (hq : (f (s.sock i).rail).state ≠ .queued ∧ (s.sock i).rail.state ≠ .queued)
    (hup : (s.sock i).rail.state ≠ .off ∧ (s.sock i).rail.state ≠ .rest) : Law.rails.Kept s (modRail i f s) := by
  intro hs
  have hr := modRail_rail_self i f s
  refine railLaws_of_change hs (railsElse_modRail i f s) (hs.2.1 _).1 (fun j _ => Iff.rfl) ?_ ?_ ?_
  · rw [hr, modRail_zone, (hs.2.1 (zoneOf i)).2 i]
    simp [hq.1, hq.2]
  · rw [hr]; exact fun h => .inl (hslot h)
  · rw [hr, hset]
    intro he
    rcases hs.2.2 i he with h | h
    · exact absurd h hup.1
    · exact absurd h hup.2

theorem enterOn_touches {p : RailProfile} {i : SocketId} {s : State} (mA : Nat) (hst : (s.sock i).rail.state = .ramp2) :
    Touches [.sample, .railState, .timers, .queue, .power, .armed, .routine, .live, .checked] s (enterOn p i mA s) := by
  rw [enterOn_eq]
  let t := modRail i (railOn mA (afterMs (1000 * p.stableS) s)) s
  have hon : Law.rails.Kept s t := modRail_rails (f := railOn mA (afterMs (1000 * p.stableS) s)) rfl
    (fun h => absurd h (by simp [railOn, RailState.ramping])) ⟨by simp [railOn], by rw [hst]; simp⟩ (by rw [hst]; simp)
  have h1 : Touches [.sample, .railState, .timers, .law .demand, .law .slots] s t := (railOn_touches i mA _ s).keep hon
  have h1 : Touches [.sample, .railState, .timers, .law .slots] s t := h1.keep (x := .demand) fun M X hs => by
    refine demands_of_change hs (hon hs.1) (railsElse_modRail i _ s) ?_
    obtain ⟨-, -, -, hoff, -, hrun, -⟩ := hs.2 i
    rw [hst] at hoff
    rw [modRail_rail_self]
    exact ⟨by simp [railOn], by simp [railOn], by simp [railOn], fun h => absurd (hoff h) (by simp), by simp [railOn], hrun,
      by simp [railOn]⟩
  have h2 : Touches [.power, .armed, .routine, .live, .checked] t (hbRailOn i (setPower i (t.sock i).rail.powerNow t)) :=
    (setPower_touches i _ t).comp (hbRailOn_touches i _)
  have h3 : Touches [.sample, .railState, .timers, .queue, .power, .armed, .routine, .live, .checked, .law .slots] s
      (grantSlots (zoneOf i) (hbRailOn i (setPower i (t.sock i).rail.powerNow t))) :=
    h1.comp (h2.comp (grantSlots_touches _ _) (n := [.railState, .timers, .queue, .power, .armed, .routine, .live, .checked]))
  exact h3.keep (x := .slots) fun Z hs => grantSlots_slots (h2.law .slots rfl _
    (slotsFull_of_change hs (hon hs.1) (railsElse_modRail i _ s) fun _ => by rw [modRail_zone]))

theorem sampleOn_touches (p : RailProfile) (i : SocketId) (mA : Nat) (s : State) :
    Touches (.trips :: retireWork) s (sampleOn p i mA s) := by
  have h1 := (setPower_touches i (s.sock i).rail.powerNow s).mono (m := .trips :: retireWork)
  have h2 := fun k n => h1.trans (railTrip_touches p i k n .on (setPower i (s.sock i).rail.powerNow s))
  unfold sampleOn
  exact ite_touches (h2 _ _) (ite_touches (h2 _ _) h1)

/-- The rail of a socket that moves to RAMP-2. -/
def toRamp2 (r : Rail) : Rail := { r with state := .ramp2, phase1Timer := none }

theorem toRamp2_touches {i : SocketId} {s : State} (hst : (s.sock i).rail.state = .ramp1) :
    Touches [.railState, .timers] s (modRail i toRamp2 s) := by
  have h : Touches (closed [.railState, .timers]) s (modRail i toRamp2 s) := modSock_touches fun p hp => by
    cases p with
    | railState | timers => exact absurd hp (by decide)
    | _ => simp [SockSame, toRamp2]
  have hr : Law.rails.Kept s (modRail i toRamp2 s) := modRail_rails rfl (fun _ => by rw [hst]; rfl)
    ⟨by simp [toRamp2], by rw [hst]; simp⟩ (by rw [hst]; simp)
  have h := h.keep (l := [.railState, .timers, .law .demand, .law .slots]) hr
  have h := h.keep (l := [.railState, .timers, .law .slots]) (x := .demand) fun M X hs => by
    refine demands_of_change hs (hr hs.1) (railsElse_modRail i _ s) ?_
    obtain ⟨-, hramp, hstab, hoff, -, hrun, -⟩ := hs.2 i
    rw [hst] at hramp hstab hoff
    rw [modRail_rail_self]
    exact ⟨by simp [toRamp2], by simpa [toRamp2] using hramp, fun h => absurd (hstab h) (by simp),
      fun h => absurd (hoff h) (by simp), by simp [toRamp2], hrun, by simp [toRamp2]⟩
  refine h.keep (x := .slots) fun Z hs => ⟨hr hs.1, fun z hz hp hq => ?_⟩
  have hsl : (modRail i toRamp2 s).slotHolders z = s.slotHolders z := by
    refine List.filter_congr fun j _ => ?_
    rw [modRail_sock]
    split
    · rename_i hj; subst hj; rw [hst]; rfl
    · rfl
  rw [hsl]
  exact hs.2 z hz hp hq

theorem stable_touches (i : SocketId) (s : State) :
    Touches [.trips, .timers] s (modRail i (fun r => { r with trips := 0, stableTimer := none }) s) := by
  have h : Touches (closed [.trips, .timers]) s (modRail i (fun r => { r with trips := 0, stableTimer := none }) s) :=
    modSock_touches fun p hp => by
      cases p with
      | trips | timers => exact absurd hp (by decide)
      | _ => simp [SockSame]
  refine h.keep (x := .demand) fun M X hs => demands_of_change hs (h.law .rails rfl hs.1) (railsElse_modRail i _ s) ?_
  obtain ⟨hph, hramp, -, hoff, hrest, hrun, hset⟩ := hs.2 i
  rw [modRail_rail_self]
  exact ⟨hph, hramp, by simp, hoff, hrest, hrun, hset⟩

/-- The off-time of a rail stopped. -/
abbrev noOffTime (i : SocketId) (s : State) : State := modRail i (fun r => { r with offTimer := none }) s

theorem offTimeEnded_touches (i : SocketId) (s : State) :
    Touches [.railState, .timers, .queue] s (leaveRest i (noOffTime i s)) := by
  have h : Touches (closed [.timers]) s (noOffTime i s) := modSock_touches fun p hp => by
    cases p with
    | timers => exact absurd hp (by decide)
    | _ => simp [SockSame]
  refine (h.comp (leaveRest_touches i _) (n := [.railState, .timers, .queue, .law .demand])).keep (x := .demand)
    fun M X hs => leaveRest_demands ⟨h.law .rails rfl hs.1, fun j => ?_⟩ (by rw [modRail_rail_self])
  by_cases hj : j = i
  · subst hj
    obtain ⟨hph, hramp, hstab, -, -, hrun, hset⟩ := hs.2 j
    rw [modRail_rail_self]
    exact ⟨hph, hramp, hstab, by simp, fun _ => .inl (.inr rfl), hrun, hset⟩
  · rw [modRail_sock, if_neg hj]
    obtain ⟨g1, g2, g3, g4, g5, g6⟩ := hs.2 j
    exact ⟨g1, g2, g3, g4, fun hr => (g5 hr).imp .inl id, g6⟩

end Sys2Proof.Proofs.Frames

/-! What the readings of the sensors and the heartbeat failures touch, and the laws that they keep. -/

namespace Sys2Proof.Proofs.Frames

open Sys2Proof.Machine Sys2Proof.Safety Sys2Proof.Proofs.Requests

/-! ## Entries to thermal states -/

/-- The thermal states but that of one socket have their causes. -/
def TripsElse (i : SocketId) (s : State) : Prop := ∀ j ≠ i, CausesStand s j ∧
  (s.hot j = true → (s.sock j).therm.state.control = false ∧ (s.sock j).therm.state ≠ .held)

theorem TripsStand.but {s : State} (hs : TripsStand s) (i : SocketId) : TripsElse i s := fun j _ => hs j

theorem not_outOfRun {s : State} {i : SocketId} (hs : CausesStand s i) (hst : (s.sock i).therm.state ≠ .off) :
    ¬ OutOfRun s i := fun h => hst (hs.2.2.2 h).2

theorem heaterDown_touches {i : SocketId} {s : State} {st : ThermalState} (hst : st = .tripped ∨ st = .sensorFault)
    (hne : (s.sock i).therm.state ≠ .off) : Touches [.therm, .law .trip] s (heaterDown st i s) :=
  (modTherm_cut ⟨rfl, rfl⟩ (by rcases hst with rfl | rfl <;> rfl)).keep (modTherm_final fun h => absurd h hne)

/-- A heater down with its cause: TRIPPED with THERMAL, SENSOR-FAULT with SENSOR. -/
def downCause (st : ThermalState) (c : Cause) (i : SocketId) (s : State) : State := addCause c i (heaterDown st i s)

theorem downCause_touches {i : SocketId} {s : State} {st : ThermalState} (c : Cause) (hst : st = .tripped ∨ st = .sensorFault)
    (hne : (s.sock i).therm.state ≠ .off) : Touches (.therm :: railWork ++ [.law .trip]) s (downCause st c i s) :=
  (heaterDown_touches hst hne).comp (addCause_touches c i _)

theorem downCause_trip {i : SocketId} {s : State} {st : ThermalState} {c : Cause}
    (hst : st = .tripped ∧ c = .thermal ∨ st = .sensorFault ∧ c = .sensor) (helse : TripsElse i s) (hin : ¬ OutOfRun s i) :
    TripsStand (downCause st c i s) := by
  have h1 := modTherm_touches i (fun t => { t.cut with state := st, integral := 0 }) s
  have h2 := addCause_touches c i (heaterDown st i s)
  have htherm : ∀ j, ((downCause st c i s).sock j).therm =
      if j = i then { (s.sock i).therm.cut with state := st, integral := 0 } else (s.sock j).therm := fun j => by
    unfold downCause
    rw [h2.therm j]
    exact modTherm_therm i _ s j
  intro j
  have hhot : (downCause st c i s).hot j = s.hot j :=
    hot_congr (fun z => (h2.thermProf z).trans (h1.thermProf z)) (by
      rw [htherm]
      split
      · rename_i hj; subst hj; rfl
      · rfl)
  have hinh : ((downCause st c i s).sock j).rail.inhibit =
      if j = i then (s.sock i).rail.inhibit.put c true else (s.sock j).rail.inhibit := by
    unfold downCause
    rw [addCause_inhibit]
    exact congrArg₂ (ite (j = i)) (congrArg (Inhibit.put c true) (h1.inhibit i)) (h1.inhibit j)
  unfold CausesStand
  rw [hhot, hinh, htherm, show (downCause st c i s).started = s.started from h2.started.trans h1.started,
    show (downCause st c i s).declared j = s.declared j from (h2.declared j).trans (h1.declared j)]
  split
  · rename_i hj
    subst hj
    obtain ⟨rfl, rfl⟩ | ⟨rfl, rfl⟩ := hst
    · exact ⟨⟨fun _ => rfl, fun h => absurd h (by simp), fun h => absurd h (by simp), fun h => absurd h hin⟩, fun _ => ⟨rfl, by simp⟩⟩
    · exact ⟨⟨fun h => absurd h (by simp), fun _ => rfl, fun h => absurd h (by simp), fun h => absurd h hin⟩, fun _ => ⟨rfl, by simp⟩⟩
  · rename_i hj
    exact helse j hj

/-- A heater loop put under control or in HELD where no reading is hot. -/
theorem modTherm_cool {i : SocketId} {f : Thermal → Thermal} {s : State} (helse : TripsElse i s) (hin : ¬ OutOfRun s i)
    (hcool : s.hot i = false) (hread : (f (s.sock i).therm).reading = (s.sock i).therm.reading)
    (hst : (f (s.sock i).therm).state.control = true ∨ (f (s.sock i).therm).state = .held) :
    TripsStand (modTherm i f s) := by
  have h1 := modTherm_touches i f s
  have hne : (f (s.sock i).therm).state ≠ .off ∧ (f (s.sock i).therm).state ≠ .tripped ∧
      (f (s.sock i).therm).state ≠ .sensorFault := by
    rcases hst with h | h
    · refine ⟨?_, ?_, ?_⟩ <;> intro hc <;> rw [hc] at h <;> exact absurd h (by decide)
    · rw [h]; simp
  intro j
  have hhot : (modTherm i f s).hot j = s.hot j := hot_congr (h1.thermProf) (by
    rw [modTherm_therm]
    split
    · rename_i hj; subst hj; exact hread
    · rfl)
  unfold CausesStand
  rw [hhot, h1.inhibit j, h1.started, h1.declared j, modTherm_therm]
  split
  · rename_i hj
    subst hj
    exact ⟨⟨fun h => absurd h hne.2.1, fun h => absurd h hne.2.2, fun h => absurd h hne.1, fun h => absurd h hin⟩,
      fun h => absurd (hcool.symm.trans h) (by decide)⟩
  · rename_i hj
    exact helse j hj

/-- THERMAL may leave the set of a socket that is not TRIPPED, and SENSOR that of one not in SENSOR-FAULT. -/
theorem removeCause_trip {c : Cause} {i : SocketId} {s : State} (hc : c = .thermal ∧ (s.sock i).therm.state ≠ .tripped ∨
    c = .sensor ∧ (s.sock i).therm.state ≠ .sensorFault) : Law.trip.Kept s (removeCause c i s) := by
  have ht : Touches (railWork ++ [.law .trip]) s (removeCause c i s) := removeCause_touches (by
    rcases hc with ⟨rfl, -⟩ | ⟨rfl, -⟩ <;> simp) i s
  intro hs j
  have hhot : (removeCause c i s).hot j = s.hot j := hot_congr (ht.thermProf) (by rw [ht.therm j])
  unfold CausesStand
  rw [hhot, removeCause_inhibit, ht.therm j, ht.started, ht.declared j]
  obtain ⟨⟨h1, h2, h3, h4⟩, h5⟩ := hs j
  split
  · rename_i hj
    subst hj
    rcases hc with ⟨rfl, hne⟩ | ⟨rfl, hne⟩
    · exact ⟨⟨fun h => absurd h hne, h2, h3, h4⟩, h5⟩
    · exact ⟨⟨h1, fun h => absurd h hne, h3, h4⟩, h5⟩
  · exact ⟨⟨h1, h2, h3, h4⟩, h5⟩

/-! ## Sensor faults and trips -/

theorem sensorFaultTest_touches (i : SocketId) (s : State) : Touches retireWork s (sensorFaultTest i s) := by
  simp only [sensorFaultTest]
  split
  · rename_i h
    have hne : (s.sock i).therm.state ≠ .off := by
      intro hoff
      rw [hoff] at h
      simp [ThermalState.control] at h
    have h1 : Touches (.therm :: railWork) s (downCause .sensorFault .sensor i s) :=
      (downCause_touches .sensor (.inr rfl) hne).keep (x := .trip) fun hs =>
        downCause_trip (.inr ⟨rfl, rfl⟩) (TripsStand.but hs i) (not_outOfRun (hs i).1 hne)
    exact h1.comp (failRecord_touches i _ _ _)
  · exact Touches.refl _ s

theorem badReading_touches (i : SocketId) (s : State) : Touches retireWork s (badReading i s) :=
  (modTherm_aside rfl rfl rfl rfl).comp (sensorFaultTest_touches i _)

theorem thermalTrip_eq (i : SocketId) (t : Int) (s : State) :
    thermalTrip i t s = failRecord i .thermalTrip (.reading t) (downCause .tripped .thermal i s) := rfl

theorem thermalTrip_touches {i : SocketId} {s : State} (t : Int) (hne : (s.sock i).therm.state ≠ .off) :
    Touches (retireWork ++ [.law .trip]) s (thermalTrip i t s) :=
  (downCause_touches .thermal (.inl rfl) hne).comp (failRecord_touches i _ _ _)

theorem thermalTrip_trip {i : SocketId} {s : State} (t : Int) (helse : TripsElse i s) (hin : ¬ OutOfRun s i) :
    TripsStand (thermalTrip i t s) :=
  (failRecord_touches i _ _ _).law .trip rfl (downCause_trip (.inl ⟨rfl, rfl⟩) helse hin)

theorem backToControl_touches {i : SocketId} {s : State} (t : Int) (h : (s.sock i).therm.state = .tripped ∨
    (s.sock i).therm.state = .sensorFault) : Touches [.therm, .law .trip] s (backToControl t i s) := by
  have hoff : (s.sock i).therm.state ≠ .off ∧ (s.sock i).therm.state.control = false := by
    rcases h with h | h <;> rw [h] <;> exact ⟨by simp, rfl⟩
  unfold backToControl
  split
  · have h1 := (modTherm_touches i (fun k => { k with state := .held }) s).keep
      (l := [.therm, .law .share, .law .final, .law .hold, .law .trip]) (modTherm_heat (.inl fun _ => ⟨hoff.2, rfl, rfl⟩))
    have h1 := h1.keep (l := [.therm, .law .final, .law .hold, .law .trip]) (modTherm_share le_rfl)
    exact (h1.keep (l := [.therm, .law .hold, .law .trip]) (modTherm_final fun h => absurd h hoff.1)).keep
      (modTherm_hold fun h => absurd h (by simp [ThermalState.control]))
  · rename_i hp
    unfold approachFrom
    exact ((modTherm_control (f := fun k => { k with state := .approach, teff := t }) rfl le_rfl).keep
      (l := [.therm, .law .hold, .law .trip]) (modTherm_final fun h => absurd h hoff.1)).keep
      (modTherm_hold fun _ => .inr (by simpa using hp))

theorem backToControl_state (t : Int) (i : SocketId) (s : State) :
    ((backToControl t i s).sock i).therm.state.control = true ∨ ((backToControl t i s).sock i).therm.state = .held := by
  unfold backToControl approachFrom
  split
  · rw [modTherm_therm, if_pos rfl]; exact .inr rfl
  · rw [modTherm_therm, if_pos rfl]; exact .inl rfl

theorem backToControl_trip {i : SocketId} {s : State} (t : Int) (helse : TripsElse i s) (hin : ¬ OutOfRun s i)
    (hcool : s.hot i = false) : TripsStand (backToControl t i s) := by
  unfold backToControl
  split
  · exact modTherm_cool helse hin hcool rfl (.inr rfl)
  · exact modTherm_cool helse hin hcool rfl (.inl rfl)

/-! ## Good readings -/

/-- A good reading as it is stored, with its run lengths (R51). -/
def storedReading (t : Int) (k : Thermal) : Thermal :=
  { k with reading := some t, goodSince := true, goodRun := incTo 255 k.goodRun, badRun := 0 }

/-- The state with the reading stored. -/
def storeReading (i : SocketId) (t : Int) : State → State := modTherm i (storedReading t)

/-- A stored reading handled in a zone with a profile, by the thermal state (R51). -/
def handleReading (p : ThermalProfile) (i : SocketId) (t : Int) (s : State) : State :=
  match (s.sock i).therm.state with
  | .off | .tripped => coolDown p i t s
  | .approach | .inband | .outband => if p.limit ≤ t then thermalTrip i t s else heaterStep p i t s
  | .held => if p.limit ≤ t then thermalTrip i t s else s
  | .sensorFault => recoveryTest i t (faultTrip p i t s)

theorem goodReading_unset {i : SocketId} {t : Int} {s : State} (h : (s.zone (zoneOf i)).thermProf = none) :
    goodReading i t s = storeReading i t s := by
  have h' : ((storeReading i t s).zone (zoneOf i)).thermProf = none := h
  unfold storeReading storedReading at h'
  simp only [goodReading, storeReading, h']
  rfl

theorem goodReading_set {i : SocketId} {t : Int} {s : State} {p : ThermalProfile}
    (h : (s.zone (zoneOf i)).thermProf = some p) : goodReading i t s = handleReading p i t (storeReading i t s) := by
  have h' : ((storeReading i t s).zone (zoneOf i)).thermProf = some p := h
  unfold storeReading storedReading at h'
  simp only [goodReading, storeReading, h', handleReading]
  rfl

theorem storeReading_touches (i : SocketId) (t : Int) (s : State) : Touches [.therm, .law .trip] s (storeReading i t s) := by
  have h := (modTherm_touches i (storedReading t) s).keep (l := [.therm, .law .share, .law .final, .law .hold, .law .trip])
    (modTherm_heat (.inl fun hc => ⟨hc, rfl, rfl⟩))
  have h := h.keep (l := [.therm, .law .final, .law .hold, .law .trip]) (modTherm_share le_rfl)
  exact (h.keep (l := [.therm, .law .hold, .law .trip]) (modTherm_final fun h => h)).keep (modTherm_hold fun h => .inl h)

theorem storeReading_therm (i : SocketId) (t : Int) (s : State) : ((storeReading i t s).sock i).therm =
    storedReading t (s.sock i).therm := by
  unfold storeReading
  rw [modTherm_therm, if_pos rfl]

/-- A stored reading leaves the causes, and what the other sockets' readings allow. -/
theorem storeReading_trip {i : SocketId} {s : State} (t : Int) (hs : TripsStand s) :
    TripsElse i (storeReading i t s) ∧ CausesStand (storeReading i t s) i := by
  have ht := storeReading_touches i t s
  have hstate : ∀ j, ((storeReading i t s).sock j).therm.state = (s.sock j).therm.state := by
    intro j
    unfold storeReading
    rw [modTherm_therm]
    split
    · rename_i hj; subst hj; rfl
    · rfl
  have hcauses : ∀ j, CausesStand (storeReading i t s) j := by
    intro j
    unfold CausesStand
    rw [hstate, ht.inhibit j, ht.started, ht.declared j]
    exact (hs j).1
  refine ⟨fun j hj => ⟨hcauses j, ?_⟩, hcauses i⟩
  have hhot : (storeReading i t s).hot j = s.hot j := hot_congr (ht.thermProf) (by
    unfold storeReading
    rw [modTherm_therm, if_neg hj])
  rw [hhot, hstate]
  exact (hs j).2

theorem coolDown_touches (p : ThermalProfile) (i : SocketId) (s : State) (t : Int) :
    Touches (.therm :: railWork ++ [.law .trip]) s (coolDown p i t s) := by
  have hrem := fun u => removeCause_touches (c := .thermal) (.inr (.inl rfl)) i u
  unfold coolDown
  split
  · split
    · rename_i htr; exact (backToControl_touches t (.inl htr)).comp (hrem _)
    · exact (hrem s).mono
  · exact Touches.refl _ s

/-- The stored reading of a socket in a zone with a profile is hot where it reaches the limit. -/
theorem hot_iff {p : ThermalProfile} {i : SocketId} {t : Int} {s : State} (hp : (s.zone (zoneOf i)).thermProf = some p)
    (hr : (s.sock i).therm.reading = some t) : s.hot i = decide (p.limit ≤ t) := by
  unfold State.hot
  rw [hp, hr]

section
variable {p : ThermalProfile} {i : SocketId} {t : Int} {s : State}

theorem coolDown_trip (hp : (s.zone (zoneOf i)).thermProf = some p) (hr : (s.sock i).therm.reading = some t)
    (hs : TripsStand s) :
    TripsStand (coolDown p i t s) := by
  unfold coolDown
  split
  · rename_i hcool
    split
    · rename_i htr
      have hnot : s.hot i = false := by rw [hot_iff hp hr]; simp; omega
      have hback := backToControl_trip t (TripsStand.but hs i) (not_outOfRun (hs i).1 (by rw [htr]; simp)) hnot
      refine removeCause_trip (.inl ⟨rfl, ?_⟩) hback
      intro hc
      rcases backToControl_state t i s with h | h <;> rw [hc] at h <;> exact absurd h (by decide)
    · rename_i htr
      exact removeCause_trip (.inl ⟨rfl, htr⟩) hs
  · exact hs

theorem faultTrip_touches (p : ThermalProfile) (i : SocketId) (t : Int) (s : State) :
    Touches retireWork s (faultTrip p i t s) := by
  unfold faultTrip
  exact ite_touches ((addCause_touches _ i s).comp (failRecord_touches i _ _ _)) (Touches.refl _ s)

/-- After the test a socket in SENSOR-FAULT whose reading is hot carries THERMAL. -/
theorem faultTrip_thermal (hp : (s.zone (zoneOf i)).thermProf = some p) (hr : (s.sock i).therm.reading = some t)
    (hst : ((faultTrip p i t s).sock i).therm.state ≠ .off) (hhot : (faultTrip p i t s).hot i = true) :
    ((faultTrip p i t s).sock i).rail.inhibit.thermal = true := by
  have hot_of : ∀ u : State, (∀ z, (u.zone z).thermProf = (s.zone z).thermProf) →
      (u.sock i).therm.reading = (s.sock i).therm.reading → u.hot i = true → p.limit ≤ t := by
    intro u h1 h2 h
    rw [hot_iff ((h1 _).trans hp) (h2.trans hr)] at h
    simpa using h
  unfold faultTrip at hst hhot ⊢
  split at hst
  · rename_i hlim
    rw [if_pos hlim] at hhot ⊢
    have h1 := addCause_touches .thermal i s
    obtain h2 | ⟨r, e, h2⟩ := failRecord_or i .thermalTrip (.reading t) (addCause .thermal i s)
    · rw [h2.inhibit i, addCause_inhibit, if_pos rfl]; rfl
    · rw [h2] at hst
      exact absurd (retire_off i e _) hst
  · rename_i hlim
    rw [if_neg hlim] at hhot ⊢
    have := hot_of s (fun _ => rfl) rfl hhot
    by_contra hc
    exact hlim ⟨this, by simpa using hc⟩

/-- A socket that ends its SENSOR-FAULT: TRIPPED where THERMAL stands, and back to control where it does not. -/
def recovered (i : SocketId) (t : Int) (s : State) : State :=
  if (s.sock i).rail.inhibit.thermal then modTherm i (fun k => { k with state := .tripped }) s else backToControl t i s

theorem recoveryTest_eq (i : SocketId) (t : Int) (s : State) : recoveryTest i t s =
    if (s.sock i).therm.state = .sensorFault ∧ (s.sock i).therm.goodRun = 4 then
      removeCause .sensor i (sendRoutine (.socket i) (.sensorOk t) (recovered i t s)) else s := rfl

theorem recovered_touches (t : Int) (h : (s.sock i).therm.state = .sensorFault) :
    Touches [.therm, .law .trip] s (recovered i t s) := by
  unfold recovered
  split
  · have h1 := (modTherm_touches i (fun k => { k with state := .tripped }) s).keep
      (l := [.therm, .law .share, .law .final, .law .hold, .law .trip])
      (modTherm_heat (.inl fun _ => ⟨by rw [h]; rfl, rfl, rfl⟩))
    have h1 := h1.keep (l := [.therm, .law .final, .law .hold, .law .trip]) (modTherm_share le_rfl)
    exact (h1.keep (l := [.therm, .law .hold, .law .trip]) (modTherm_final fun hoff => absurd (h.symm.trans hoff) (by simp))).keep
      (modTherm_hold fun h => absurd h (by simp [ThermalState.control]))
  · exact backToControl_touches t (.inr h)

theorem recovered_state (t : Int) : ((recovered i t s).sock i).therm.state ≠ .sensorFault := by
  unfold recovered
  split
  · rw [modTherm_therm, if_pos rfl]; simp
  · intro hc
    rcases backToControl_state t i s with h | h <;> rw [hc] at h <;> exact absurd h (by decide)

theorem recovered_trip (t : Int) (h : (s.sock i).therm.state = .sensorFault)
    (hthermal : s.hot i = true → (s.sock i).rail.inhibit.thermal = true) (hs : TripsStand s) :
    TripsStand (recovered i t s) := by
  have hin := not_outOfRun (hs i).1 (by rw [h]; simp)
  unfold recovered
  split
  · rename_i hth
    exact modTherm_trip rfl (fun _ => ⟨⟨fun _ => hth, fun h => absurd h (by simp), fun h => absurd h (by simp),
      fun h => absurd h hin⟩, fun _ => ⟨rfl, by simp⟩⟩) hs
  · rename_i hth
    exact backToControl_trip t (TripsStand.but hs i) hin (by
      by_contra hc
      exact hth (hthermal (by simpa using hc)))

theorem recoveryTest_touches (i : SocketId) (t : Int) (s : State) :
    Touches (.therm :: railWork ++ [.law .trip]) s (recoveryTest i t s) := by
  rw [recoveryTest_eq]
  split
  · rename_i h
    exact (recovered_touches t h.1).comp ((sendRoutine_touches _ _ _).comp
      (removeCause_touches (c := .sensor) (.inr (.inr rfl)) i _) (n := railWork ++ [.law .trip]))
  · exact Touches.refl _ s

theorem recoveryTest_trip (hthermal : (s.sock i).therm.state ≠ .off → s.hot i = true → (s.sock i).rail.inhibit.thermal = true)
    (hs : TripsStand s) : TripsStand (recoveryTest i t s) := by
  rw [recoveryTest_eq]
  split
  · rename_i h
    have h1 := recovered_trip t h.1 (hthermal (by rw [h.1]; simp)) hs
    have h2 := sendRoutine_touches (.socket i) (.sensorOk t) (recovered i t s)
    exact removeCause_trip (.inr ⟨rfl, by rw [h2.therm i]; exact recovered_state t⟩) (h2.law .trip rfl h1)
  · exact hs

end

/-! ## The heater step -/

/-- The tracking of a step keeps a loop under control, and leaves its reading, duty and grant (R56, R57). -/
theorem track_control (p : ThermalProfile) (r : Int) {t : Thermal} (h : t.state.control = true) :
    (t.track p r).state.control = true ∧ (t.track p r).reading = t.reading ∧ (t.track p r).duty = t.duty ∧
      (t.track p r).grant = t.grant := by
  obtain ⟨st, rd, gs, teff, itg, sat, duty, grant, trim, rating, bad, good, fi, at'⟩ := t
  simp only [Thermal.track]
  simp only at h
  split_ifs <;> split <;> simp_all [ThermalState.control]

/-- The grant of a step is within the headroom that the step had (R64, R72). -/
theorem heat_grant (p : ThermalProfile) (r : Int) (power : Nat) (h : Int) (t : Thermal) :
    (t.heat p r power h).grant ≤ h.toNat := by
  show stepDuty _ (dutyCap h t.rating) * t.rating / 1000 ≤ h.toNat
  have hduty : ∀ raw : Int, ∀ cap : Nat, stepDuty raw cap ≤ cap := by
    intro raw cap
    unfold stepDuty clampInt
    omega
  have hle := hduty (rawDuty p t.teff r (stepIntegral t.sat t.integral (stepInc p.ki (stepError t.teff r))) power)
    (dutyCap h t.rating)
  unfold dutyCap at hle ⊢
  split_ifs at hle ⊢ with hpos
  · rw [Nat.le_zero.mp hle]; simp
  · have h1 := le_trans hle (min_le_right _ _)
    have h2 := Nat.mul_le_mul_right t.rating h1
    have h3 := le_trans h2 (Nat.div_mul_le_self (h.toNat * 1000) t.rating)
    exact Nat.div_le_of_le_mul (by rw [Nat.mul_comm 1000]; exact h3)

/-- The grants of a zone: one socket's and the others'. -/
theorem grantSum_split (i : SocketId) (s : State) : s.grantSum (zoneOf i) =
    (s.sock i).therm.grant + (((zoneSockets (zoneOf i)).filter (· != i)).map fun j => (s.sock j).therm.grant).sum := by
  have hsplit : ∀ (l : List SocketId) (g : SocketId → Nat), l.Nodup → i ∈ l →
      (l.map g).sum = g i + ((l.filter (· != i)).map g).sum := by
    intro l g
    induction l with
    | nil => intro _ h; exact absurd h (by simp)
    | cons a l ih =>
      intro hl hi
      obtain ⟨ha, hl⟩ := List.nodup_cons.mp hl
      by_cases hai : a = i
      · subst hai
        have hfl : l.filter (· != a) = l := List.filter_eq_self.mpr fun b hb => by
          simpa using fun h : b = a => ha (by rw [← h]; exact hb)
        rw [List.filter_cons_of_neg (by simp), hfl]
        simp
      · have hil : i ∈ l := by
          rcases List.mem_cons.mp hi with h | h
          · exact absurd h.symm hai
          · exact h
        rw [List.filter_cons_of_pos (by simpa using hai), List.map_cons, List.map_cons, List.sum_cons, List.sum_cons,
          ih hl hil]
        omega
  exact hsplit _ (fun j => (s.sock j).therm.grant) (zoneSockets_nodup _) ((mem_zoneSockets _ _).mpr rfl)

section
variable {p : ThermalProfile} {i : SocketId} {r : Int} {s : State}

/-- The heater computation of a step, over the state after its tracking. -/
abbrev heated (p : ThermalProfile) (i : SocketId) (r : Int) (s : State) : State :=
  modTherm i (Thermal.heat p r (s.sock i).rail.power (s.headroom i)) s

theorem heated_share : Law.share.Kept s (heated p i r s) := by
  intro hs z
  have hother : ∀ j ≠ i, ((heated p i r s).sock j).therm.grant = (s.sock j).therm.grant := by
    intro j hj
    rw [modTherm_therm, if_neg hj]
  by_cases hz : z = zoneOf i
  · subst hz
    have h1 := grantSum_split i s
    have h2 := grantSum_split i (heated p i r s)
    have h3 : (((zoneSockets (zoneOf i)).filter (· != i)).map fun j => ((heated p i r s).sock j).therm.grant) =
        ((zoneSockets (zoneOf i)).filter (· != i)).map fun j => (s.sock j).therm.grant :=
      List.map_congr_left fun j hj => hother j (by simpa using (List.mem_filter.mp hj).2)
    have h4 : ((heated p i r s).sock i).therm.grant ≤ (s.headroom i).toNat := by
      rw [modTherm_therm, if_pos rfl]; exact heat_grant ..
    have h5 : s.headroom i = ((s.zone (zoneOf i)).budget : Int) - (s.dutSum (zoneOf i) : Int) -
      ((((zoneSockets (zoneOf i)).filter (· != i)).map fun j => (s.sock j).therm.grant).sum : Int) := rfl
    have h6 := hs (zoneOf i)
    show (heated p i r s).grantSum (zoneOf i) ≤ (s.zone (zoneOf i)).budget
    rw [h2, h3]
    omega
  · refine le_trans (sum_map_le fun j hj => (hother j ?_).le) (hs z)
    rintro rfl
    exact hz ((mem_zoneSockets _ _).mp hj).symm

/-- A change of a loop under control that stays under control and keeps its reading. -/
theorem modTherm_within {f : Thermal → Thermal} (h : (s.sock i).therm.state.control = true)
    (hst : (f (s.sock i).therm).state.control = true) (hread : (f (s.sock i).therm).reading = (s.sock i).therm.reading)
    (hshare : Law.share.Kept s (modTherm i f s)) : Touches [.therm] s (modTherm i f s) := by
  have hne : ∀ x : ThermalState, x.control = true → x ≠ .off ∧ x ≠ .tripped ∧ x ≠ .sensorFault ∧ x ≠ .held := by
    intro x hx; refine ⟨?_, ?_, ?_, ?_⟩ <;> rintro rfl <;> exact absurd hx (by decide)
  obtain ⟨ho, -, -, -⟩ := hne _ h
  obtain ⟨ho', ht', hf', -⟩ := hne _ hst
  have h1 := (modTherm_touches i f s).keep (l := [.therm, .law .share, .law .final, .law .hold, .law .trip])
    (modTherm_heat (.inl fun hc => absurd (hst.symm.trans hc) (by decide)))
  have h1 := h1.keep (l := [.therm, .law .final, .law .hold, .law .trip]) hshare
  have h1 := h1.keep (l := [.therm, .law .hold, .law .trip]) (modTherm_final fun hoff => absurd hoff ho)
  have h1 := h1.keep (l := [.therm, .law .trip]) (modTherm_hold fun _ => .inl h)
  exact h1.keep (modTherm_trip hread fun hfit => ⟨⟨fun h => absurd h ht', fun h => absurd h hf', fun h => absurd h ho',
    fun hm => absurd (hfit.1.2.2.2 hm).2 ho⟩, fun hh => absurd (h.symm.trans (hfit.2 hh).1) (by decide)⟩)

/-- The step's state after its tracking, with COLD let go at an entry to INBAND (R57, R59). -/
def tracked (p : ThermalProfile) (i : SocketId) (r : Int) (s : State) : State :=
  let s1 := modTherm i (Thermal.track p r) s
  if (s.sock i).therm.entersBand p r then
    removeCause .cold i (modTherm i (fun t => { t with firstInband := true }) s1)
  else s1

theorem heaterStep_eq (p : ThermalProfile) (i : SocketId) (r : Int) (s : State) :
    heaterStep p i r s = heated p i r (tracked p i r s) := rfl

theorem tracked_touches (h : (s.sock i).therm.state.control = true) :
    Touches (.therm :: railWork) s (tracked p i r s) := by
  obtain ⟨hc, hread, -, hgrant⟩ := track_control p r h
  have h1 : Touches (.therm :: railWork) s (modTherm i (Thermal.track p r) s) :=
    (modTherm_within h hc hread (modTherm_share hgrant.le)).mono
  have h2 := fun t => (modTherm_aside (i := i) (s := t) (f := fun t => { t with firstInband := true }) rfl rfl rfl rfl).comp
    (removeCold_touches i _) (n := .therm :: railWork)
  unfold tracked
  exact ite_touches (h1.trans (h2 _)) h1

theorem tracked_control (h : (s.sock i).therm.state.control = true) :
    ((tracked p i r s).sock i).therm.state.control = true := by
  obtain ⟨hc, -, -, -⟩ := track_control p r h
  have h1 : ((modTherm i (Thermal.track p r) s).sock i).therm = Thermal.track p r (s.sock i).therm := by
    rw [modTherm_therm, if_pos rfl]
  unfold tracked
  split
  · rw [(removeCold_touches i _).therm i, modTherm_therm, if_pos rfl, h1]
    exact hc
  · rw [h1]; exact hc

theorem heaterStep_touches (p : ThermalProfile) (r : Int) (h : (s.sock i).therm.state.control = true) :
    Touches (.therm :: railWork) s (heaterStep p i r s) := by
  have hc := tracked_control (p := p) (r := r) h
  rw [heaterStep_eq]
  exact (tracked_touches h).comp (modTherm_within (f := Thermal.heat p r _ _) hc hc rfl heated_share)

/-! ## Every reading -/

variable {t : Int}

theorem handleReading_touches (p : ThermalProfile) (i : SocketId) (t : Int) (s : State) :
    Touches (retireWork ++ [.law .trip]) s (handleReading p i t s) := by
  have hctl : (s.sock i).therm.state.control = true → Touches (retireWork ++ [.law .trip]) s
      (if p.limit ≤ t then thermalTrip i t s else heaterStep p i t s) := fun h =>
    ite_touches (thermalTrip_touches t (by intro hc; rw [hc] at h; exact absurd h (by decide)))
      (heaterStep_touches p t h).mono
  unfold handleReading
  split
  case h_1 | h_2 => exact (coolDown_touches p i s t).mono
  case h_3 h | h_4 h | h_5 h => exact hctl (by rw [h]; rfl)
  case h_6 h => exact ite_touches (thermalTrip_touches t (by rw [h]; simp)) (Touches.refl _ s)
  case h_7 => exact (faultTrip_touches p i t s).comp (recoveryTest_touches i t _)

theorem tripsStand_of_else (helse : TripsElse i s) (hi : CausesStand s i)
    (hhot : s.hot i = true → (s.sock i).therm.state.control = false ∧ (s.sock i).therm.state ≠ .held) : TripsStand s := by
  intro j
  by_cases hj : j = i
  · subst hj; exact ⟨hi, hhot⟩
  · exact helse j hj

theorem handleReading_trip (hp : (s.zone (zoneOf i)).thermProf = some p) (hr : (s.sock i).therm.reading = some t)
    (helse : TripsElse i s) (hi : CausesStand s i) : TripsStand (handleReading p i t s) := by
  have hhot := hot_iff hp hr
  have hstands : ∀ st, (s.sock i).therm.state = st → st.control = false → st ≠ .held → TripsStand s :=
    fun st h1 h2 h3 => tripsStand_of_else helse hi fun _ => by rw [h1]; exact ⟨h2, h3⟩
  have htrip : (s.sock i).therm.state ≠ .off → TripsStand (thermalTrip i t s) :=
    fun h => thermalTrip_trip t helse (not_outOfRun hi h)
  have hcool : ¬ p.limit ≤ t → TripsStand s := fun h => tripsStand_of_else helse hi fun hc => by
    rw [hhot] at hc; exact absurd (by simpa using hc) h
  have hctl : (s.sock i).therm.state.control = true →
      TripsStand (if p.limit ≤ t then thermalTrip i t s else heaterStep p i t s) := by
    intro h
    split
    · exact htrip (by intro hc; rw [hc] at h; exact absurd h (by decide))
    · rename_i hlt; exact (heaterStep_touches p t h).law .trip rfl (hcool hlt)
  unfold handleReading
  split
  case h_1 h => exact coolDown_trip hp hr (hstands _ h rfl (by simp))
  case h_2 h => exact coolDown_trip hp hr (hstands _ h rfl (by simp))
  case h_3 h | h_4 h | h_5 h => exact hctl (by rw [h]; rfl)
  case h_6 h =>
    split
    · exact htrip (by rw [h]; simp)
    · rename_i hlt; exact hcool hlt
  case h_7 h =>
    refine recoveryTest_trip (fun hst hh => faultTrip_thermal hp hr hst hh) ?_
    exact (faultTrip_touches p i t s).law .trip rfl (hstands _ h rfl (by simp))

theorem goodReading_touches (i : SocketId) (t : Int) (s : State) : Touches retireWork s (goodReading i t s) := by
  have h1 := storeReading_touches i t s
  cases hp : (s.zone (zoneOf i)).thermProf with
  | none =>
    rw [goodReading_unset hp]
    refine (h1.keep (x := .trip) (l := [.therm]) fun hs => ?_).mono
    obtain ⟨helse, hi⟩ := storeReading_trip t hs
    refine tripsStand_of_else helse hi fun hh => ?_
    unfold State.hot at hh
    rw [h1.thermProf, hp] at hh
    exact absurd hh (by simp)
  | some p =>
    rw [goodReading_set hp]
    have h2 : Touches (retireWork ++ [.law .trip]) s (handleReading p i t (storeReading i t s)) :=
      h1.comp (handleReading_touches p i t _)
    refine h2.keep (x := .trip) fun hs => ?_
    obtain ⟨helse, hi⟩ := storeReading_trip t hs
    exact handleReading_trip ((h1.thermProf _).trans hp) (by rw [storeReading_therm]; rfl) helse hi

end

/-! ## Heartbeats -/

theorem validEdge_touches (i : SocketId) (h : HbPart) (s : State) : Touches [.live] s (validEdge i h s) :=
  ((modLive_touches i _ s).comp (startHb_touches i _ _ _))

theorem hbApply_touches (d : Disp) (i : SocketId) (s : State) : Touches [.live, .checked] s (hbApply d i s) := by
  cases d with
  | count => exact (waitOrIdle_touches i s).mono
  | reset => exact resetCycle_touches i s
  | retire => exact (stopHb_touches i _ s).mono

theorem hbFailure_touches (i : SocketId) (k : FailKind) (d : Detail) (s : State) :
    Touches retireWork s (hbFailure i k d s) := by
  have h1 := (hbApply_touches (s.disposition k) i s).mono (m := retireWork)
  have h2 := fun n x t => recordWith_touches i k d n x t
  unfold hbFailure
  exact h1.trans ((h2 _ _ _).trans (ite_touches (failRecord_touches i _ _ _) (Touches.refl _ _)))

end Sys2Proof.Proofs.Frames

/-! What the requests and events of the run controller touch, and the laws of the state that they keep. -/

namespace Sys2Proof.Proofs.Frames

open Sys2Proof.Machine Sys2Proof.Safety

/-! ## The heaters under a hold and at the start of a run -/

/-- A state under control is none of the others. -/
theorem control_ne {x : ThermalState} (h : x.control = true) : x ≠ .off ∧ x ≠ .tripped ∧ x ≠ .sensorFault ∧ x ≠ .held := by
  cases x <;> simp_all [ThermalState.control]

theorem thermHold_therm (i j : SocketId) (s : State) : ((thermHold i s).sock j).therm =
    if j = i ∧ (s.sock i).life = .stressing ∧ (s.sock i).therm.state.control = true then
      { (s.sock i).therm.cut with state := .held } else (s.sock j).therm := by
  unfold thermHold
  by_cases h : (s.sock i).life = .stressing ∧ (s.sock i).therm.state.control = true
  · rw [if_pos h, modTherm_therm]
    by_cases hj : j = i
    · rw [if_pos hj, if_pos ⟨hj, h⟩]
    · rw [if_neg hj, if_neg fun g => hj g.1]
  · rw [if_neg h, if_neg fun g => h g.2]

theorem thermHold_touches (i : SocketId) (s : State) : Touches [.therm] s (thermHold i s) := by
  unfold thermHold
  split
  · rename_i h
    obtain ⟨-, hc⟩ := h
    obtain ⟨hoff, -, -, -⟩ := control_ne hc
    have h1 : Touches [.therm, .law .final, .law .trip] s (modTherm i (fun t => { t.cut with state := .held }) s) :=
      modTherm_cut ⟨rfl, rfl⟩ rfl
    refine (h1.keep (l := [.therm, .law .trip]) (modTherm_final fun h => absurd h hoff)).keep (modTherm_trip rfl fun hfit => ?_)
    exact ⟨⟨fun h => absurd h (by simp), fun h => absurd h (by simp), fun h => absurd h (by simp),
      fun hm => absurd (hfit.1.2.2.2 hm).2 hoff⟩, fun hh => absurd (hc.symm.trans (hfit.2 hh).1) (by decide)⟩
  · exact Touches.refl _ s

/-- Teff at an entry to APPROACH with no reading of its own: the last one, or the target (R55, R58). -/
def approachTeff (p : Option ThermalProfile) (k : Thermal) : Int :=
  k.reading.getD ((p.map fun p => targetOf p k.trim).getD k.teff)

theorem approachFromLast_eq (i : SocketId) (s : State) : approachFromLast i s = modTherm i (fun k =>
    { k with state := .approach, teff := approachTeff (s.zone (zoneOf i)).thermProf (s.sock i).therm }) s := rfl

theorem thermResume_therm (i j : SocketId) (s : State) : ((thermResume i s).sock j).therm =
    if j = i ∧ (s.sock i).therm.state = .held then
      { (s.sock i).therm with
        state := .approach, teff := approachTeff (s.zone (zoneOf i)).thermProf (s.sock i).therm }
    else (s.sock j).therm := by
  unfold thermResume
  by_cases h : (s.sock i).therm.state = .held
  · rw [if_pos h, approachFromLast_eq, modTherm_therm]
    by_cases hj : j = i
    · rw [if_pos hj, if_pos ⟨hj, h⟩]
    · rw [if_neg hj, if_neg fun g => hj g.1]
  · rw [if_neg h, if_neg fun g => h g.2]

theorem thermResume_touches (i : SocketId) (s : State) : Touches [.therm, .law .hold] s (thermResume i s) := by
  unfold thermResume
  split
  · rename_i h
    rw [approachFromLast_eq]
    refine (modTherm_control rfl le_rfl).keeps [.final, .trip] ?_
    simp only [List.forall_mem_cons, List.not_mem_nil, false_imp_iff, implies_true, and_true]
    refine ⟨modTherm_final fun hoff => absurd (h.symm.trans hoff) (by decide), modTherm_trip rfl fun hfit => ?_⟩
    exact ⟨⟨fun h => absurd h (by simp), fun h => absurd h (by simp), fun h => absurd h (by simp),
      fun hm => absurd (h.symm.trans (hfit.1.2.2.2 hm).2) (by decide)⟩, fun hh => absurd h (hfit.2 hh).2⟩
  · exact Touches.refl _ s

/-- The heater loop of a declared socket after RUN-START, by the causes found (R55). -/
def startedTherm (trip dead : Bool) (teff : Int) (k : Thermal) : Thermal :=
  if trip then { k.cut with firstInband := false, integral := 0, state := .tripped }
  else if dead then { k.cut with firstInband := false, integral := 0, state := .sensorFault }
  else { k with firstInband := false, integral := 0, state := .approach, teff := teff }

theorem thermStart_therm (i j : SocketId) (s : State) : ((thermStart i s).sock j).therm =
    if j = i then startedTherm (s.startTripped i) (s.startDead i)
      (approachTeff (s.zone (zoneOf i)).thermProf (s.sock i).therm) (s.sock i).therm else (s.sock j).therm := by
  simp only [thermStart, startedTherm]
  by_cases hj : j = i
  · subst hj
    rw [if_pos rfl]
    split_ifs
    · unfold heaterDown
      simp only [modTherm_therm]
      rfl
    · unfold heaterDown
      simp only [modTherm_therm]
      rfl
    · rw [approachFromLast_eq]
      simp only [modTherm_therm]
      rfl
  · rw [if_neg hj]
    split_ifs
    · unfold heaterDown
      simp only [modTherm_therm, if_neg hj]
    · unfold heaterDown
      simp only [modTherm_therm, if_neg hj]
    · rw [approachFromLast_eq]
      simp only [modTherm_therm, if_neg hj]

theorem startedTherm_state (trip dead : Bool) (teff : Int) (k : Thermal) :
    (startedTherm trip dead teff k).reading = k.reading ∧ (startedTherm trip dead teff k).state =
      if trip then .tripped else if dead then .sensorFault else .approach := by
  unfold startedTherm
  split_ifs <;> exact ⟨rfl, rfl⟩

theorem thermStart_touches (i : SocketId) (s : State) :
    Touches [.therm, .law .final, .law .hold, .law .trip] s (thermStart i s) := by
  have h1 : Touches [.therm, .law .final, .law .hold, .law .trip] s
      (modTherm i (fun t => { t with firstInband := false, integral := 0 }) s) :=
    (modTherm_aside rfl rfl rfl rfl).mono
  have hdown : ∀ st : ThermalState, st.control = false → ∀ t,
      Touches [.therm, .law .final, .law .hold, .law .trip] t (heaterDown st i t) :=
    fun st hst t => (modTherm_cut ⟨rfl, rfl⟩ hst).mono
  unfold thermStart
  refine h1.trans (ite_touches (hdown _ rfl _) (ite_touches (hdown _ rfl _) ?_))
  rw [approachFromLast_eq]
  exact modTherm_control rfl le_rfl

/-! ## A loop whose turns are each socket's own -/

/-- A reading that each turn of a loop changes at its own index alone, and by nothing that another turn changes: after the
loop every index of it reads as its own turn alone leaves it. -/
theorem forEach_own {ι α : Type} [DecidableEq ι] {g : State → ι → α} {f : ι → State → State} {P : State → Prop}
    (hP : ∀ i s, P s → P (f i s)) (helse : ∀ i s j, j ≠ i → g (f i s) j = g s j)
    (hown : ∀ i a s, P s → i ≠ a → g (f i (f a s)) i = g (f i s) i) : ∀ (l : List ι), l.Nodup → ∀ s, P s → ∀ j,
    g (forEach l f s) j = if j ∈ l then g (f j s) j else g s j := by
  intro l
  induction l with
  | nil => intro _ s _ j; simp
  | cons a l ih =>
    intro hl s hs j
    obtain ⟨ha, hl⟩ := List.nodup_cons.mp hl
    rw [forEach_cons, ih hl _ (hP a s hs)]
    by_cases hja : j = a
    · subst hja; simp [ha]
    · rw [hown j a s hs hja, helse a s j hja]
      simp [hja]

theorem startTherms_therm (l : List SocketId) (hl : l.Nodup) (s : State) (j : SocketId) :
    ((forEach l thermStart s).sock j).therm = if j ∈ l then startedTherm (s.startTripped j) (s.startDead j)
      (approachTeff (s.zone (zoneOf j)).thermProf (s.sock j).therm) (s.sock j).therm else (s.sock j).therm := by
  have hother : ∀ i a t, i ≠ a → ((thermStart a t).sock i).therm = (t.sock i).therm :=
    fun i a t h => by rw [thermStart_therm, if_neg h]
  have h := forEach_own (g := fun t j => (t.sock j).therm) (f := thermStart) (P := fun _ => True) (fun _ _ _ => trivial)
    (fun i t j hj => hother j i t hj) (fun i a t _ hia => by
      have ht := thermStart_touches a t
      have hhot : (thermStart a t).hot i = t.hot i := hot_congr ht.thermProf (by rw [hother i a t hia])
      have htrip : (thermStart a t).startTripped i = t.startTripped i := by
        unfold State.startTripped; rw [hhot, ht.inhibit i]
      have hdead : (thermStart a t).startDead i = t.startDead i := by
        unfold State.startDead; rw [htrip, hother i a t hia]
      simp only [thermStart_therm, htrip, hdead, ht.thermProf, if_neg hia]) l hl s trivial j
  rw [h, thermStart_therm, if_pos rfl]

/-! ## Changes of the run state and the hold causes while a run is started -/

/-- The run state and the hold causes, and nothing else of the run controller. -/
def heldAs (x : RunState) (h : Holds) : State → State := modRun fun r => { r with state := x, holds := h }

theorem heldAs_plain (x : RunState) (h : Holds) (s : State) : Touches (closed [.runState]) s (heldAs x h s) :=
  board_touches rfl rfl fun p hp hlaw => by
    cases p with
    | runState => exact absurd hp (by decide)
    | law y => exact absurd rfl (hlaw y)
    | _ => simp [BoardSame, heldAs]

theorem heldAs_touches {x : RunState} {h : Holds} {s : State} (hs : s.started = true)
    (hx : x = .active ∧ h.host = false ∧ h.permit = false ∨ x = .held ∧ (h.host = true ∨ h.permit = true)) :
    Touches [.runState, .law .hold] s (heldAs x h s) := by
  have hst : (heldAs x h s).started = true := by
    unfold State.started
    rcases hx with ⟨hx, -⟩ | ⟨hx, -⟩ <;> simp [heldAs, hx]
  have hrec : (heldAs x h s).run.record = s.run.record := rfl
  have hpast : ¬ ((heldAs x h s).run.state = .idle ∨ (heldAs x h s).run.state = .ready) := by
    rcases hx with ⟨hx, -⟩ | ⟨hx, -⟩ <;> simp [heldAs, hx]
  have hse : (heldAs x h s).started = s.started := hst.trans hs.symm
  refine (heldAs_plain x h s).keeps [.runTable, .limit, .fresh, .trip, .runs, .places, .port] ?_
  simp only [List.forall_mem_cons, List.not_mem_nil, false_imp_iff, implies_true, and_true]
  refine ⟨fun ⟨h1, _, h3, _⟩ => ⟨?_, ?_, ?_, fun hp => absurd hp hpast⟩, fun ⟨h1, h2, _⟩ => ⟨h1, h2, fun hp => absurd hp hpast⟩,
    fun _ hp => absurd hp hpast, ?_, ?_, ?_, ?_⟩
  · rw [hrec, h1]
    refine iff_of_true ?_ fun hi => hpast (.inl hi)
    rintro hi; unfold State.started at hs; rw [hi] at hs; exact absurd hs (by decide)
  · rcases hx with ⟨hx, h1, h2⟩ | ⟨hx, h1⟩
    · simp [heldAs, hx, h1, h2]
    · simp [heldAs, hx, h1]
  · exact iff_of_true (h3.mpr hs) hst
  · intro ht i; unfold CausesStand; rw [hse]; exact ht i
  · intro ht i; unfold OutOfRun; rw [hse]; exact ht i
  · intro ht z; rw [hse]; exact ht z
  · intro ht; unfold PortInv; rw [hse]; exact ht

/-- A hold by the host alone leaves what a PERMIT hold needs. -/
theorem heldAs_hold {x : RunState} {h : Holds} {s : State} (hx : x = .held ∨ h.permit = false)
    (hp : h.permit = true → s.run.holds.permit = true) : Law.hold.Kept s (heldAs x h s) := by
  intro hs hperm
  have hperm' : h.permit = true := hperm
  have hstate : (heldAs x h s).run.state = .held := hx.resolve_right (by simp [hperm'])
  exact ⟨hstate, (hs (hp hperm')).2⟩

theorem holdBlocks_touches (s : State) : Touches [.seq, .chk, .checked, .routine, .live] s (holdBlocks s) :=
  (forEach_touches (fun z _ t => zoneHold_touches z t) s).comp (forEach_touches (fun i _ t => hbHold_touches i t) _)

theorem paused_touches {s : State} (hst : s.run.state = .active) : Touches [.seq, .chk, .checked, .routine, .live, .runState] s
    (runStateNotice false (holdBlocks (heldAs .held { s.run.holds with host := true } s))) := by
  have h1 := (heldAs_touches (x := .held) (h := { s.run.holds with host := true }) (by unfold State.started; rw [hst]; rfl)
    (.inr ⟨rfl, .inl rfl⟩)).keep (l := [.runState]) (heldAs_hold (.inl rfl) fun h => h)
  exact h1.comp ((holdBlocks_touches _).comp (runStateNotice_routine_touches _) (n := [.seq, .chk, .checked, .routine, .live]))

theorem pausedAgain_touches {s : State} (hst : s.run.state = .held) : Touches [.routine, .runState] s
    (runStateNotice false (modRun (fun r => { r with holds := { r.holds with host := true } }) s)) := by
  have heq : modRun (fun r => { r with holds := { r.holds with host := true } }) s =
      heldAs .held { s.run.holds with host := true } s := by
    simp only [modRun, heldAs, ← hst]
  have h1 := (heldAs_touches (x := .held) (h := { s.run.holds with host := true }) (by unfold State.started; rw [hst]; rfl)
    (.inr ⟨rfl, .inl rfl⟩)).keep (l := [.runState]) (heldAs_hold (.inl rfl) fun h => h)
  rw [heq]
  exact h1.comp (runStateNotice_routine_touches _)

/-- What a hold and its end touch. -/
abbrev holdWork : List Piece :=
  [.railState, .inhibit, .timers, .queue, .power, .armed, .urgent, .routine, .live, .checked, .context, .therm, .seq,
    .chk, .port, .runState]

/-- The rails of a run that lost its permit, and its heaters after that (R14, R58). -/
def permitRails (s : State) : State :=
  changeInhibits (allSockets.filter fun i => (s.sock i).life == .stressing) (fun _ => Inhibit.put .permit true)
    (heldAs .held { s.run.holds with permit := true } s)

def permitHeaters (s : State) : State := forEach allSockets thermHold (permitRails s)

theorem permitLost_eq (s : State) : permitLost s =
    if s.run.state = .active ∨ (s.run.state = .held ∧ s.run.holds.permit = false) then
      runStateNotice true (if s.run.state = .active then holdBlocks (permitHeaters s) else permitHeaters s)
    else s := rfl

theorem permitRails_touches (s : State) :
    Touches railWork (heldAs .held { s.run.holds with permit := true } s) (permitRails s) := by
  have hret : ∀ c, Retains (Inhibit.has c) (Inhibit.put .permit true) := retains_put_true .permit
  refine (changeInhibits_touches _ _ _).keeps [.demand, .final, .hold, .trip, .runs] ?_
  simp only [List.forall_mem_cons, List.not_mem_nil, false_imp_iff, implies_true, and_true]
  exact ⟨fun M X => changeInhibits_demands fun _ _ _ => hret .run, changeInhibits_final fun _ => hret .final,
    changeInhibits_hold fun _ => hret .permit, changeInhibits_trip (fun _ => hret .run) (fun _ => hret .thermal)
    (fun _ => hret .sensor) (fun _ => hret .final), changeInhibits_runs fun _ => hret .run⟩

theorem permitHeaters_touches (s : State) : Touches [.therm] (permitRails s) (permitHeaters s) :=
  forEach_touches (fun i _ t => thermHold_touches i t) _

/-- The heaters of a run that lost its permit: those under stress and under control are held. -/
theorem permitHeaters_therm (s : State) (j : SocketId) : ((permitHeaters s).sock j).therm =
    if (s.sock j).life = .stressing ∧ (s.sock j).therm.state.control = true then
      { (s.sock j).therm.cut with state := .held } else (s.sock j).therm := by
  have hr := permitRails_touches s
  have h0 := heldAs_plain .held { s.run.holds with permit := true } s
  unfold permitHeaters
  rw [forEach_own (g := fun t j => (t.sock j).therm) (f := thermHold) (P := fun _ => True) (fun _ _ _ => trivial)
    (fun i t j hj => by rw [thermHold_therm, if_neg fun g => hj g.1]) (fun i a t _ hia => by
      have hl := (thermHold_touches a t).life i
      have ht : ((thermHold a t).sock i).therm = (t.sock i).therm := by
        rw [thermHold_therm, if_neg fun g => hia g.1]
      simp only [thermHold_therm i i, hl, ht]) _ allSockets_nodup _ trivial, if_pos (mem_allSockets j), thermHold_therm,
    hr.life j, hr.therm j, h0.life j, h0.therm j]
  simp only [true_and]

theorem permitRails_inhibit (s : State) (j : SocketId) : ((permitRails s).sock j).rail.inhibit =
    if (s.sock j).life = .stressing then (s.sock j).rail.inhibit.put .permit true else (s.sock j).rail.inhibit := by
  have h0 := heldAs_plain .held { s.run.holds with permit := true } s
  unfold permitRails
  rw [changeInhibits_inhibit _ _ _ (allSockets_nodup.filter _), h0.inhibit j]
  simp [mem_allSockets]

theorem permitLost_touches (s : State) : Touches holdWork s (permitLost s) := by
  rw [permitLost_eq]
  refine ite_touches_of (fun hst => ?_) fun _ => Touches.refl _ s
  have hstarted : s.started = true := by
    unfold State.started
    rcases hst with h | ⟨h, -⟩ <;> rw [h] <;> rfl
  have h1 := (heldAs_touches (x := .held) (h := { s.run.holds with permit := true }) hstarted (.inr ⟨rfl, .inr rfl⟩)).mono
    (m := holdWork ++ [.law .hold])
  have h2 := (permitRails_touches s).mono (m := holdWork ++ [.law .hold])
  have h3 := (permitHeaters_touches s).mono (m := holdWork ++ [.law .hold])
  have h4 : Touches [.urgent, .routine, .seq, .chk, .checked, .live] (permitHeaters s)
      (runStateNotice true (if s.run.state = .active then holdBlocks (permitHeaters s) else permitHeaters s)) :=
    (ite_touches (holdBlocks_touches _) (Touches.refl _ _)).comp (runStateNotice_touches true _)
  refine ((h1.trans (h2.trans h3)).trans h4.mono).keep (x := .hold) fun _ => h4.law .hold rfl fun _ => ⟨?_, fun j hj => ?_⟩
  · rw [(permitHeaters_touches s).runState, (permitRails_touches s).runState]
    rfl
  · rw [(permitHeaters_touches s).life j, (permitRails_touches s).life j] at hj
    have hj : (s.sock j).life = .stressing := hj
    rw [permitHeaters_therm, (permitHeaters_touches s).inhibit j, permitRails_inhibit, if_pos hj]
    refine ⟨rfl, ?_⟩
    split
    · rfl
    · rename_i hc; simpa [hj] using hc

/-- The rails of a run whose PERMIT hold ended, and its heaters after that (R15, R58). -/
def freedRails (x : RunState) (h : Holds) (s : State) : State :=
  changeInhibits allSockets (fun _ => Inhibit.put .permit false) (heldAs x h s)

def freedHeaters (x : RunState) (h : Holds) (s : State) : State := forEach allSockets thermResume (freedRails x h s)

theorem freedRails_touches (x : RunState) (h : Holds) (s : State) :
    Touches (railWork ++ [.law .hold]) (heldAs x h s) (freedRails x h s) := by
  have hret : ∀ c : Cause, c ≠ .permit → Retains (Inhibit.has c) (Inhibit.put .permit false) :=
    fun c hc => retains_put_false hc
  refine (changeInhibits_touches _ _ _).keeps [.demand, .final, .trip, .runs] ?_
  simp only [List.forall_mem_cons, List.not_mem_nil, false_imp_iff, implies_true, and_true]
  exact ⟨fun M X => changeInhibits_demands fun _ _ _ => hret .run (by simp), changeInhibits_final fun _ => hret .final (by simp),
    changeInhibits_trip (fun _ => hret .run (by simp)) (fun _ => hret .thermal (by simp))
    (fun _ => hret .sensor (by simp)) (fun _ => hret .final (by simp)), changeInhibits_runs fun _ => hret .run (by simp)⟩

theorem freedHeaters_touches (x : RunState) (h : Holds) (s : State) :
    Touches [.therm, .law .hold] (freedRails x h s) (freedHeaters x h s) :=
  forEach_touches (fun i _ t => thermResume_touches i t) _

/-- What RUN-RESUME does to zones and heartbeats once no cause stands (R15, R115, R147). -/
def resumeBlocks (s : State) : State := forEach allSockets hbResume (forEach allZones zoneResume s)

theorem resumeBlocks_touches (s : State) : Touches (.live :: passWork) s (resumeBlocks s) :=
  (forEach_touches (fun z _ t => zoneResume_touches z t) s).comp (forEach_touches (fun i _ t => hbResume_touches i t) _)

/-- The run state that RUN-RESUME leaves (R15). -/
def resumedState (s : State) : RunState := if s.run.resumed.permit then .held else .active

/-- Rails and heaters after RUN-RESUME: touched where PERMIT left the hold causes. -/
def resumedHeaters (s : State) : State :=
  if s.run.holds.permit && !s.run.resumed.permit then freedHeaters (resumedState s) s.run.resumed s
  else heldAs (resumedState s) s.run.resumed s

theorem resumeRun_eq (s : State) : resumeRun s =
    if s.run.holds = s.run.resumed then
      (if !s.run.resumed.permit then resumeBlocks (resumedHeaters s) else resumedHeaters s)
    else runStateNotice false
      (if !s.run.resumed.permit then resumeBlocks (resumedHeaters s) else resumedHeaters s) := by
  have hstate : (if !s.run.resumed.permit then RunState.active else .held) = resumedState s := by
    unfold resumedState; cases s.run.resumed.permit <;> rfl
  simp only [resumeRun, hstate]
  rfl

theorem resumedHeaters_touches {s : State} (hst : s.run.state = .held) : Touches holdWork s (resumedHeaters s) := by
  have hstarted : s.started = true := by unfold State.started; rw [hst]; rfl
  have h1 : Touches [.runState, .law .hold] s (heldAs (resumedState s) s.run.resumed s) := heldAs_touches hstarted (by
    unfold resumedState
    cases h : s.run.resumed.permit
    · exact .inl ⟨rfl, rfl, rfl⟩
    · exact .inr ⟨rfl, .inr rfl⟩)
  unfold resumedHeaters
  refine ite_touches_of (fun hfree => ?_) fun _ => ?_
  · have h2 := (freedRails_touches (resumedState s) s.run.resumed s).mono (m := holdWork ++ [.law .hold])
    have h3 := (freedHeaters_touches (resumedState s) s.run.resumed s).mono (m := holdWork ++ [.law .hold])
    refine ((h1.mono (m := holdWork ++ [.law .hold])).trans (h2.trans h3)).keep (x := .hold) fun _ hp => ?_
    rw [(freedHeaters_touches _ _ s).holds, (freedRails_touches _ _ s).holds] at hp
    have hp : s.run.resumed.permit = true := hp
    simp [hp] at hfree
  · refine (h1.keep (l := [.runState]) (heldAs_hold ?_ fun h => ?_)).mono
    · unfold resumedState
      cases s.run.resumed.permit <;> simp
    · have h : (s.run.holds.permit && !s.run.permitValid) = true := h
      exact ((Bool.and_eq_true _ _).mp h).1

theorem resumeRun_touches {s : State} (hst : s.run.state = .held) : Touches holdWork s (resumeRun s) := by
  have h1 := resumedHeaters_touches hst
  have h2 := (resumeBlocks_touches (resumedHeaters s)).mono (m := holdWork)
  have h3 := fun t => (runStateNotice_touches false t).mono (m := holdWork)
  have h := h1.trans (ite_touches (c := (!s.run.resumed.permit) = true) h2 (Touches.refl _ _))
  rw [resumeRun_eq]
  exact ite_touches h (h.trans (h3 _))

/-! ## The start of a run -/

section
variable {r : RunRecord} {s : State}

/-- The run controller itself when a run starts, and the sockets that come under stress (R10, R11). -/
def runBegun (s : State) : State :=
  modRun (fun k => { k with state := .active, clock := 0, acctTimer := some (afterMs 1000 s) }) s

def stressBegun (s : State) : State :=
  forEach (allSockets.filter s.declared) (fun i => modSock i fun k => { k with life := .stressing }) (runBegun s)

/-- The heaters, and then the rails, of the sockets that come under stress (R11, R55). -/
def heatersPlaced (s : State) : State :=
  forEach (allSockets.filter s.declared) thermStart (runStateNotice false (stressBegun s))

def railsPlaced (r : RunRecord) (s : State) : State :=
  changeInhibits (allSockets.filter s.declared) (fun i => startInhibit r.powerAtTemp (s.hot i) (s.startDead i))
    (heatersPlaced s)

/-- The records of the sockets found hot or with a dead sensor (R55). -/
def startRecorded (r : RunRecord) (s : State) : State :=
  forEach (allSockets.filter s.declared) (startRecord s) (railsPlaced r s)

theorem startRun_eq (r : RunRecord) (s : State) :
    startRun r s = forEach allZones (zoneStart r) (startRecorded r s) := rfl

theorem runBegun_plain (s : State) : Touches (closed [.runState, .clock]) s (runBegun s) :=
  board_touches rfl rfl fun p hp hlaw => by
    cases p with
    | runState | clock => exact absurd hp (by decide)
    | law x => exact absurd rfl (hlaw x)
    | _ => simp [BoardSame, runBegun]

theorem setStressing_touches (i : SocketId) (s : State) :
    Touches (closed [.life]) s (modSock i (fun k => { k with life := .stressing }) s) := setLife_touches i (fun _ => .stressing) s

/-- The laws that a start may break on the way. -/
abbrev startLaws : List Piece :=
  [.law .runTable, .law .limit, .law .fresh, .law .hold, .law .trip, .law .runs, .law .places, .law .port, .law .final,
    .law .accounts, .law .demand]

theorem stressBegun_touches (s : State) : Touches (.life :: .runState :: .clock :: startLaws) s (stressBegun s) :=
  (runBegun_plain s).comp (forEach_touches (fun i _ t => setStressing_touches i t) _)

theorem stressBegun_life (s : State) (i : SocketId) :
    ((stressBegun s).sock i).life = if s.declared i then .stressing else (s.sock i).life := by
  unfold stressBegun
  rw [forEach_at (g := fun t j => (t.sock j).life) (h := fun _ _ => Lifecycle.stressing) (fun i t j => by
    rw [modSock_sock]; split
    · rename_i hj; subst hj; rfl
    · rfl) _ (allSockets_nodup.filter _)]
  simp [mem_allSockets]
  rfl

theorem stressBegun_run (s : State) : (stressBegun s).run =
    { s.run with state := .active, clock := 0, acctTimer := some (afterMs 1000 s) } := by
  have h := forEach_same (l := allSockets.filter s.declared) (g := fun t : State => t.run)
    (f := fun i => modSock i fun k => { k with life := .stressing }) (fun _ _ _ => rfl) (runBegun s)
  exact h

theorem heatersPlaced_touches (s : State) : Touches [.therm, .routine, .law .final, .law .hold, .law .trip]
    (stressBegun s) (heatersPlaced s) :=
  (runStateNotice_routine_touches _).comp (forEach_touches (fun i _ t => thermStart_touches i t) _)

/-- A declared socket's causes at a start are read before it. -/
theorem heatersPlaced_therm (s : State) (i : SocketId) : ((heatersPlaced s).sock i).therm =
    if s.declared i then startedTherm (s.startTripped i) (s.startDead i)
      (approachTeff (s.zone (zoneOf i)).thermProf (s.sock i).therm) (s.sock i).therm else (s.sock i).therm := by
  have h : Touches (.life :: .runState :: .clock :: .routine :: startLaws) s (runStateNotice false (stressBegun s)) :=
    (stressBegun_touches s).comp (runStateNotice_routine_touches _)
  have hhot : (runStateNotice false (stressBegun s)).hot i = s.hot i :=
    hot_congr (h.thermProf ·) (by rw [h.therm i])
  have htrip : (runStateNotice false (stressBegun s)).startTripped i = s.startTripped i := by
    unfold State.startTripped; rw [hhot, h.inhibit i]
  have hdead : (runStateNotice false (stressBegun s)).startDead i = s.startDead i := by
    unfold State.startDead; rw [htrip, h.therm i]
  unfold heatersPlaced
  rw [startTherms_therm _ (allSockets_nodup.filter _), htrip, hdead, h.therm i, h.thermProf]
  simp [mem_allSockets]

theorem railsPlaced_touches (r : RunRecord) (s : State) :
    Touches (railWork ++ inhibitLaws) (heatersPlaced s) (railsPlaced r s) := changeInhibits_touches _ _ _

theorem placed_touches (r : RunRecord) (s : State) :
    Touches (.life :: .runState :: .clock :: .therm :: railWork ++ startLaws) s (railsPlaced r s) :=
  ((stressBegun_touches s).comp (heatersPlaced_touches s)
    (n := .life :: .runState :: .clock :: .therm :: railWork ++ startLaws)).trans (railsPlaced_touches r s).mono

theorem railsPlaced_inhibit (r : RunRecord) (s : State) (i : SocketId) : ((railsPlaced r s).sock i).rail.inhibit =
    if s.declared i then startInhibit r.powerAtTemp (s.hot i) (s.startDead i) (s.sock i).rail.inhibit
    else (s.sock i).rail.inhibit := by
  unfold railsPlaced
  rw [changeInhibits_inhibit _ _ _ (allSockets_nodup.filter _), (heatersPlaced_touches s).inhibit i,
    (stressBegun_touches s).inhibit i]
  simp [mem_allSockets]

theorem railsPlaced_run (r : RunRecord) (s : State) : (railsPlaced r s).run.state = .active ∧
    (railsPlaced r s).run.holds = s.run.holds ∧ (railsPlaced r s).run.record = s.run.record ∧
    (railsPlaced r s).run.acctTimer.isSome = true := by
  have h2 := heatersPlaced_touches s
  have h3 := railsPlaced_touches r s
  rw [h3.runState, h3.holds, h3.record, h3.acctTimer, h2.runState, h2.holds, h2.record, h2.acctTimer, stressBegun_run]
  exact ⟨rfl, rfl, rfl, rfl⟩

theorem railsPlaced_started (r : RunRecord) (s : State) : (railsPlaced r s).started = true := by
  unfold State.started; rw [(railsPlaced_run r s).1]; rfl

theorem startRecord_touches (s0 : State) (i : SocketId) (s : State) : Touches retireWork s (startRecord s0 i s) := by
  unfold startRecord
  exact ite_touches (failRecord_touches i _ _ s) (ite_touches (failRecord_touches i _ _ s) (Touches.refl _ s))

theorem zoneStart_touches (r : RunRecord) (z : ZoneId) (s : State) : Touches passWork s (zoneStart r z s) := by
  unfold zoneStart
  refine ite_touches_of (fun hact => ?_) fun _ => Touches.refl _ s
  have hst : s.started = true := by unfold State.started; rw [hact.1]; rfl
  have h1 : Touches [.seq] s (modSeq z (fun q => { q with assigned := some r.progs[z] }) s) :=
    modSeq_aside rfl rfl (fun _ => rfl) rfl
  have hz : MayMove z (modSeq z (fun q => { q with assigned := some r.progs[z] }) s) := .inr hst
  refine h1.mono.trans (ite_touches ?_ (zoneDone_keeps hz).mono)
  split
  · exact enterPriming_keeps hz
  · exact (enterStatic_keeps hz).mono

/-- What the start of a run touches. -/
abbrev startWork : List Piece := .clock :: .context :: retireWork

theorem startRecorded_touches (r : RunRecord) (s : State) : Touches retireWork (railsPlaced r s) (startRecorded r s) :=
  forEach_touches (fun i _ t => startRecord_touches s i t) _

theorem startRun_after (r : RunRecord) (s : State) : Touches (.context :: retireWork) (railsPlaced r s) (startRun r s) := by
  rw [startRun_eq]
  exact (startRecorded_touches r s).comp (forEach_touches (fun z _ t => zoneStart_touches r z t) _)

theorem placed_runTable (hst : s.run.state = .ready) (hr : s.run.record = some r) : Law.runTable.Kept s (railsPlaced r s) := by
  rintro ⟨-, h2, -, -⟩
  obtain ⟨g1, g2, g3, g4⟩ := railsPlaced_run r s
  rw [hst] at h2
  unfold RunTable
  rw [g1, g2, g3, hr, railsPlaced_started, g4, ← h2]
  simp

theorem placed_limit (hst : s.run.state = .ready) : Law.limit.Kept s (railsPlaced r s) := by
  rintro ⟨-, h2, h3⟩
  obtain ⟨hstate, -, hrec, -⟩ := railsPlaced_run r s
  have hacct : ∀ i, ((railsPlaced r s).sock i).acct = (s.sock i).acct := fun i => (placed_touches r s).acct i
  refine ⟨fun k hk i hi => ?_, fun k hk => h2 k (hrec ▸ hk), fun h => ?_⟩
  · have h1 := h2 k (hrec ▸ hk)
    rw [hacct i, h3 (.inr hst) i] at hi
    omega
  · rw [hstate] at h
    simp at h

theorem placed_hold (hst : s.run.state = .ready) : Law.hold.Kept s (railsPlaced r s) := by
  intro hs hp
  rw [(railsPlaced_run r s).2.1] at hp
  exact absurd (hst.symm.trans (hs hp).1) (by decide)

theorem placed_places (hst : s.run.state = .ready) : Law.places.Kept s (railsPlaced r s) := by
  intro hs z
  have hno : s.started = false := by unfold State.started; rw [hst]; rfl
  obtain ⟨h1, h2⟩ := hs z
  rw [(placed_touches r s).seq z, railsPlaced_started]
  exact ⟨h1, fun h => absurd h (by decide)⟩

theorem placed_port (hst : s.run.state = .ready) : Law.port.Kept s (railsPlaced r s) := by
  intro hs
  have ht := placed_touches r s
  obtain ⟨h1, h2, h3⟩ := (portInv_iff s).mp hs
  refine (portInv_iff _).mpr ⟨?_, portHeld_of_touches ht h2, placed_places hst h3⟩
  rw [ht.portPart.1, ht.staging]
  simpa only [ht.seq] using h1

theorem placed_runs (hst : s.run.state = .ready) : Law.runs.Kept s (railsPlaced r s) := by
  intro hs i hi
  have hno : s.started = false := by unfold State.started; rw [hst]; rfl
  have hdecl : s.declared i = false := by
    rw [← (placed_touches r s).declared i]
    exact hi.resolve_left (by rw [railsPlaced_started]; decide)
  rw [railsPlaced_inhibit, hdecl]
  exact hs i (.inl hno)

/-- A start leaves each declared socket with the causes of its thermal state, and none hot under control (R55). -/
theorem placed_trip (hst : s.run.state = .ready) : Law.trip.Kept s (railsPlaced r s) := by
  intro hs i
  have hno : s.started = false := by unfold State.started; rw [hst]; rfl
  have ht := placed_touches r s
  have htherm : ((railsPlaced r s).sock i).therm = ((heatersPlaced s).sock i).therm := (railsPlaced_touches r s).therm i
  obtain ⟨hrun, hoff⟩ := (hs i).1.2.2.2 (.inl hno)
  have hread : ((heatersPlaced s).sock i).therm.reading = (s.sock i).therm.reading := by
    rw [heatersPlaced_therm]
    split
    · exact (startedTherm_state _ _ _ _).1
    · rfl
  have hhot : (railsPlaced r s).hot i = s.hot i := hot_congr ht.thermProf (by rw [htherm, hread])
  show TripFits _ _ _ _ _
  rw [hhot, railsPlaced_started, ht.declared i, htherm, heatersPlaced_therm, railsPlaced_inhibit]
  cases hd : s.declared i with
  | false =>
    exact ⟨⟨fun h => absurd (hoff.symm.trans h) (by decide), fun h => absurd (hoff.symm.trans h) (by decide),
      fun _ => .inl hrun, fun _ => ⟨hrun, hoff⟩⟩, fun _ => by rw [if_neg (by decide), hoff]; exact ⟨rfl, by decide⟩⟩
  | true =>
    simp only [if_true, (startedTherm_state _ _ _ _).2, TripFits]
    by_cases htr : s.startTripped i = true
    · simp only [htr, if_true, startInhibit]
      simp only [State.startTripped] at htr
      simp [htr, ThermalState.control]
    · have hcool : s.hot i = false := by
        simp only [State.startTripped, Bool.or_eq_true, not_or] at htr
        simpa using htr.2
      by_cases hdead : s.startDead i = true
      · simp [htr, hdead, startInhibit, hcool]
      · simp [htr, hdead, hcool]

theorem startRun_touches (hst : s.run.state = .ready) (hr : s.run.record = some r) :
    Touches (startWork ++ [.law .final, .law .accounts, .law .demand]) s (startRun r s) := by
  have h1 : Touches (startWork ++ [.law .final, .law .accounts, .law .demand]) s (railsPlaced r s) := by
    refine (placed_touches r s).keeps [.runTable, .limit, .fresh, .hold, .trip, .runs, .places, .port] ?_
    simp only [List.forall_mem_cons, List.not_mem_nil, false_imp_iff, implies_true, and_true]
    refine ⟨placed_runTable hst hr, placed_limit hst, fun _ h => ?_, placed_hold hst, placed_trip hst, placed_runs hst,
      placed_places hst, placed_port hst⟩
    rw [(railsPlaced_run r s).1] at h
    simp at h
  exact h1.trans (startRun_after r s).mono

/-- A start takes RUN out of the sets of the declared sockets alone. -/
theorem startRun_demands {M X : SocketId → Prop} (hM : ∀ i, s.declared i = true → ¬ M i) (hs : Demands M X s) :
    Demands M X (startRun r s) := by
  refine (startRun_after r s).law .demand rfl M X ?_
  refine changeInhibits_demands (fun i hi hm => absurd hm (hM i (List.mem_filter.mp hi).2)) ?_
  have h : Touches (.life :: .runState :: .clock :: .therm :: .routine :: startLaws) s (heatersPlaced s) :=
    (stressBegun_touches s).comp (heatersPlaced_touches s)
  exact demands_of_stand h.stand hs

/-- A socket that is final after a start was retired by it. -/
theorem startRun_marked (hs : FreshLives s) (hst : s.run.state = .ready) (i : SocketId)
    (hi : ((startRun r s).sock i).life.final = true) : Marked ((startRun r s).sock i) := by
  refine (((startRun_after r s).law .final rfl i).2 hi).resolve_left ?_
  rw [(railsPlaced_touches r s).life i, (heatersPlaced_touches s).life i, stressBegun_life]
  rcases hs (.inr hst) i with h | h <;> rw [h] <;> split <;> decide

end

end Sys2Proof.Proofs.Frames

/-! What the requests for settings, programs and pages touch, and what RUN-DEFINE, RUN-CLEAR and the resets leave. -/

namespace Sys2Proof.Proofs.Frames

open Sys2Proof.Machine Sys2Proof.Safety

/-! ## Programs of a run -/

theorem assignNow_touches (z : ZoneId) (e : ProgSel) (s : State) : Touches [.seq, .live] s (assignNow z e s) :=
  (modSeq_aside (f := fun q => { q with assigned := some e, staged := none }) rfl rfl (fun _ => rfl) rfl).comp
    (hbZoneProgramChange_touches z _)

theorem assignNow_state (z : ZoneId) (e : ProgSel) (s : State) :
    ((assignNow z e s).zone z).seq.state = (s.zone z).seq.state := by
  unfold assignNow
  rw [(hbZoneProgramChange_touches z _).seq, modSeq_seq, if_pos rfl]

theorem assignStarted_touches (z : ZoneId) (e : ProgSel) (s : State) :
    Touches (.live :: passWork) s (assignStarted z e s) := by
  have h1 := (assignNow_touches z e s).mono (m := .live :: passWork)
  have hheld := fun hz => h1.trans (enterHeld_keeps (z := z) (s := assignNow z e s) hz).mono
  have hstatic := fun hz => h1.trans (enterStatic_keeps (z := z) (s := assignNow z e s) hz).mono
  have hprime := fun hz => h1.trans (enterPriming_keeps (z := z) (s := assignNow z e s) hz).mono
  have hstage : Touches (.live :: passWork) s (modSeq z (fun q => { q with staged := some e }) s) :=
    (modSeq_aside rfl rfl (fun _ => rfl) rfl).mono
  have hz : (s.zone z).seq.state ≠ .idle → MayMove z (assignNow z e s) := fun h => .inl (by rwa [assignNow_state])
  unfold assignStarted
  split
  · exact hstage
  · exact hstage
  · exact hstage
  · exact hstage
  · rename_i h
    have hz := hz (by rw [h]; decide)
    exact ite_touches (hheld hz) (ite_touches (hstatic hz) (hprime hz))
  · rename_i h
    have hz := hz (by rw [h]; decide)
    exact ite_touches (hstatic hz) (ite_touches (hheld hz) (hprime hz))
  · rename_i h
    exact hheld (hz (by rw [h]; decide))
  · exact Touches.refl _ s
  · exact Touches.refl _ s

/-- A change of the run record that leaves what the laws read of it. -/
theorem setRecord_touches {f : RunRecord → RunRecord}
    (hf : ∀ r, (f r).declared = r.declared ∧ (f r).retireLimit = r.retireLimit) (s : State) :
    Touches [.record] s (modRun (fun r => { r with record := r.record.map f }) s) := by
  have h : Touches (closed [.record]) s (modRun (fun r => { r with record := r.record.map f }) s) :=
    board_touches rfl rfl fun p hp hlaw => by
      cases p with
      | record => exact absurd hp (by decide)
      | law x => exact absurd rfl (hlaw x)
      | _ => simp [BoardSame]
  have hdecl : ∀ i, (modRun (fun r => { r with record := r.record.map f }) s).declared i = s.declared i := by
    intro i
    unfold State.declared
    show (match s.run.record.map f with | some r => _ | none => _) = _
    cases s.run.record with
    | none => rfl
    | some r => exact congrArg (fun d : BitVec 32 => d.getLsbD i.val) (hf r).1
  refine h.keeps [.runTable, .limit, .trip, .runs] ?_
  simp only [List.forall_mem_cons, List.not_mem_nil, false_imp_iff, implies_true, and_true]
  refine ⟨fun ⟨h1, h2⟩ => ⟨?_, h2⟩, fun ⟨h1, h2, h3⟩ => ⟨?_, ?_, h3⟩, fun hs i => ?_, fun hs i => ?_⟩
  · show (s.run.record.map f).isSome = true ↔ _
    rw [Option.isSome_map]; exact h1
  · rintro r hr
    obtain ⟨q, hq, rfl⟩ := Option.map_eq_some_iff.mp hr
    rw [(hf q).2]; exact h1 q hq
  · rintro r hr
    obtain ⟨q, hq, rfl⟩ := Option.map_eq_some_iff.mp hr
    rw [(hf q).2]; exact h2 q hq
  · unfold CausesStand; rw [hdecl i]; exact hs i
  · unfold OutOfRun; rw [hdecl i]; exact hs i

theorem assignReady_touches (z : ZoneId) (e : ProgSel) (s : State) : Touches [.seq, .record] s (assignReady z e s) :=
  (modSeq_aside (f := fun q => { q with assigned := some e }) rfl rfl (fun _ => rfl) rfl).comp
    (setRecord_touches (f := fun k => { k with progs := k.progs.set z e }) (fun _ => ⟨rfl, rfl⟩) _)

theorem assignProgram_touches (z : ZoneId) (e : ProgSel) (s : State) :
    Touches (.record :: .live :: passWork) s (assignProgram z e s) := by
  unfold assignProgram
  exact ite_touches (assignReady_touches z e s).mono (assignStarted_touches z e s).mono

/-! ## The definition of a run (R2, R5) -/

/-- The run controller with its record, in READY. -/
def recordHeld (r : RunRecord) : State → State := modRun fun k => { k with state := .ready, record := some r }

theorem recordHeld_plain (r : RunRecord) (s : State) : Touches (closed [.runState, .record]) s (recordHeld r s) :=
  board_touches rfl rfl fun p hp hlaw => by
    cases p with
    | runState | record => exact absurd hp (by decide)
    | law x => exact absurd rfl (hlaw x)
    | _ => simp [BoardSame, recordHeld]

theorem recordHeld_touches {r : RunRecord} {s : State} (hst : s.run.state = .idle ∨ s.run.state = .ready)
    (hlim : 1 ≤ r.retireLimit) : Touches [.runState, .record] s (recordHeld r s) := by
  have hno : s.started = false := by unfold State.started; rcases hst with h | h <;> rw [h] <;> rfl
  have hse : (recordHeld r s).started = s.started := hno.symm ▸ rfl
  refine (recordHeld_plain r s).keeps [.runTable, .limit, .fresh, .hold, .trip, .runs, .places, .port] ?_
  simp only [List.forall_mem_cons, List.not_mem_nil, false_imp_iff, implies_true, and_true]
  refine ⟨fun ⟨h1, h2, h3, h4⟩ => ⟨?_, ?_, ?_, fun _ => h4 hst⟩, fun ⟨h1, h2, h3⟩ => ⟨?_, ?_, fun _ => h3 hst⟩,
    fun hs _ => hs hst, fun hs hp => ?_, fun hs i => ?_, fun hs i _ => hs i (.inl hno), ?_, ?_⟩
  · simp [recordHeld]
  · have hn : ¬ s.run.state = .held := by rcases hst with h | h <;> rw [h] <;> decide
    exact iff_of_false (by simp [recordHeld]) fun h => hn (h2.mpr h)
  · rw [hse]; exact h3
  · intro k hk i hi
    obtain rfl : r = k := Option.some.inj hk
    have h0 : (s.sock i).acct.counted = 0 := h3 hst i
    have hi : r.retireLimit ≤ (s.sock i).acct.counted := hi
    omega
  · intro k hk
    obtain rfl : r = k := Option.some.inj hk
    exact hlim
  · have := (hs hp).1
    rcases hst with h | h <;> exact absurd (h.symm.trans this) (by decide)
  · obtain ⟨⟨c1, c2, c3, c4⟩, h⟩ := hs i
    exact ⟨⟨c1, c2, c3, fun _ => c4 (.inl hno)⟩, h⟩
  · intro hs z; rw [hse]; exact hs z
  · intro hs; unfold PortInv; rw [hse]; exact hs

theorem lifeDefined_final (d : Bool) (l : Lifecycle) : (lifeDefined d l).final = l.final ∧
    (l = .retired → lifeDefined d l = .retired) ∧ (l.final = true → lifeDefined d l = l) ∧
    (lifeDefined d l = .stressing → l = .stressing) ∧ (l = .empty ∨ l = .waiting → lifeDefined d l = .empty ∨ lifeDefined d l = .waiting) := by
  cases l <;> cases d <;> exact ⟨rfl, by simp [lifeDefined], by simp [lifeDefined, Lifecycle.final], by simp [lifeDefined], by simp [lifeDefined]⟩

theorem lifeDefined_touches (d : Bool) (i : SocketId) (s : State) :
    Touches [.life] s (modSock i (fun k => { k with life := lifeDefined d k.life }) s) := by
  have hlife : ∀ j, ((modSock i (fun k => { k with life := lifeDefined d k.life }) s).sock j).life =
      if j = i then lifeDefined d (s.sock i).life else (s.sock j).life := by
    intro j; rw [modSock_sock]; split
    · rename_i hj; subst hj; rfl
    · rfl
  have ht : Touches (closed [.life]) s (modSock i (fun k => { k with life := lifeDefined d k.life }) s) :=
    setLife_touches i (lifeDefined d) s
  have hcase : ∀ {P : Lifecycle → Prop} (j : SocketId), P (s.sock j).life → (P (s.sock i).life → P (lifeDefined d (s.sock i).life)) →
      P ((modSock i (fun k => { k with life := lifeDefined d k.life }) s).sock j).life := by
    intro P j h1 h2
    rw [hlife]
    split
    · rename_i hj; subst hj; exact h2 h1
    · exact h1
  obtain ⟨hf, hret, hkeep, hstress, hfresh⟩ := lifeDefined_final d (s.sock i).life
  refine ht.keeps [.limit, .final, .accounts, .fresh, .hold] ?_
  simp only [List.forall_mem_cons, List.not_mem_nil, false_imp_iff, implies_true, and_true]
  refine ⟨fun ⟨h1, h2, h3⟩ => ⟨fun k hk j hj => ?_, h2, fun h j => ?_⟩, fun j => ⟨fun ⟨hm1, hm2⟩ => ⟨?_, ?_⟩, fun hj => .inl ?_⟩,
    fun j hj => ⟨?_, ht.acct j⟩, fun hs h j => ?_, fun hs hp => ⟨(hs hp).1, fun j hj => ?_⟩⟩
  · rw [ht.acct j] at hj
    exact hcase (P := fun l => l = .retired) j (h1 k hk j hj) hret
  · rw [ht.acct j]; exact h3 h j
  · rw [ht.inhibit j]; exact hm1
  · rw [ht.therm j]; exact hm2
  · rw [hlife] at hj
    split at hj
    · rename_i hji; subst hji; rw [← hf]; exact hj
    · exact hj
  · rw [hlife]
    split
    · rename_i hji; subst hji; exact hkeep hj
    · rfl
  · exact hcase (P := fun l => l = .empty ∨ l = .waiting) j (hs h j) hfresh
  · rw [ht.inhibit j, ht.therm j]
    refine (hs hp).2 j ?_
    rw [hlife] at hj
    split at hj
    · rename_i hji; subst hji; exact hstress hj
    · exact hj

theorem storeRecord_touches {r : RunRecord} {s : State} (hst : s.run.state = .idle ∨ s.run.state = .ready)
    (hlim : 1 ≤ r.retireLimit) : Touches [.life, .seq, .runState, .record, .routine] s (storeRecord r s) := by
  have h1 := (recordHeld_touches hst hlim).mono (m := [.life, .seq, .runState, .record, .routine])
  have h2 := forEach_touches (as := allSockets) (l := [.life, .seq, .runState, .record, .routine]) fun i _ t =>
    (lifeDefined_touches (r.declared.getLsbD i.val) i t).mono
  have h3 : ∀ t, Touches [.life, .seq, .runState, .record, .routine] t
      (forEach allZones (fun z => modSeq z fun q => { q with assigned := some r.progs[z] }) t) :=
    forEach_touches fun z _ t => (modSeq_aside rfl rfl (fun _ => rfl) rfl).mono
  have h4 := fun t => (runStateNotice_routine_touches t).mono (m := [.life, .seq, .runState, .record, .routine])
  have h : Touches _ s _ := h1.trans ((h2 _).trans (h3 _))
  unfold storeRecord
  exact ite_touches (h.trans (h4 _)) h

/-! ## The permit monitor -/

/-- A change of the permit monitor alone. -/
theorem permitMonitor_touches {f : Run → Run} {s : State}
    (h : f s.run = { s.run with permitTimeout := (f s.run).permitTimeout, permitValid := (f s.run).permitValid,
                                edgeTimer := (f s.run).edgeTimer, edgeCount := (f s.run).edgeCount }) :
    Touches [.permit] s (modRun f s) :=
  board_touches (l := [.permit]) (t := modRun f s) rfl rfl fun p hp hlaw => by
    cases p with
    | permit => exact absurd hp (by decide)
    | law x => exact absurd rfl (hlaw x)
    | runState =>
      have hstate := congrArg Run.state h
      have hholds := congrArg Run.holds h
      have htimer := congrArg Run.acctTimer h
      exact ⟨hstate, hholds, htimer⟩
    | record => have hrecord := congrArg Run.record h; exact hrecord
    | clock => have hclock := congrArg Run.clock h; exact hclock
    | _ => simp [BoardSame]

theorem setTimeout_touches (n : Nat) (s : State) : Touches [.permit] s (modRun (setTimeout n) s) :=
  permitMonitor_touches (by unfold setTimeout; split <;> rfl)

theorem setMonitor_touches (e : Option Nat) (n : Nat) (v : Bool) (s : State) :
    Touches [.permit] s (modRun (fun r => { r with edgeTimer := e, edgeCount := n, permitValid := v }) s) :=
  permitMonitor_touches rfl

/-! ## The settings -/

theorem storeRail_touches (z : ZoneId) (p : RailProfile) (s : State) :
    Touches [.railProf, .sample, .law .slots] s (storeRail z p s) :=
  (setRailProf_touches z (fun _ => some p) s).comp
    (forEach_touches (fun i _ t => setWindow_touches i (lastN p.win) t) _)

/-- No rail waits where none may be up. -/
theorem queue_of_runs {s : State} (hno : s.started = false) (hr : RailLaws s) (hruns : RunsStand s) (z : ZoneId) :
    (s.zone z).rampQueue = [] := by
  obtain ⟨-, h2, h3⟩ := hr
  refine List.eq_nil_iff_forall_not_mem.mpr fun i hi => ?_
  obtain ⟨-, hq⟩ := ((h2 z).2 i).mp hi
  have hset : (s.sock i).rail.inhibit.isEmpty = false := by
    simp [Inhibit.isEmpty, hruns i (.inl hno)]
  rcases h3 i hset with h | h <;> exact absurd (h.symm.trans hq) (by decide)

theorem storeRail_slots {z : ZoneId} {p : RailProfile} {s : State} {Z : ZoneId → Prop} (hno : s.started = false)
    (hruns : RunsStand s) (hs : SlotsFull Z s) : SlotsFull Z (storeRail z p s) := by
  have ht := storeRail_touches z p s
  refine ⟨ht.law .rails rfl hs.1, fun y _ _ hq => absurd ?_ hq⟩
  rw [ht.queue y]
  exact queue_of_runs hno hs.1 hruns y

/-- A thermal profile out of a run leaves every heater OFF, and so none of them under control. -/
theorem storeThermal_touches {z : ZoneId} {s : State} (p : ThermalProfile) (hno : s.started = false) :
    Touches [.thermProf] s (modZone z (fun k => { k with thermProf := some p }) s) := by
  refine (setThermProf_touches z (fun _ => some p) s).keep (x := .trip) fun hs i => ?_
  obtain ⟨hc, -⟩ := hs i
  have hoff : (s.sock i).therm.state = .off := (hc.2.2.2 (.inl hno)).2
  exact ⟨hc, fun _ => ⟨by show (s.sock i).therm.state.control = false; rw [hoff]; rfl,
    by show (s.sock i).therm.state ≠ .held; rw [hoff]; decide⟩⟩

theorem toApproach_touches (i : SocketId) (s : State) : Touches [.therm] s (toApproach i s) := by
  unfold toApproach
  by_cases h : (s.sock i).therm.state = .inband ∨ (s.sock i).therm.state = .outband
  · have hf : (if (s.sock i).therm.state = .inband ∨ (s.sock i).therm.state = .outband then
        { (s.sock i).therm with state := ThermalState.approach } else (s.sock i).therm) = { (s.sock i).therm with state := .approach } :=
      if_pos h
    exact modTherm_within (by rcases h with h | h <;> rw [h] <;> rfl) (by rw [hf]; rfl) (by rw [hf])
      (modTherm_share (by rw [hf]))
  · exact modTherm_aside (by rw [if_neg h]) (by rw [if_neg h]) (by rw [if_neg h]) (by rw [if_neg h])

theorem storeSetpoint_touches {z : ZoneId} {p : ThermalProfile} {s : State} (sp : Int) (hp : (s.zone z).thermProf = some p) :
    Touches [.thermProf, .therm] s (storeSetpoint z p sp s) := by
  have h1 : Touches [.thermProf] s (modZone z (fun k => { k with thermProf := some { p with setpoint := sp } }) s) := by
    refine (setThermProf_touches z (fun _ => some { p with setpoint := sp }) s).keep (x := .trip) fun hs i => ?_
    have hhot : (modZone z (fun k => { k with thermProf := some { p with setpoint := sp } }) s).hot i = s.hot i := by
      unfold State.hot
      by_cases hz : zoneOf i = z
      · subst hz
        rw [modZone_zone_self, hp]
        show (match some { p with setpoint := sp }, (s.sock i).therm.reading with
          | some p, some t => decide (p.limit ≤ t) | _, _ => false) = _
        cases (s.sock i).therm.reading <;> rfl
      · rw [modZone_zone_ne hz]
        rfl
    rw [hhot]
    exact hs i
  have h2 := forEach_touches (as := zoneSockets z) (l := [.thermProf, .therm]) fun i _ t => (toApproach_touches i t).mono
  simp only [storeSetpoint]
  exact ite_touches h1.mono (h1.mono.trans (h2 _))

theorem cut_touches (i : SocketId) (s : State) : Touches [.therm] s (modTherm i Thermal.cut s) := by
  refine (modTherm_touches i Thermal.cut s).keeps [.heat, .share, .final, .hold, .trip] ?_
  simp only [List.forall_mem_cons, List.not_mem_nil, false_imp_iff, implies_true, and_true]
  exact ⟨modTherm_heat (.inr ⟨rfl, rfl⟩), modTherm_share (Nat.zero_le _), modTherm_final fun h => h,
    modTherm_hold fun h => .inl h, modTherm_trip rfl fun h => h⟩

theorem storeBudget_plain (z : ZoneId) (b : Nat) (s : State) :
    Touches [.budget, .therm, .armed, .routine, .law .share] s (storeBudget z b s) := by
  have h1 := (setBudget_touches z (fun _ => b) s).mono (m := [.budget, .therm, .armed, .routine, .law .share])
  have h2 := forEach_touches (as := zoneSockets z) (l := [.budget, .therm, .armed, .routine, .law .share]) fun i _ t =>
    (cut_touches i t).mono
  have h3 := fun t => (budgetTest_touches z t).mono (m := [.budget, .therm, .armed, .routine, .law .share])
  unfold storeBudget
  exact (ite_touches (h1.trans (h2 _)) h1).trans (h3 _)

/-- The grants of a zone after all its heaters were cut, and those of the others. -/
theorem cuts_grantSum (z y : ZoneId) (s : State) : (forEach (zoneSockets z) (fun i => modTherm i Thermal.cut) s).grantSum y =
    if y = z then 0 else s.grantSum y := by
  have hg : ∀ j, ((forEach (zoneSockets z) (fun i => modTherm i Thermal.cut) s).sock j).therm.grant =
      if j ∈ zoneSockets z then 0 else (s.sock j).therm.grant :=
    forEach_at (g := fun t j => (t.sock j).therm.grant) (h := fun _ _ => 0) (fun i t j => by
      rw [modTherm_therm]; split <;> rfl) _ (zoneSockets_nodup z) s
  unfold State.grantSum
  simp only [hg]
  split
  · rename_i h
    subst h
    refine List.sum_eq_zero fun x hx => ?_
    obtain ⟨j, hj, rfl⟩ := List.mem_map.mp hx
    exact if_pos hj
  · rename_i h
    refine congrArg List.sum (List.map_congr_left fun j hj => if_neg fun hjz => h ?_)
    rw [← (mem_zoneSockets _ _).mp hj, (mem_zoneSockets _ _).mp hjz]

theorem storeBudget_touches (z : ZoneId) (b : Nat) (s : State) :
    Touches [.budget, .therm, .armed, .routine] s (storeBudget z b s) := by
  refine (storeBudget_plain z b s).keep (x := .share) fun hs => (budgetTest_touches z _).law .share rfl fun y => ?_
  have hbudget : ((modZone z (fun k => { k with budget := b }) s).zone y).budget = if y = z then b else (s.zone y).budget := by
    by_cases hy : y = z
    · subst hy; rw [modZone_zone_self, if_pos rfl]
    · rw [modZone_zone_ne hy, if_neg hy]
  split
  · have hcuts := forEach_touches (as := zoneSockets z) (fun i _ t => cut_touches i t)
      (modZone z (fun k => { k with budget := b }) s)
    rw [cuts_grantSum, hcuts.budget y, hbudget]
    split
    · exact Nat.zero_le _
    · exact hs y
  · rename_i hb
    rw [hbudget]
    have hold : s.grantSum y ≤ (s.zone y).budget := hs y
    show s.grantSum y ≤ _
    split
    · rename_i hy; subst hy; omega
    · exact hold

/-! ## The pattern store -/

theorem acceptChunk_touches (x : Chunk) (bytes : List Byte) (s : State) :
    Touches [.pages, .staging, .port] s (acceptChunk x bytes s) := by
  let t := modPage x.page (fun e => { e with crc := crcFeed e.crc bytes, cursor := e.cursor + x.vecs.length }) s
  have h0 : Touches [.pages] s t := modPage_touches _ _ s
  let u := modStore (fun st => { st with staging := some x, waitCount := 0 }) t
  have h1 : Touches (closed [.staging, .port]) t u :=
    board_touches rfl rfl fun p hp hlaw => by
      cases p with
      | staging | port => exact absurd hp (by decide)
      | law y => exact absurd rfl (hlaw y)
      | _ => simp [BoardSame, u]
  refine ((h0.comp h1 (n := [.pages, .staging, .port, .law .port])).trans (arbitrate_touches u).mono).keep (x := .port)
    fun hs => ?_
  obtain ⟨-, h2, h3⟩ := (portInv_iff s).mp hs
  exact arbitrate_port ⟨fun _ => rfl, h2.2⟩ h3

theorem setProgram_touches (k : ProgId) (d : Option Program) (s : State) :
    Touches [.programs, .pages] s (setProgram k d s) := by
  rw [PatternStore.setProgram_frame k d s]
  exact board_touches (l := [.programs, .pages]) rfl rfl fun p hp hlaw => by
    cases p with
    | programs | pages => exact absurd hp (by decide)
    | law y => exact absurd rfl (hlaw y)
    | _ => simp [BoardSame]

theorem chunkWritten_touches (c : Chunk) (s : State) :
    Touches [.mem, .staging, .port] s (releasePort (modStore (writeChunk c) s)) := by
  have h1 : Touches (closed [.mem, .staging]) s (modStore (writeChunk c) s) :=
    board_touches rfl rfl fun p hp hlaw => by
      cases p with
      | mem | staging => exact absurd hp (by decide)
      | law y => exact absurd rfl (hlaw y)
      | _ => simp [BoardSame, writeChunk]
  refine (h1.comp (releasePort_touches _) (n := [.mem, .staging, .port, .law .port])).keep (x := .port) fun hs => ?_
  exact releasePort_port ((portInv_iff s).mp hs).2.2

/-! ## The end of a record (R18) -/

/-- A state whose socket and zone records are made from those of another touches what the makers touch. -/
theorem map_touches {l : List Piece} {s t : State} {f : Socket → Socket} {g : Zone → Zone}
    (hs : t.sockets = s.sockets.map f) (hz : t.zones = s.zones.map g)
    (h : ∀ p : Piece, p.isIn l = false → (∀ x, p ≠ .law x) →
      (∀ k, SockSame p k (f k)) ∧ (∀ k, ZoneSame p k (g k)) ∧ BoardSame p s t) : Touches (closed l) s t := by
  refine closed_touches fun p hp hlaw => ?_
  obtain ⟨hk, hy, hb⟩ := h p hp hlaw
  exact ⟨fun i => by rw [Resets.sockets_map_sock hs]; exact hk _, fun z => by rw [Resets.zones_map_zone hz]; exact hy _, hb⟩

/-- What RUN-CLEAR touches (R18). -/
abbrev clearWork : List Piece :=
  [.life, .bin, .inhibit, .power, .trips, .therm, .live, .checked, .context, .acct, .seq, .chk, .runState, .record,
    .clock, .routine]

/-- The board without its run, the notice apart. -/
def runCleared (s : State) : State :=
  { s with
    run := { s.run with state := .idle, record := none, holds := ⟨false, false⟩, clock := 0, acctTimer := none }
    sockets := s.sockets.map Socket.cleared
    zones := s.zones.map Zone.cleared }

theorem clearRun_eq (s : State) : clearRun s = runStateNotice false (runCleared s) := rfl

theorem runCleared_sock (s : State) (i : SocketId) : (runCleared s).sock i = (s.sock i).cleared :=
  Resets.sockets_map_sock rfl i

theorem runCleared_zone (s : State) (z : ZoneId) : (runCleared s).zone z = (s.zone z).cleared :=
  Resets.zones_map_zone rfl z

theorem runCleared_plain (s : State) : Touches (closed clearWork) s (runCleared s) := by
  refine map_touches rfl rfl fun p hp hlaw => ?_
  cases p with
  | life | bin | inhibit | power | trips | therm | live | checked | context | acct | seq | chk | runState | record | clock
  | routine => exact absurd hp (by decide)
  | law x => exact absurd rfl (hlaw x)
  | _ => simp [SockSame, ZoneSame, BoardSame, Socket.cleared, Zone.cleared, runCleared]

section
variable {s : State}

theorem runCleared_rails : Law.rails.Kept s (runCleared s) := by
  rintro ⟨h1, h2, h3⟩
  have hrail : ∀ i, ((runCleared s).sock i).rail.state = (s.sock i).rail.state := (runCleared_plain s).railState
  have hqueue : ∀ z, ((runCleared s).zone z).rampQueue = (s.zone z).rampQueue := (runCleared_plain s).queue
  refine ⟨fun z => ?_, fun z => ?_, fun i hi => ?_⟩
  · unfold State.slotHolders; simp only [hrail]; exact h1 z
  · rw [hqueue z]; simp only [hrail]; exact h2 z
  · unfold RailDown
    rw [hrail i]
    refine h3 i ?_
    rw [runCleared_sock] at hi
    revert hi
    simp only [Socket.cleared, Inhibit.isEmpty]
    cases (s.sock i).rail.inhibit.run <;> cases (s.sock i).rail.inhibit.permit <;> cases (s.sock i).rail.inhibit.thermal <;> simp

theorem runCleared_slots : Law.slots.Kept s (runCleared s) := by
  rintro Z ⟨hr, hs⟩
  have ht := runCleared_plain s
  have hhold : ∀ z, (runCleared s).slotHolders z = s.slotHolders z := fun z => by
    unfold State.slotHolders; simp only [ht.railState]
  refine ⟨runCleared_rails hr, fun z hz => ?_⟩
  unfold SlotsFullAt
  rw [ht.railProf, ht.queue, hhold]
  exact hs z hz

theorem runCleared_seq (z : ZoneId) : ((runCleared s).zone z).seq = Seq.init := by rw [runCleared_zone]; rfl

theorem runCleared_places : PlacesStand (runCleared s) := by
  intro z
  rw [runCleared_seq]
  exact ⟨fun _ => rfl, fun _ => rfl⟩

theorem runCleared_port (hno : s.started = false) : Law.port.Kept s (runCleared s) := by
  intro hs
  obtain ⟨h1, h2, h3⟩ := (portInv_iff s).mp hs
  refine (portInv_iff _).mpr ⟨fun hp => ⟨(h1 hp).1, fun z => by rw [runCleared_seq]; rfl⟩,
    ⟨h2.1, fun z hz => ?_⟩, runCleared_places⟩
  have hz' := h2.2 z hz
  rw [(h3 z).1 (.inl ((h3 z).2 hno))] at hz'
  exact absurd hz' (by decide)

theorem clearRun_touches (hno : s.started = false) :
    Touches (clearWork ++ [.law .final, .law .accounts, .law .demand]) s (clearRun s) := by
  rw [clearRun_eq]
  refine Touches.trans ?_ (runStateNotice_routine_touches _).mono
  have hsock := runCleared_sock s
  refine (runCleared_plain s).keeps [.lanes, .logs, .heat, .share, .runTable, .limit, .fresh, .rails, .slots, .hold, .trip,
    .runs, .places, .port, .seqs] ?_
  simp only [List.forall_mem_cons, List.not_mem_nil, false_imp_iff, implies_true, and_true]
  refine ⟨⟨id, id⟩, fun _ i => ?_, fun hs i => ?_, fun hs z => ?_, fun _ => ?_, fun _ => ?_, fun _ _ i => ?_, runCleared_rails,
    runCleared_slots, fun _ hp => ?_, fun hs i => ?_, fun hs i _ => ?_, fun _ => runCleared_places, runCleared_port hno,
    fun _ z => ?_⟩
  · rw [hsock]; exact ⟨Nat.zero_le _, Nat.le_refl _⟩
  · rw [hsock]; exact hs i
  · rw [(runCleared_plain s).budget]
    refine le_trans (le_of_eq ?_) (hs z)
    unfold State.grantSum
    simp only [hsock]
    rfl
  · exact ⟨by simp [runCleared], by simp [runCleared], by simp [runCleared, State.started], fun _ => rfl⟩
  · exact ⟨fun r hr => absurd hr (by simp [runCleared]), fun r hr => absurd hr (by simp [runCleared]), fun _ i => by rw [hsock]; rfl⟩
  · rw [hsock]; exact .inl rfl
  · exact absurd hp (by simp [runCleared])
  · obtain ⟨hrun, hoff⟩ := (hs i).1.2.2.2 (.inl hno)
    unfold CausesStand
    rw [hsock]
    simp [Socket.cleared, hrun, hoff, ThermalState.control]
  · rw [hsock]; exact hs i (.inl hno)
  · rw [runCleared_seq]; exact ⟨fun h => absurd h (by decide), fun f hf => absurd hf (by simp [Seq.init])⟩

/-- RUN stands for every socket after the end of a run, and no demand arises. -/
theorem clearRun_demands {M X : SocketId → Prop} (hno : s.started = false) (hruns : RunsStand s) (hs : Demands M X s) :
    Demands M X (clearRun s) := by
  rw [clearRun_eq]
  refine (runStateNotice_routine_touches _).law .demand rfl M X ⟨runCleared_rails hs.1, fun i => ?_⟩
  obtain ⟨h1, h2, h3, h4, h5, -, -⟩ := hs.2 i
  rw [runCleared_sock]
  exact ⟨h1, h2, h3, h4, h5, fun _ => hruns i (.inl hno), fun he => absurd he (by
    simp [Socket.cleared, Inhibit.isEmpty, hruns i (.inl hno)])⟩

theorem clearRun_life (i : SocketId) : ((clearRun s).sock i).life = .empty := by
  rw [clearRun_eq, (runStateNotice_routine_touches _).life i, runCleared_sock]
  rfl

end

/-! ## The resets -/

/-- What every reset leaves: nothing runs, is powered, heated, played or staged, and no notice waits. -/
structure AtRest (t : State) : Prop where
  run : t.run.state = .idle ∧ t.run.record = none ∧ t.run.holds = ⟨false, false⟩ ∧ t.run.clock = 0 ∧ t.run.acctTimer = none
  life : ∀ i, (t.sock i).life = .empty
  acct : ∀ i, (t.sock i).acct = Accounts.init
  inhibit : ∀ i, (t.sock i).rail.inhibit = ⟨true, false, false, false, false, false⟩
  rail : ∀ i, (t.sock i).rail.state = .off ∧ (t.sock i).rail.stableTimer = none ∧ (t.sock i).rail.phase1Timer = none ∧
    (t.sock i).rail.rampTimer = none
  therm : ∀ i, (t.sock i).therm.state = .off ∧ (t.sock i).therm.duty = 0 ∧ (t.sock i).therm.grant = 0
  queue : ∀ z, (t.zone z).rampQueue = []
  seq : ∀ z, (t.zone z).seq = Seq.init
  port : t.store.port = none ∧ t.store.staging = none
  notices : t.notices.urgent = [] ∧ t.notices.routine = []

section
variable {t : State}

theorem AtRest.rails (h : AtRest t) : RailLaws t := by
  refine ⟨fun z => ?_, fun z => ?_, fun i _ => .inl (h.rail i).1⟩
  · unfold State.slotHolders
    rw [List.filter_eq_nil_iff.mpr fun i _ => by rw [(h.rail i).1]; decide]
    exact Nat.zero_le _
  · rw [h.queue z]
    exact ⟨List.nodup_nil, fun i => by simp [(h.rail i).1]⟩

theorem AtRest.started (h : AtRest t) : t.started = false := by unfold State.started; rw [h.run.1]; rfl

theorem AtRest.demands (h : AtRest t) (M X : SocketId → Prop) : Demands M X t := by
  refine ⟨h.rails, fun i => ?_⟩
  obtain ⟨h1, h2, h3, h4⟩ := h.rail i
  unfold RailDemands
  rw [h1, h2, h3, h4, h.inhibit i]
  simp [Inhibit.isEmpty]

theorem AtRest.runs (h : AtRest t) : RunsStand t := fun i _ => by rw [h.inhibit i]

theorem AtRest.trip (h : AtRest t) : TripsStand t := by
  intro i
  unfold CausesStand
  rw [(h.therm i).1, h.inhibit i]
  simp [ThermalState.control]

theorem AtRest.port_inv (h : AtRest t) : PortInv t := by
  unfold PortInv
  rw [h.port.1, h.port.2]
  simp only [h.seq]
  simp [Seq.init]

theorem AtRest.runTable (h : AtRest t) : RunTable t := by
  obtain ⟨h1, h2, h3, h4, h5⟩ := h.run
  unfold RunTable
  rw [h.started, h1, h2, h3, h4, h5]
  simp

theorem AtRest.limit (h : AtRest t) : LimitInv t := by
  obtain ⟨-, h2, -⟩ := h.run
  unfold LimitInv Law11
  rw [h2]
  simp only [h.acct]
  exact ⟨fun r hr => absurd hr (by simp), fun r hr => absurd hr (by simp), fun _ _ => rfl⟩

theorem AtRest.share (h : AtRest t) : Law4 t := by
  intro z
  unfold State.grantSum
  simp [(h.therm _).2.2]

theorem AtRest.seqs (h : AtRest t) : SeqInv t := by
  intro z
  rw [h.seq]
  exact ⟨fun hp => absurd hp (by decide), fun f hf => absurd hf (by simp [Seq.init])⟩

/-- At rest every law holds, whatever went before; the sockets' accounts and marks are gone. -/
theorem AtRest.kept (h : AtRest t) {x : Law} (hf : x ≠ .final) (ha : x ≠ .accounts) (s : State) : x.Kept s t := by
  cases x with
  | lanes => exact ⟨fun _ => by rw [h.notices.1]; simp, fun _ => by rw [h.notices.2]; simp⟩
  | logs => exact fun _ i => by rw [h.acct i]; exact ⟨Nat.zero_le _, Nat.le_refl _⟩
  | heat => exact fun _ i _ => (h.therm i).2
  | share => exact fun _ => h.share
  | runTable => exact fun _ => h.runTable
  | limit => exact fun _ => h.limit
  | final => exact absurd rfl hf
  | accounts => exact absurd rfl ha
  | fresh => exact fun _ _ i => .inl (h.life i)
  | rails => exact fun _ => h.rails
  | demand => exact fun M X _ => h.demands M X
  | slots => exact fun Z _ => ⟨h.rails, fun z _ _ hq => absurd (h.queue z) hq⟩
  | hold => exact fun _ hp => absurd hp (by rw [h.run.2.2.1]; simp)
  | trip => exact fun _ => h.trip
  | runs => exact fun _ => h.runs
  | places => exact fun _ z => by rw [h.seq]; exact ⟨fun _ => rfl, fun _ => rfl⟩
  | port => exact fun _ => h.port_inv
  | seqs => exact fun _ => h.seqs

/-- What a reset touches beside the link port and the pins. -/
abbrev resetWork : List Piece :=
  [.life, .bin, .railState, .inhibit, .timers, .power, .sample, .trips, .therm, .live, .checked, .context, .acct,
    .railProf, .queue, .thermProf, .budget, .armed, .seq, .chk, .runState, .record, .clock, .permit, .mem, .pages,
    .staging, .port, .urgent, .routine, .law .final, .law .accounts]

theorem AtRest.touches {s : State} (h : AtRest t) (hp : t.store.programs = s.store.programs) (hl : t.link = s.link)
    (hs : t.straps = s.straps) (hn : t.now = s.now) (hd : t.freeDraws = s.freeDraws) (hq : t.pending = s.pending) :
    Touches resetWork s t := by
  intro p hpp
  refine ⟨fun i => ?_, fun z => ?_, ?_⟩
  · cases p with
    | programs | link | straps | now | draws | pending | law x => trivial
    | _ => exact absurd hpp (by decide)
  · cases p with
    | programs | link | straps | now | draws | pending | law x => trivial
    | _ => exact absurd hpp (by decide)
  · cases p with
    | programs => exact hp
    | link => exact hl
    | straps => exact hs
    | now => exact hn
    | draws => exact hd
    | pending => exact hq
    | law x => exact h.kept (by rintro rfl; exact absurd hpp (by decide)) (by rintro rfl; exact absurd hpp (by decide)) s
    | _ => exact absurd hpp (by decide)

/-- The blocks at their power-on values are at rest. -/
theorem atRest_of_init (hr : t.run = Run.init) (hk : t.sockets = Vector.replicate 32 Socket.init)
    (hz : t.zones = Vector.replicate 4 Zone.init) (hn : t.notices = NoticeQueue.init)
    (hp : t.store.port = none ∧ t.store.staging = none) : AtRest t := by
  have hsock := Resets.replicate_sock hk
  have hzone := Resets.replicate_zone hz
  exact ⟨hr ▸ ⟨rfl, rfl, rfl, rfl, rfl⟩, fun i => by rw [hsock]; rfl, fun i => by rw [hsock]; rfl, fun i => by rw [hsock]; rfl,
    fun i => by rw [hsock]; exact ⟨rfl, rfl, rfl, rfl⟩, fun i => by rw [hsock]; exact ⟨rfl, rfl, rfl⟩,
    fun z => by rw [hzone]; rfl, fun z => by rw [hzone]; rfl, hp, hn ▸ ⟨rfl, rfl⟩⟩

theorem atRest_fullReset (s : State) : AtRest (fullReset s) := atRest_of_init rfl rfl rfl rfl ⟨rfl, rfl⟩

theorem atRest_poweredOn (slot : BitVec 5) (rate : BitVec 2) (s : State) :
    AtRest { State.poweredOn slot rate with freeDraws := s.freeDraws, pending := s.pending } :=
  atRest_of_init rfl rfl rfl rfl ⟨rfl, rfl⟩

theorem atRest_runReset (s : State) : AtRest (runReset s) := by
  have hsock : ∀ i, (runReset s).sock i = (s.sock i).runReset (s.offTimerKept i) := Resets.sockets_ofFn_sock rfl
  have hzone : ∀ z, (runReset s).zone z = (s.zone z).runReset := Resets.zones_map_zone rfl
  exact ⟨⟨rfl, rfl, rfl, rfl, rfl⟩, fun i => by rw [hsock]; rfl, fun i => by rw [hsock]; rfl, fun i => by rw [hsock]; rfl,
    fun i => by rw [hsock]; exact ⟨rfl, rfl, rfl, rfl⟩, fun i => by rw [hsock]; exact ⟨rfl, rfl, rfl⟩,
    fun z => by rw [hzone]; rfl, fun z => by rw [hzone]; rfl, ⟨rfl, rfl⟩, ⟨rfl, rfl⟩⟩

end

end Sys2Proof.Proofs.Frames

/-! How long each field and each report is: every reply fits a frame (R176). -/

namespace Sys2Proof.Proofs.Lengths

open Sys2Proof.Machine Sys2Proof.Safety

/-! ## Fields -/

@[simp] theorem be1_length (n : Nat) : (be1 n).length = 1 := rfl
@[simp] theorem be2_length (n : Nat) : (be2 n).length = 2 := rfl
@[simp] theorem be4_length (n : Nat) : (be4 n).length = 4 := rfl
@[simp] theorem sbe1_length (i : Int) : (sbe1 i).length = 1 := rfl
@[simp] theorem sbe2_length (i : Int) : (sbe2 i).length = 2 := rfl
@[simp] theorem flag1_length (b : Bool) : (flag1 b).length = 1 := rfl

@[simp] theorem railProfile_length (p : RailProfile) : p.bytes.length = 20 := rfl

@[simp] theorem thermalProfile_length (p : ThermalProfile) : p.bytes.length = 12 := rfl

theorem runRecord_length (r : RunRecord) : r.bytes.length = 23 + r.label.length := by
  simp only [RunRecord.bytes, List.length_append, be1_length, be4_length, flag1_length, List.length_map, DispTable.resolved,
    List.length_cons, List.length_nil, Vector.length_toList]
  omega

theorem program_length (d : Program) : d.bytes.length ≤ 26 + d.pages.length := by
  have hsig : (sigBytes d.sig).length ≤ 3 := by cases d.sig <;> simp [sigBytes]
  have hhb : (hbBytes d.hb).length ≤ 9 := by cases d.hb <;> simp [hbBytes]
  simp only [Program.bytes, List.length_append, be1_length, be2_length, List.length_map, List.length_cons, List.length_nil]
  omega

@[simp] theorem padTo_length (n : Nat) (l : List Byte) : (padTo n l).length = n := by
  simp only [padTo, List.length_append, List.length_take, List.length_replicate]
  omega

@[simp] theorem failRec_length (n : Nat) (r : FailRec) : (r.bytes n).length = 23 := by
  simp [FailRec.bytes]

theorem flatten_length_le {l : List (List Byte)} {n : Nat} (h : ∀ x ∈ l, x.length ≤ n) : l.flatten.length ≤ n * l.length := by
  induction l with
  | nil => simp
  | cons a l ih =>
    have h1 := h a (by simp)
    have h2 := ih fun x hx => h x (by simp [hx])
    simp only [List.flatten_cons, List.length_append, List.length_cons, Nat.mul_add]
    omega

theorem logBytes_length (l : List FailRec) : (logBytes l).length ≤ 23 * l.length := by
  have h := flatten_length_le (l := l.mapIdx fun k r => r.bytes (k + 1)) (n := 23) fun x hx => by
    obtain ⟨k, hk, rfl⟩ := List.mem_mapIdx.mp hx
    exact (failRec_length _ _).le
  rwa [List.length_mapIdx] at h

/-! ## Reports -/

/-- What bounds the data of the reports (R4, R91, R155). -/
def ReplyBounds (s : State) : Prop := Law7 s ∧ (∀ r, s.run.record = some r → r.label.length ≤ 16) ∧
  ∀ k d, s.program k = some d → d.pages.length ≤ 32

theorem runReport_length {s : State} (h : ReplyBounds s) : (runReport s).length ≤ 249 := by
  cases hr : s.run.record with
  | none => simp [runReport, hr]
  | some r =>
    have := h.2.1 r hr
    simp [runReport, hr, runRecord_length]
    omega

@[simp] theorem budgetPart_length (s : State) (z : ZoneId) : (budgetPart s z).length = 9 := rfl

@[simp] theorem accountsPart_length (t : Option Nat) (a : Accounts) : (accountsPart t a).length = 16 := by
  unfold accountsPart
  cases a.deciding <;> rfl

@[simp] theorem railPart_length (r : Rail) : (railPart r).length = 12 := rfl

@[simp] theorem targetBytes_length (s : State) (i : SocketId) : (targetBytes s i).length = 2 := by
  unfold targetBytes
  split <;> rfl

@[simp] theorem thermalPart_length (t : List Byte) (k : Thermal) : (thermalPart t k).length = 18 + t.length := by
  simp only [thermalPart, List.length_append, List.length_cons, List.length_nil, be1_length, be2_length, sbe1_length,
    sbe2_length, flag1_length]
  omega

@[simp] theorem passPart_length (p : Pass) : (passPart p).length = 19 := rfl

@[simp] theorem livenessPart_length (n : Nat) (l : Liveness) : (livenessPart n l).length = 12 := rfl

theorem socketReport_length (s : State) (i : SocketId) : (socketReport s i).length = 92 := by
  simp [socketReport]

theorem failLog_length {s : State} (h : ReplyBounds s) (i : SocketId) :
    (be2 (s.sock i).acct.total ++ be1 (s.sock i).acct.log.length ++ logBytes (s.sock i).acct.log).length ≤ 249 := by
  have h1 := (h.1 i).1
  have h2 := logBytes_length (s.sock i).acct.log
  simp only [List.length_append, be1_length, be2_length]
  omega

@[simp] theorem playPart_length (q : Seq) : (playPart q).length = 10 := by
  unfold playPart
  split
  · cases (q.buf q.play.buf).tag? <;> rfl
  · rfl

@[simp] theorem bufferPart_length (b : Buffer) : (bufferPart b).length = 4 := by cases b <;> rfl

@[simp] theorem haltPart_length (h : Option (PageId × Nat)) : (haltPart h).length = 3 := by cases h <;> rfl

@[simp] theorem socketPlaces_length (n : Nat) (l : List SocketId) : (socketPlaces n l).length = n := by
  simp only [socketPlaces, List.length_append, List.length_take, List.length_map, List.length_replicate]
  omega

theorem zoneReport_length (s : State) (z : ZoneId) : (zoneReport s z).length = 87 := by
  have h1 : (((s.zone z).railProf.map RailProfile.bytes).getD (List.replicate 20 0)).length = 20 := by
    cases (s.zone z).railProf <;> rfl
  have h2 : (((s.zone z).thermProf.map ThermalProfile.bytes).getD (List.replicate 12 0)).length = 12 := by
    cases (s.zone z).thermProf <;> rfl
  simp only [zoneReport, List.length_append, List.length_cons, List.length_nil, be1_length, be4_length, playPart_length,
    bufferPart_length, haltPart_length, socketPlaces_length, budgetPart_length, h1, h2]

theorem pageList_length (s : State) (pg : PageId) {n : Nat} (hn : n ≤ 24) :
    (be1 (pageRange pg n).length ++ ((pageRange pg n).map (pageEntry s)).flatten).length ≤ 249 := by
  have hlen : (pageRange pg n).length ≤ n := by simp [pageRange]
  have h := flatten_length_le (l := (pageRange pg n).map (pageEntry s)) (n := 10) fun x hx => by
    obtain ⟨q, -, rfl⟩ := List.mem_map.mp hx
    simp [pageEntry]
  rw [List.length_map] at h
  rw [List.length_append, be1_length]
  omega

theorem programSummary_length (s : State) (k : ProgId) : (programSummary s k).length = 5 := by
  unfold programSummary
  split <;> rfl

theorem programSummaries_length (s : State) : (((List.finRange 16).map (programSummary s)).flatten).length ≤ 249 := by
  have h := flatten_length_le (l := (List.finRange 16).map (programSummary s)) (n := 5) fun x hx => by
    obtain ⟨k, -, rfl⟩ := List.mem_map.mp hx
    exact (programSummary_length s k).le
  rw [List.length_map, List.length_finRange] at h
  omega

theorem programEntry_length {s : State} (h : ReplyBounds s) (k : ProgId) : (programEntry s k).length ≤ 249 := by
  unfold programEntry
  split
  · simp
  · rename_i d hd
    have h1 := program_length d
    have h2 := h.2.2 k d hd
    simp only [List.length_append, be1_length, flag1_length]
    omega

/-! ## COLLECT (R182) -/

theorem notice_length (n : Notice) : n.bytes.length = n.size := by
  simp only [Notice.bytes, Notice.size, List.length_append, List.length_cons, List.length_nil, be1_length, be4_length]

/-- The notices chosen from a lane fit the room. -/
theorem chooseFrom_fits : ∀ (max room : Nat) (l : List Notice), ((chooseFrom max room l).map Notice.size).sum ≤ room
  | 0, _, [] | _ + 1, _, [] | 0, _, _ :: _ => by simp [chooseFrom]
  | max + 1, room, n :: l => by
    unfold chooseFrom
    split
    · have := chooseFrom_fits max (room - n.size) l
      simp only [List.map_cons, List.sum_cons]
      omega
    · simp

theorem collectData_length (max : Nat) (q : NoticeQueue) : (collectData max q).length ≤ 249 := by
  have hsum : ∀ l : List Notice, ((l.map Notice.bytes).flatten).length = (l.map Notice.size).sum := by
    intro l
    rw [List.length_flatten, List.map_map]
    exact congrArg List.sum (List.map_congr_left fun n _ => notice_length n)
  have hu := chooseFrom_fits max 246 q.urgent
  have hboth : (((chosen max q).1 ++ (chosen max q).2).map Notice.size).sum ≤ 246 := by
    simp only [chosen, List.map_append, List.sum_append]
    split
    · have := chooseFrom_fits (max - (chooseFrom max 246 q.urgent).length)
        (246 - ((chooseFrom max 246 q.urgent).map Notice.size).sum) q.routine
      omega
    · simp only [List.map_nil, List.sum_nil]
      omega
  simp only [collectData, List.length_append, be1_length, hsum]
  omega

end Sys2Proof.Proofs.Lengths

/-! What one command can do, said once: the line, the pins and time apart, it makes at most one of the moves listed here,
each under the conditions that its rule sets. Every invariant of a step is a case analysis of these moves. -/

namespace Sys2Proof.Proofs.Steps

open Sys2Proof.Machine Sys2Proof.Safety Sys2Proof.Proofs.PatternStore Sys2Proof.Proofs.Requests Sys2Proof.Proofs.Line
open Sys2Proof.Proofs.Frames Sys2Proof.Proofs.Lengths

/-! ## The moves -/

/-- The line, the pins, the free values and time: nothing else differs, and time does not run back. -/
def Line (s t : State) : Prop := Touches [.link, .straps, .now, .draws] s t ∧ s.now ≤ t.now

theorem Line.refl (s : State) : Line s s := ⟨Touches.refl _ s, le_rfl⟩

theorem Line.trans {s t u : State} (h : Line s t) (g : Line t u) : Line s u :=
  ⟨h.1.trans g.1, h.2.trans g.2⟩

/-- Every piece, and the laws that a reset breaks. -/
abbrev allWork : List Piece := [.programs, .link, .straps, .now, .draws, .pending] ++ resetWork

/-- The move that a command makes of everything but the line, the pins and time, with the pieces it touches. -/
inductive Moves (c : Instr) : List Piece → State → State → Prop where
  | none {s : State} : Moves c [] s s
  -- resets
  | powerOn {s : State} (slot : BitVec 5) (rate : BitVec 2) (hc : c = .powerOn slot rate) :
      Moves c allWork s { State.poweredOn slot rate with freeDraws := s.freeDraws, pending := s.pending }
  | fullReset {s : State} (hc : mayReset c = true) : Moves c resetWork s (fullReset s)
  | runReset {s : State} (hc : mayReset c = true) : Moves c resetWork s (runReset s)
  -- the run controller
  | collected {s : State} (n : Nat) : Moves c [.urgent, .routine] s (modNotices (collected n) s)
  | timeout {s : State} (n : Nat) : Moves c [.permit] s (modRun (setTimeout n) s)
  | monitor {s : State} (e : Option Nat) (n : Nat) (v : Bool) :
      Moves c [.permit] s (modRun (fun r => { r with edgeTimer := e, edgeCount := n, permitValid := v }) s)
  | permitLost {s : State} :
      Moves c (.permit :: holdWork) s (permitLost (modRun (fun r => { r with edgeTimer := none, edgeCount := 0, permitValid := false }) s))
  | defined {s : State} {p : List Byte} {r : RunRecord} (hst : s.run.state = .idle ∨ s.run.state = .ready)
      (hr : runRecordAt p = some r) (hc : s.configured r.declared = true) (hp : s.progsDefined r = true) :
      Moves c [.life, .seq, .runState, .record, .routine] s (storeRecord r s)
  | started {s : State} {r : RunRecord} (hst : s.run.state = .ready) (hr : s.run.record = some r) :
      Moves c (startWork ++ [.law .final, .law .accounts, .law .demand]) s (startRun r s)
  | paused {s : State} (hst : s.run.state = .active) :
      Moves c [.seq, .chk, .checked, .routine, .live, .runState] s (runStateNotice false
        (holdBlocks (modRun (fun r => { r with state := .held, holds := { r.holds with host := true } }) s)))
  | pausedAgain {s : State} (hst : s.run.state = .held) :
      Moves c [.routine, .runState] s (runStateNotice false (modRun (fun r => { r with holds := { r.holds with host := true } }) s))
  | resumed {s : State} (hst : s.run.state = .held) : Moves c holdWork s (resumeRun s)
  | aborted {s : State} (hst : s.run.state = .ready ∨ s.started = true) : Moves c runEnd s (endRun .aborted s)
  | cleared {s : State} (hst : s.run.state = .finished ∨ s.run.state = .aborted) : 
      Moves c (clearWork ++ [.law .final, .law .accounts, .law .demand]) s (clearRun s)
  | programmed {s : State} {z : ZoneId} (e : ProgSel) (hst : s.run.state = .ready ∨ s.started = true)
      (hdone : (s.zone z).seq.state ≠ .done) : Moves c (.record :: .live :: passWork) s (assignProgram z e s)
  | hostRetired {s : State} {i : SocketId} (hst : s.started = true) (hlife : (s.sock i).life = .stressing) :
      Moves c retireWork s (retire i none s)
  | accounted {s : State} (e : Nat) (hst : s.run.acctTimer.isSome = true) :
      Moves c (.clock :: retireWork) s (finishTest (forEach allSockets creditOne
        (modRun (fun r => { r with clock := incTo top32 r.clock, acctTimer := some e }) s)))
  -- settings
  | railProf {s : State} (z : ZoneId) (p : RailProfile) (hst : s.started = false) : 
      Moves c [.railProf, .sample, .law .slots] s (storeRail z p s)
  | thermProf {s : State} (z : ZoneId) (p : ThermalProfile) (hst : s.started = false) :
      Moves c [.thermProf] s (modZone z (fun k => { k with thermProf := some p }) s)
  | trim {s : State} (i : SocketId) (x : Int) (n : Nat) :
      Moves c [.therm] s (modTherm i (fun t => { t with trim := x, rating := n }) s)
  | setpoint {s : State} {z : ZoneId} {p : ThermalProfile} (sp : Int) (hp : (s.zone z).thermProf = some p) :
      Moves c [.thermProf, .therm] s (storeSetpoint z p sp s)
  | budget {s : State} (z : ZoneId) (b : Nat) : Moves c [.budget, .therm, .armed, .routine] s (storeBudget z b s)
  -- the pattern store
  | pageOpened {s : State} {pg : PageId}
      (h : (s.page pg).state = .free ∨ (s.page pg).state = .opened ∧ s.stagedFor pg = false) : Moves c [.pages] s (openPage pg s)
  | pageFreed {s : State} {pg : PageId} (h : (s.page pg).state = .opened ∧ s.stagedFor pg = false ∨
      (s.page pg).state = .sealed ∧ (s.page pg).refs = 0) : Moves c [.pages] s (modPage pg Page.freed s)
  | pageSealed {s : State} {pg : PageId} (n : Nat) (h : (s.page pg).state = .opened) (hst : s.stagedFor pg = false) :
      Moves c [.pages] s (modPage pg (fun e => { e with state := .sealed, count := some n }) s)
  | chunkStaged {s : State} {x : Chunk} (bytes : List Byte) (hopen : (s.page x.page).state = .opened)
      (hcur : x.first = (s.page x.page).cursor) (hfit : x.first + x.vecs.length ≤ 512) (hfree : s.store.staging = none) :
      Moves c [.pages, .staging, .port] s (acceptChunk x bytes s)
  | programSet {s : State} {k : ProgId} {d : Program} (huse : s.inUse k = false) (hlen : d.pages.length ≤ 32)
      (hsealed : ∀ pg ∈ d.pages, (s.page pg).state = .sealed) : Moves c [.programs, .pages] s (setProgram k (some d) s)
  | programDropped {s : State} {k : ProgId} (huse : s.inUse k = false) : Moves c [.programs, .pages] s (setProgram k none s)
  | chunkWritten {s : State} {x : Chunk} (hport : s.store.port = some .staging) (hx : s.store.staging = some x) :
      Moves c [.mem, .staging, .port] s (releasePort (modStore (writeChunk x) s))
  -- playback
  | burst {s : State} {z : ZoneId} {f : Fetch} (w : List (Nat × Slot)) (hport : s.store.port = some (.burst z))
      (hf : (s.zone z).seq.fetch = some f) : Moves c (.urgent :: passWork) s (releasePort (burstRead z f w s))
  | burstLost {s : State} {z : ZoneId} (hport : s.store.port = some (.burst z)) (hf : (s.zone z).seq.fetch = Option.none) :
      Moves c [.port] s (releasePort s)
  | period {s : State} {z : ZoneId} {t : PageTag} {vs : List Vec} {v : Vec} (resp : Vector Byte 8)
      (hst : (s.zone z).seq.state = .playing) (hbuf : (s.zone z).seq.buf (s.zone z).seq.play.buf = .full t vs) :
      Moves c verdictWork s (nextVector z t vs v (if v.strobe then strobeSample z v resp s else s))
  | gapEnded {s : State} {z : ZoneId} (hst : (s.zone z).seq.state = .gap) : Moves c passWork s (enterPriming z s)
  -- rails
  | sampled {s : State} {i : SocketId} (mA mV : Nat) :
      Moves c [.sample] s (modRail i (Rail.takeSample (s.windowLen (zoneOf i)) mA mV) s)
  | railOn {s : State} {i : SocketId} {p : RailProfile} (mA mV : Nat) (hc : movesRail i c = true)
      (hst : (s.sock i).rail.state = .ramp2) (hp : (s.zone (zoneOf i)).railProf = some p) :
      Moves c [.sample, .railState, .timers, .queue, .power, .armed, .routine, .live, .checked] s (enterOn p i mA (modRail i (Rail.takeSample (s.windowLen (zoneOf i)) mA mV) s))
  | railSampled {s : State} {i : SocketId} {p : RailProfile} (mA mV : Nat) (hc : movesRail i c = true)
      (hst : (s.sock i).rail.state = .on) (hp : (s.zone (zoneOf i)).railProf = some p) :
      Moves c (.sample :: .trips :: retireWork) s (sampleOn p i mA (modRail i (Rail.takeSample (s.windowLen (zoneOf i)) mA mV) s))
  | phase2 {s : State} {i : SocketId} (hst : (s.sock i).rail.state = .ramp1) :
      Moves c [.railState, .timers] s (modRail i (fun r => { r with state := .ramp2, phase1Timer := Option.none }) s)
  | rampFailed {s : State} {i : SocketId} {p : RailProfile} (hc : movesRail i c = true)
      (hst : (s.sock i).rail.state.ramping = true) (hp : (s.zone (zoneOf i)).railProf = some p) :
      Moves c (.trips :: retireWork) s (railTrip p i .railRamp (s.sock i).rail.lastCurrent (s.sock i).rail.state s)
  | stable {s : State} {i : SocketId} : Moves c [.trips, .timers] s (modRail i (fun r => { r with trips := 0, stableTimer := Option.none }) s)
  | offTimeEnded {s : State} {i : SocketId} (hc : movesRail i c = true) (ht : (s.sock i).rail.offTimer.isSome = true) :
      Moves c [.railState, .timers, .queue] s (leaveRest i (modRail i (fun r => { r with offTimer := Option.none }) s))
  -- heaters
  | answerTimer {s : State} (i : SocketId) (e : Option Nat) : Moves c [.therm] s (modTherm i (fun t => { t with answerTimer := e }) s)
  | good {s : State} (i : SocketId) (x : Int) :
      Moves c retireWork s (goodReading i x (modTherm i (fun t => { t with answerTimer := Option.none }) s))
  | bad {s : State} (i : SocketId) : Moves c retireWork s (badReading i (modTherm i (fun t => { t with answerTimer := Option.none }) s))
  -- heartbeats
  | edge {s : State} {i : SocketId} {h : HbPart} : Moves c [.live] s (validEdge i h s)
  | released {s : State} {i : SocketId} : Moves c [.live] s (hbReleaseReset i s)
  | ignored {s : State} {i : SocketId} : Moves c [.live] s (waitOrIdle i s)
  | hbFailed {s : State} {i : SocketId} (k : FailKind) (d : Detail) (hk : k = .heartbeatEarly ∨ k = .heartbeatLate) :
      Moves c retireWork s (hbFailure i k d s)

/-! ## What the moves touch -/

/-- A record of a RUN-DEFINE payload has its limit from 1 on (R4). -/
theorem runRecordAt_limit {p : List Byte} {r : RunRecord} (h : runRecordAt p = some r) : 1 ≤ r.retireLimit := by
  simp only [runRecordAt] at h
  split at h
  · obtain ⟨progs, -, h⟩ := Option.bind_eq_some_iff.mp h
    obtain ⟨disp, -, rfl⟩ := Option.map_eq_some_iff.mp h
    exact Nat.le_max_left _ _
  · cases h

theorem collected_touches (n : Nat) (s : State) : Touches [.urgent, .routine] s (modNotices (collected n) s) :=
  (modNotices_touches (collected n) s).keep (x := .lanes)
    ⟨fun h => by simp only [modNotices, collected, List.length_drop]; omega,
      fun h => by simp only [modNotices, collected, List.length_drop]; omega⟩

theorem noAnswer_touches (i : SocketId) (s : State) :
    Touches [.therm] s (modTherm i (fun t => { t with answerTimer := Option.none }) s) := modTherm_aside rfl rfl rfl rfl

/-- The moves touch the pieces of their lists, and keep every law that stands in none of them. -/
theorem Moves.touches {c : Instr} {l : List Piece} {s t : State} (h : Moves c l s t) : Touches l s t := by
  cases h with
  | none => exact Touches.refl _ s
  | powerOn slot rate hc =>
    intro p hp
    cases p with
    | law x => exact ⟨fun _ => trivial, fun _ => trivial, (atRest_poweredOn slot rate s).kept
        (by rintro rfl; exact absurd hp (by decide)) (by rintro rfl; exact absurd hp (by decide)) s⟩
    | _ => exact absurd hp (by decide)
  | fullReset hc => exact (atRest_fullReset s).touches rfl rfl rfl rfl rfl rfl
  | runReset hc => exact (atRest_runReset s).touches rfl rfl rfl rfl rfl rfl
  | collected n => exact collected_touches n s
  | timeout n => exact setTimeout_touches n s
  | monitor e n v => exact setMonitor_touches e n v s
  | permitLost => exact (setMonitor_touches Option.none 0 false s).comp (permitLost_touches _)
  | defined hst hr => exact storeRecord_touches hst (runRecordAt_limit hr)
  | started hst hr => exact startRun_touches hst hr
  | paused hst => exact paused_touches hst
  | pausedAgain hst => exact pausedAgain_touches hst
  | resumed hst => exact resumeRun_touches hst
  | aborted hst =>
    refine (endRun_touches (.inr rfl)).keep (x := .runTable) fun hs => endRun_runTable (.inr rfl) (hs.1.mpr ?_)
    rcases hst with h | h
    · rw [h]; decide
    · rintro hi; unfold State.started at h; rw [hi] at h; exact absurd h (by decide)
  | cleared hst => exact clearRun_touches (by unfold State.started; rcases hst with h | h <;> rw [h] <;> rfl)
  | programmed e => exact assignProgram_touches _ e s
  | hostRetired hst hlife => exact retire_keeps hst hlife
  | accounted e hst => exact accounted_touches hst
  | railProf z p => exact storeRail_touches z p s
  | thermProf z p hst => exact storeThermal_touches p hst
  | trim i x n => exact modTherm_aside rfl rfl rfl rfl
  | setpoint sp hp => exact storeSetpoint_touches sp hp
  | budget z b => exact storeBudget_touches z b s
  | pageOpened => exact modPage_touches _ _ s
  | pageFreed => exact modPage_touches _ _ s
  | pageSealed n => exact modPage_touches _ _ s
  | chunkStaged bytes => exact acceptChunk_touches _ bytes s
  | programSet => exact setProgram_touches _ _ s
  | programDropped => exact setProgram_touches _ _ s
  | chunkWritten => exact chunkWritten_touches _ s
  | burst w _ hf => exact burstDone_touches w hf
  | burstLost => exact releasePort_touches s
  | period resp hst =>
    rename_i z _ _ v _
    have h1 : Touches [.context] s (if v.strobe then strobeSample z v resp s else s) :=
      ite_touches (strobeSample_touches z v resp s) (Touches.refl _ s)
    exact h1.comp (nextVector_touches _ _ _ (by rw [h1.seq]; exact hst))
  | gapEnded hst => exact enterPriming_keeps (.inl (by rw [hst]; decide))
  | sampled mA mV => exact takeSample_touches _ _ mA mV s
  | railOn mA mV _ hst => exact (takeSample_touches _ _ mA mV s).comp (enterOn_touches mA (by
      rw [(takeSample_touches _ _ mA mV s).railState]; exact hst))
  | railSampled mA mV => exact (takeSample_touches _ _ mA mV s).comp (sampleOn_touches _ _ mA _)
  | phase2 hst => exact toRamp2_touches hst
  | rampFailed => exact railTrip_touches _ _ _ _ _ s
  | stable => exact stable_touches _ s
  | offTimeEnded => exact offTimeEnded_touches _ s
  | answerTimer i e => exact modTherm_aside rfl rfl rfl rfl
  | good i x => exact (noAnswer_touches i s).comp (goodReading_touches i x _)
  | bad i => exact (noAnswer_touches i s).comp (badReading_touches i _)
  | edge => exact validEdge_touches _ _ s
  | released => exact hbReleaseReset_touches _ s
  | ignored => exact waitOrIdle_touches _ s
  | hbFailed k d => exact hbFailure_touches _ k d s

/-- The line at one time. -/
def Still (s t : State) : Prop := Line s t ∧ t.now = s.now

/-- What a command, begun in `s`, leaves: a move of the rest after time and the line, and the line after it. -/
def Ends (c : Instr) (s t : State) : Prop := ∃ l u v, Line s u ∧ Moves c l u v ∧ Still v t

section
variable {c : Instr} {l : List Piece} {s t u : State}

theorem Ends.line (h : Line s t) : Ends c s t := ⟨_, t, t, h, .none, Line.refl t, rfl⟩

theorem Ends.same : Ends c s s := Ends.line (Line.refl s)

theorem Ends.move (h : Moves c l s t) : Ends c s t := ⟨l, s, t, Line.refl s, h, Line.refl t, rfl⟩

theorem Ends.after (h : Line s t) (g : Ends c t u) : Ends c s u := by
  obtain ⟨l, v, w, h1, h2, h3⟩ := g
  exact ⟨l, v, w, h.trans h1, h2, h3⟩

theorem Ends.before (h : Ends c s t) (g : Line t u) (hn : u.now = t.now := by rfl) : Ends c s u := by
  obtain ⟨l, v, w, h1, h2, h3, hw⟩ := h
  exact ⟨l, v, w, h1, h2, h3.trans g, hn.trans hw⟩

end

theorem line_modLink (f : Link → Link) (s : State) : Line s (modLink f s) := ⟨(modLink_touches f s).mono, le_rfl⟩

theorem line_advanceTo (n : Nat) (s : State) : Line s (advanceTo n s) :=
  ⟨(advanceTo_touches n s).mono, Nat.le_max_left _ _⟩

/-- A state that differs in the link port and the strap pins alone. -/
theorem line_link (s : State) (l : Link) (x : Straps) : Line s { s with link := l, straps := x } :=
  ⟨board_touches (l := [.link, .straps, .now, .draws]) (t := { s with link := l, straps := x }) rfl rfl fun p hp hlaw => by
    cases p with
    | link | straps => exact absurd hp (by decide)
    | law y => exact absurd rfl (hlaw y)
    | _ => simp [BoardSame], le_rfl⟩

theorem line_setLink (s : State) (l : Link) : Line s { s with link := l } := line_link s l s.straps

theorem line_setDraws (s : State) (n : Nat) : Line s { s with freeDraws := n } :=
  ⟨board_touches (l := [.link, .straps, .now, .draws]) (t := { s with freeDraws := n }) rfl rfl fun p hp hlaw => by
    cases p with
    | draws => exact absurd hp (by decide)
    | law y => exact absurd rfl (hlaw y)
    | _ => simp [BoardSame], le_rfl⟩

/-! ## The requests' owners -/

/-- What the owner of a request may do: at most one move, nothing to the link port but what a reset does, a change only
where it answers OK, CLAMPED or PERMIT-ABSENT, and data that fit a frame. -/
structure Answers (c : Instr) (s : State) (x : State × Answer) : Prop where
  ends : Ends c s x.1
  link : x.1.link = s.link ∨ mayReset c = true ∧ x.1.link = Link.ofStraps s.straps.slot s.straps.rate
  kept : x.1 = s ∨ x.2.status = .ok ∨ x.2.status = .clamped ∨ x.2.status = .permitAbsent
  fits : ReplyBounds s → x.2.data.length ≤ 249

section
variable {c : Instr} {l : List Piece} {s t : State} {data : List Byte}

/-- A refusal changes nothing. -/
theorem Answers.refuse {st : Status} (h : data.length ≤ 249 := by simp) : Answers c s (refuse st s data) :=
  ⟨Ends.same, .inl rfl, .inl rfl, fun _ => h⟩

/-- A report changes nothing. -/
theorem Answers.report {b : Bool} (h : ReplyBounds s → data.length ≤ 249) : Answers c s (done b s data) :=
  ⟨Ends.same, .inl rfl, .inl rfl, h⟩

/-- A request that is taken makes its move. -/
theorem Answers.done {b : Bool} (hm : Moves c l s t) (h : data.length ≤ 249 := by simp)
    (hl : Piece.link.isIn l = false := by rfl) : Answers c s (done b t data) :=
  ⟨Ends.move hm, .inl (hm.touches.link hl), .inr (by cases b <;> simp [Machine.done]), fun _ => h⟩

end

/-- The owner of a request, whatever payload it comes with. -/
def OpAnswers (c : Instr) (op : Op) : Prop := ∀ p s, Answers c s (op p s)

section
variable {c : Instr}

theorem fixedLen_answers {n : Nat} {op : Op} (h : OpAnswers c op) : OpAnswers c (fixedLen n op) := by
  intro p s
  unfold fixedLen
  split
  · exact h p s
  · exact Answers.refuse

theorem answers_ite {p : Prop} [Decidable p] {s : State} {x y : State × Answer} (hx : p → Answers c s x)
    (hy : ¬ p → Answers c s y) : Answers c s (if p then x else y) := by
  split
  · exact hx ‹p›
  · exact hy ‹¬ p›

theorem opIdent_answers : OpAnswers c opIdent := fixedLen_answers fun _ _ => Answers.report fun _ => by simp

theorem opCollect_answers : OpAnswers c opCollect := fixedLen_answers fun p s => by
  simp only []
  split
  · exact Answers.refuse
  · exact Answers.done (.collected _) (collectData_length _ _)

theorem opBoardSetup_answers : OpAnswers c opBoardSetup := fixedLen_answers fun p s => by
  simp only []
  split
  · exact Answers.refuse
  · exact Answers.done (.timeout _)

theorem opBoardReset_answers (hc : mayReset c = true) : OpAnswers c opBoardReset := fixedLen_answers fun p s => by
  simp only []
  split_ifs
  · exact Answers.done (.runReset hc)
  · exact ⟨(Ends.move (.fullReset hc)).before (line_setLink (fullReset s) (Link.ofStraps s.straps.slot s.straps.rate)),
      .inr ⟨hc, rfl⟩, .inr (.inl rfl), fun _ => by simp [done]⟩
  · exact Answers.refuse

theorem opRunDefine_answers : OpAnswers c opRunDefine := by
  intro p s
  simp only [opRunDefine]
  split_ifs with h1 h2
  · exact Answers.refuse
  · exact Answers.refuse
  · have hst : s.run.state = .idle ∨ s.run.state = .ready := by by_contra h; exact h2 (by push Not at h; exact h)
    cases hr : runRecordAt p with
    | none => exact Answers.refuse
    | some r =>
      simp only []
      split_ifs with h3 h4 h5
      · exact Answers.refuse
      · exact Answers.refuse
      · exact Answers.done (.defined hst hr (by simpa using h3) (by simpa using h4))
      · exact Answers.done (.defined hst hr (by simpa using h3) (by simpa using h4))

theorem opRunStart_answers : OpAnswers c opRunStart := fixedLen_answers fun p s => by
  split
  · rename_i r hst hr
    split
    · exact Answers.done (.started hst hr)
    · exact Answers.refuse
  · exact Answers.refuse

theorem opRunPause_answers : OpAnswers c opRunPause := fixedLen_answers fun p s => by
  simp only []
  split
  · rename_i hst; exact Answers.done (.paused hst)
  · rename_i hst
    split
    · exact Answers.report fun _ => by simp
    · exact Answers.done (.pausedAgain hst)
  all_goals exact Answers.refuse

theorem opRunResume_answers : OpAnswers c opRunResume := fixedLen_answers fun p s => by
  split
  · rename_i hst
    have hm : Moves c holdWork s (resumeRun s) := .resumed hst
    refine ⟨Ends.move hm, .inl hm.touches.link, .inr ?_, fun _ => by simp⟩
    cases s.run.resumed.permit <;> simp
  · exact Answers.refuse

theorem opRunAbort_answers : OpAnswers c opRunAbort := fixedLen_answers fun p s => by
  split
  · rename_i hst; exact Answers.done (.aborted hst)
  · exact Answers.refuse

theorem opRunClear_answers : OpAnswers c opRunClear := fixedLen_answers fun p s => by
  split
  · rename_i hst; exact Answers.done (.cleared hst)
  · exact Answers.refuse

theorem opRunReport_answers : OpAnswers c opRunReport := fixedLen_answers fun _ _ => Answers.report runReport_length

theorem opZoneRail_answers : OpAnswers c opZoneRail := fixedLen_answers fun p s => by
  simp only []
  split
  · exact Answers.refuse
  · rename_i hst
    split
    · exact Answers.refuse
    · split
      · exact Answers.done (.railProf _ _ (by simpa using hst))
      · exact Answers.refuse

theorem opZoneThermal_answers : OpAnswers c opZoneThermal := fixedLen_answers fun p s => by
  simp only []
  split
  · exact Answers.refuse
  · rename_i hst
    split
    · exact Answers.refuse
    · split
      · exact Answers.done (.thermProf _ _ (by simpa using hst))
      · exact Answers.refuse

theorem opSocketThermal_answers : OpAnswers c opSocketThermal := fixedLen_answers fun p s => by
  simp only []
  split
  · exact Answers.refuse
  · exact Answers.done (.trim _ _ _)

theorem opSetpoint_answers : OpAnswers c opSetpoint := fixedLen_answers fun p s => by
  simp only []
  split
  · exact Answers.refuse
  · split
    · exact Answers.refuse
    · rename_i hp
      split
      · exact Answers.refuse
      · exact Answers.done (.setpoint _ hp)

theorem opZoneBudget_answers : OpAnswers c opZoneBudget := fixedLen_answers fun p s => by
  simp only []
  split
  · exact Answers.refuse
  · exact Answers.done (.budget _ _)

theorem opZoneProgram_answers : OpAnswers c opZoneProgram := fixedLen_answers fun p s => by
  simp only []
  split_ifs with hst
  · exact Answers.refuse
  · have hst : s.run.state = .ready ∨ s.started = true := by
      by_contra h
      push Not at h
      exact hst ⟨h.1, by simpa using h.2⟩
    split
    · split_ifs with h1 h2
      · exact Answers.refuse
      · exact Answers.refuse
      · exact Answers.done (.programmed _ hst (by push Not at h1; exact h1.2))
    · exact Answers.refuse

theorem opZoneReport_answers : OpAnswers c opZoneReport := fixedLen_answers fun p s => by
  split
  · exact Answers.refuse
  · exact Answers.report fun _ => by rw [zoneReport_length]; decide

theorem opPageOpen_answers : OpAnswers c opPageOpen := fixedLen_answers fun p s => by
  simp only []
  split
  · rename_i h; exact Answers.done (.pageOpened (.inl h))
  · rename_i h
    split
    · exact Answers.refuse
    · rename_i hs; exact Answers.done (.pageOpened (.inr ⟨h, by simpa using hs⟩))
  · split
    · exact Answers.refuse
    · exact Answers.refuse

theorem opPageFree_answers : OpAnswers c opPageFree := fixedLen_answers fun p s => by
  simp only []
  split
  · exact Answers.report fun _ => by simp
  · rename_i h
    split
    · exact Answers.refuse
    · rename_i hs; exact Answers.done (.pageFreed (.inl ⟨h, by simpa using hs⟩))
  · rename_i h
    split
    · exact Answers.refuse
    · rename_i hs; exact Answers.done (.pageFreed (.inr ⟨h, by omega⟩))

theorem opPageData_answers : OpAnswers c opPageData := by
  intro p s
  simp only [opPageData]
  split_ifs with h1 h2 h3 h4 h5 h6
  any_goals exact Answers.refuse
  refine Answers.done (.chunkStaged _ (by simpa using h3) (by simpa using h4) ?_ (by simpa using h6))
  simp only [vecsAt, List.length_map, List.length_range]
  omega

theorem opPageClose_answers : OpAnswers c opPageClose := fixedLen_answers fun p s => by
  simp only []
  split_ifs with h1 h2 h3
  · exact Answers.refuse
  · exact Answers.refuse
  · exact Answers.refuse
  · split
    · exact Answers.refuse
    · exact Answers.done (.pageSealed _ (by simpa using h2) (by simpa using h1))

theorem opPageList_answers : OpAnswers c opPageList := fixedLen_answers fun p s => by
  simp only []
  split
  · exact Answers.refuse
  · rename_i h
    exact Answers.report fun _ => pageList_length s _ (by omega)

theorem opProgramDefine_answers : OpAnswers c opProgramDefine := by
  intro p s
  simp only [opProgramDefine]
  split_ifs with h1
  · exact Answers.refuse
  · split
    · rename_i k mode _ _
      refine answers_ite (fun _ => Answers.refuse) fun h2 => answers_ite (fun _ => Answers.refuse) fun h3 => ?_
      · split
        · exact Answers.refuse
        · rename_i hun
          split
          · exact Answers.refuse
          · have hpages : (programSent p mode).pages.length ≤ 32 := by
              simp only [Program.fieldsOk, Bool.and_eq_true, decide_eq_true_eq, Bool.not_eq_false] at h2
              exact h2.1.2.1
            refine Answers.done (.programSet (by simpa using h3) hpages fun pg hpg => ?_) ?_
            · simpa using List.find?_eq_none.mp hun pg hpg
            · have := (program_length (programSent p mode).taken).trans (Nat.add_le_add_left hpages 26)
              rw [List.length_append, be1_length]
              omega
    · exact Answers.refuse

theorem opProgramDelete_answers : OpAnswers c opProgramDelete := fixedLen_answers fun p s => by
  split
  · exact Answers.refuse
  · split_ifs with h1 h2
    · exact Answers.refuse
    · exact Answers.refuse
    · exact Answers.done (.programDropped (by simpa using h2))

theorem opProgramList_answers : OpAnswers c opProgramList := fixedLen_answers fun p s => by
  split
  · exact Answers.report fun _ => programSummaries_length s
  · split
    · exact Answers.refuse
    · exact Answers.report fun h => programEntry_length h _

theorem opSocketRetire_answers : OpAnswers c opSocketRetire := fixedLen_answers fun p s => by
  split
  · exact Answers.refuse
  · split
    · rename_i h; exact Answers.done (.hostRetired h.1 h.2)
    · exact Answers.refuse

theorem opSocketReport_answers : OpAnswers c opSocketReport := fixedLen_answers fun p s => by
  split
  · exact Answers.refuse
  · rename_i i _
    have hfits : ReplyBounds s → (socketReport s i).length ≤ 249 := fun _ => by rw [socketReport_length]; decide
    split
    · exact ⟨Ends.line (line_setDraws s _), .inl rfl, .inr (.inl rfl), hfits⟩
    · exact Answers.report hfits

theorem opFailLog_answers : OpAnswers c opFailLog := fixedLen_answers fun p s => by
  simp only []
  split
  · exact Answers.refuse
  · exact Answers.report fun h => failLog_length h _

theorem opUnknown_answers : OpAnswers c opUnknown := fun _ _ => Answers.refuse

theorem opAnswers_ite {p : Prop} [Decidable p] {a b : Op} (ha : p → OpAnswers c a) (hb : OpAnswers c b) :
    OpAnswers c (if p then a else b) := by
  split
  · exact ha ‹p›
  · exact hb

/-- The owner of any kind makes at most one move, a reset only for the kind of BOARD-RESET. -/
theorem kindOp_answers {kind : Byte} (h : kind = 0x04 → mayReset c = true) : OpAnswers c (kindOp kind) := by
  unfold kindOp
  refine opAnswers_ite (fun _ => opIdent_answers) ?_
  refine opAnswers_ite (fun _ => opCollect_answers) ?_
  refine opAnswers_ite (fun _ => opBoardSetup_answers) ?_
  refine opAnswers_ite (fun hk => opBoardReset_answers (h hk)) ?_
  refine opAnswers_ite (fun _ => opRunDefine_answers) ?_
  refine opAnswers_ite (fun _ => opRunStart_answers) ?_
  refine opAnswers_ite (fun _ => opRunPause_answers) ?_
  refine opAnswers_ite (fun _ => opRunResume_answers) ?_
  refine opAnswers_ite (fun _ => opRunAbort_answers) ?_
  refine opAnswers_ite (fun _ => opRunClear_answers) ?_
  refine opAnswers_ite (fun _ => opRunReport_answers) ?_
  refine opAnswers_ite (fun _ => opZoneRail_answers) ?_
  refine opAnswers_ite (fun _ => opZoneThermal_answers) ?_
  refine opAnswers_ite (fun _ => opSocketThermal_answers) ?_
  refine opAnswers_ite (fun _ => opSetpoint_answers) ?_
  refine opAnswers_ite (fun _ => opZoneBudget_answers) ?_
  refine opAnswers_ite (fun _ => opZoneProgram_answers) ?_
  refine opAnswers_ite (fun _ => opZoneReport_answers) ?_
  refine opAnswers_ite (fun _ => opPageOpen_answers) ?_
  refine opAnswers_ite (fun _ => opPageData_answers) ?_
  refine opAnswers_ite (fun _ => opPageClose_answers) ?_
  refine opAnswers_ite (fun _ => opPageFree_answers) ?_
  refine opAnswers_ite (fun _ => opPageList_answers) ?_
  refine opAnswers_ite (fun _ => opProgramDefine_answers) ?_
  refine opAnswers_ite (fun _ => opProgramDelete_answers) ?_
  refine opAnswers_ite (fun _ => opProgramList_answers) ?_
  refine opAnswers_ite (fun _ => opSocketRetire_answers) ?_
  refine opAnswers_ite (fun _ => opSocketReport_answers) ?_
  refine opAnswers_ite (fun _ => opFailLog_answers) ?_
  exact opUnknown_answers

/-! ## Frames and characters -/

theorem judged_ends {kind : Byte} {op : Op} (f : Frame) (s : State) (h : OpAnswers c op) :
    Ends c s (judged kind op f s) := by
  unfold judged
  split
  · exact Ends.same
  · exact (h f.payload s).ends
  · exact (h f.payload s).ends.before (line_modLink _ _)

theorem takeFrame_ends {kind : Byte} {op : Op} (f : Frame) (s : State) (h : OpAnswers c op) :
    Ends c s (takeFrame kind op f s) := by
  simp only [takeFrame]
  split
  · split
    · exact Ends.line (line_modLink _ s)
    · exact (judged_ends f _ h).after (line_modLink _ s)
  · exact Ends.same

theorem takeCharacter_ends (hc : mayReset c = true) (ch : Byte) (bad : Bool) (s : State) :
    Ends c s (takeCharacter ch bad s) := by
  have hdrop := line_modLink Link.dropPending s
  simp only [takeCharacter]
  split
  · split
    · exact Ends.line (hdrop.trans (line_modLink _ _))
    · split
      · exact (judged_ends _ _ (kindOp_answers fun _ => hc)).after (hdrop.trans (line_modLink _ _))
      · exact Ends.line (hdrop.trans (line_link _ _ _))
  · exact Ends.same

theorem request_ends {kind : Byte} {f : Frame} {s t : State} (h : requestOf c = some (kind, f))
    (ht : exec c s = .next t) : Ends c s t := by
  obtain ⟨x, hx, -⟩ := exec_of_requestOf h s
  rw [hx] at ht
  injection ht with ht
  subst ht
  refine (takeFrame_ends f _ (kindOp_answers fun hk => ?_)).after (line_link s s.link x)
  subst hk
  exact mayReset_of_boardReset h

end

/-! ## The block's own events -/

/-- The event is none of the line, the pins or the resets. -/
def isEvent : Instr → Bool
  | .ovenPermitEdge | .permitTimerExpiry | .railSample _ _ _ | .phase1TimerExpiry _ | .rampTimeout _ | .stableTimerExpiry _
  | .offTimeExpiry _ | .sensorRequest _ | .sensorAnswer _ _ | .sensorTimeout _ | .stagingWriteDone | .fetchBurstDone _
  | .vectorPeriodEnd _ _ | .gapTimerExpiry _ | .heartbeatEdge _ _ | .resetHeldExpiry _ | .ignoreExpiry _
  | .heartbeatLate _ | .accountingTimerExpiry => true
  | _ => false

/-- What an event may do: at most one move, and nothing to the link port. -/
structure Quiet (c : Instr) (s t : State) : Prop where
  ends : Ends c s t
  link : t.link = s.link

section
variable {c : Instr} {l : List Piece} {s t : State}

theorem Quiet.same : Quiet c s s := ⟨Ends.same, rfl⟩

theorem Quiet.move (h : Moves c l s t) (hl : Piece.link.isIn l = false := by rfl) : Quiet c s t :=
  ⟨Ends.move h, h.touches.link hl⟩

theorem Quiet.advance (n : Nat) (s : State) : Quiet c s (advanceTo n s) := ⟨Ends.line (line_advanceTo n s), rfl⟩

theorem Quiet.advanced {n : Nat} (h : Quiet c (advanceTo n s) t) : Quiet c s t :=
  ⟨h.ends.after (line_advanceTo n s), h.link⟩

end

/-- What an event can do. -/
theorem event_quiet {c : Instr} {s t : State} (hc : isEvent c = true) (ht : exec c s = .next t) : Quiet c s t := by
  cases c with
  | ovenPermitEdge =>
    simp only [exec, execOvenPermitEdge] at ht
    split at ht
    · injection ht with ht; subst ht; exact Quiet.same
    · split at ht
      · injection ht with ht; subst ht
        exact Quiet.move (.monitor (some (afterMs s.run.permitTimeout s)) 1 s.run.permitValid)
      · injection ht with ht; subst ht
        exact Quiet.move (.monitor (some (afterMs s.run.permitTimeout s)) (min 2 (s.run.edgeCount + 1))
          (s.run.permitValid || decide (2 ≤ s.run.edgeCount + 1)))
  | permitTimerExpiry =>
    simp only [exec, execPermitTimerExpiry] at ht
    split at ht
    · injection ht with ht; subst ht; exact Quiet.same
    · injection ht with ht; subst ht
      split
      · exact (Quiet.move .permitLost).advanced
      · exact (Quiet.move (.monitor none 0 false)).advanced
  | railSample i mA mV =>
    have hc : movesRail i (.railSample i mA mV) = true := by simp [movesRail]
    simp only [exec, execRailSample] at ht
    split at ht
    · rename_i p hst hp
      injection ht with ht; subst ht
      split
      · exact Quiet.move (.railOn _ _ hc hst hp)
      · exact Quiet.move (.sampled _ _)
    · rename_i p hst hp
      injection ht with ht; subst ht
      exact Quiet.move (.railSampled _ _ hc hst hp)
    · injection ht with ht; subst ht; exact Quiet.move (.sampled _ _)
  | phase1TimerExpiry i =>
    simp only [exec, execPhase1TimerExpiry] at ht
    split at ht
    · rename_i hst _
      injection ht with ht; subst ht
      exact (Quiet.move (.phase2 (s := advanceTo _ s) hst)).advanced
    · injection ht with ht; subst ht; exact Quiet.same
  | rampTimeout i =>
    have hc : movesRail i (.rampTimeout i) = true := by simp [movesRail]
    simp only [exec, execRampTimeout] at ht
    split at ht
    · rename_i e p he hp
      split at ht
      · rename_i hst
        injection ht with ht; subst ht
        exact (Quiet.move (.rampFailed (s := advanceTo e s) hc hst hp)).advanced
      · injection ht with ht; subst ht; exact Quiet.same
    · injection ht with ht; subst ht; exact Quiet.same
  | stableTimerExpiry i =>
    simp only [exec, execStableTimerExpiry] at ht
    split at ht
    · injection ht with ht; subst ht
      exact (Quiet.move .stable).advanced
    · injection ht with ht; subst ht; exact Quiet.same
  | offTimeExpiry i =>
    have hc : movesRail i (.offTimeExpiry i) = true := by simp [movesRail]
    simp only [exec, execOffTimeExpiry] at ht
    split at ht
    · rename_i e he
      injection ht with ht; subst ht
      have hsome : (s.sock i).rail.offTimer.isSome = true := by rw [he]; rfl
      exact (Quiet.move (.offTimeEnded (s := advanceTo e s) hc hsome)).advanced
    · injection ht with ht; subst ht; exact Quiet.same
  | sensorRequest i => injection ht with ht; subst ht; exact Quiet.move (.answerTimer i _)
  | sensorAnswer i x =>
    simp only [exec, execSensorAnswer] at ht
    split at ht
    · injection ht with ht; subst ht; exact Quiet.same
    · injection ht with ht; subst ht
      split
      · exact Quiet.move (.good i x)
      · exact Quiet.move (.bad i)
  | sensorTimeout i =>
    simp only [exec, execSensorTimeout] at ht
    split at ht
    · injection ht with ht; subst ht; exact Quiet.same
    · injection ht with ht; subst ht
      exact (Quiet.move (.bad i)).advanced
  | stagingWriteDone =>
    simp only [exec, execStagingWriteDone] at ht
    split at ht
    · rename_i hport hx
      injection ht with ht; subst ht
      exact (Quiet.move (.chunkWritten (s := advanceTo s.store.portEnd s) hport hx)).advanced
    · injection ht with ht; subst ht; exact Quiet.same
  | fetchBurstDone w =>
    simp only [exec, execFetchBurstDone] at ht
    split at ht
    · rename_i z hport
      split at ht
      · rename_i f hf
        injection ht with ht; subst ht
        exact (Quiet.move (.burst (s := advanceTo s.store.portEnd s) w hport hf)).advanced
      · rename_i hf
        injection ht with ht; subst ht
        exact (Quiet.move (.burstLost (s := advanceTo s.store.portEnd s) hport hf)).advanced
    · injection ht with ht; subst ht; exact Quiet.same
  | vectorPeriodEnd z resp =>
    simp only [exec, execVectorPeriodEnd] at ht
    split at ht
    · rename_i t vs v hst hbuf _
      injection ht with ht; subst ht
      exact (Quiet.move (.period (s := advanceTo (s.zone z).seq.periodEnd s) (v := v) resp hst hbuf)).advanced
    · injection ht with ht; subst ht; exact Quiet.same
  | gapTimerExpiry z =>
    simp only [exec, execGapTimerExpiry] at ht
    split at ht
    · rename_i e hst _
      injection ht with ht; subst ht
      exact (Quiet.move (.gapEnded (s := advanceTo e s) hst)).advanced
    · injection ht with ht; subst ht; exact Quiet.same
  | heartbeatEdge i ms =>
    simp only [exec, execHeartbeatEdge] at ht
    split at ht
    · injection ht with ht; subst ht
      exact (Quiet.move .edge).advanced
    · injection ht with ht; subst ht
      split
      · exact (Quiet.move .edge).advanced
      · exact (Quiet.move (.hbFailed _ _ (.inl rfl))).advanced
    · injection ht with ht; subst ht; exact Quiet.advance _ s
  | resetHeldExpiry i =>
    simp only [exec, execResetHeldExpiry] at ht
    split at ht
    · injection ht with ht; subst ht
      exact (Quiet.move .released).advanced
    · injection ht with ht; subst ht; exact Quiet.same
  | ignoreExpiry i =>
    simp only [exec, execIgnoreExpiry] at ht
    split at ht
    · injection ht with ht; subst ht
      exact (Quiet.move .ignored).advanced
    · injection ht with ht; subst ht; exact Quiet.same
  | heartbeatLate i =>
    simp only [exec, execHeartbeatLate] at ht
    split at ht
    · injection ht with ht; subst ht
      exact (Quiet.move (.hbFailed _ _ (.inr rfl))).advanced
    · injection ht with ht; subst ht
      exact (Quiet.move (.hbFailed _ _ (.inr rfl))).advanced
    · injection ht with ht; subst ht; exact Quiet.same
  | accountingTimerExpiry =>
    simp only [exec, execAccountingTimerExpiry] at ht
    split at ht
    · injection ht with ht; subst ht; exact Quiet.same
    · rename_i e he
      injection ht with ht; subst ht
      have hsome : s.run.acctTimer.isSome = true := by rw [he]; rfl
      exact (Quiet.move (.accounted (s := advanceTo e s) (e + 1000 * Config.cyclesPerMs) hsome)).advanced
  | _ => exact absurd hc Bool.false_ne_true

/-! ## Every command -/

/-- What one command can do. -/
theorem exec_ends {c : Instr} {s t : State} (ht : exec c s = .next t) : Ends c s t := by
  by_cases hev : isEvent c = true
  · exact (event_quiet hev ht).ends
  cases hreq : requestOf c with
  | some x => exact request_ends hreq ht
  | none => ?_
  cases c with
  | powerOn slot rate => injection ht with ht; subst ht; exact Ends.move (.powerOn slot rate rfl)
  | resetn =>
    injection ht with ht; subst ht
    exact (Ends.move (.fullReset rfl)).before (line_link _ _ _)
  | resetnRelease slot rate =>
    simp only [exec, execResetnRelease] at ht
    split at ht
    · injection ht with ht; subst ht; exact Ends.line (line_link _ _ _)
    · injection ht with ht; subst ht; exact Ends.same
  | frameAbandon | frameGapExpiry =>
    injection ht with ht; subst ht
    unfold abandonFrame
    split
    · exact Ends.line (line_modLink _ _)
    · exact Ends.same
  | replyBegin | replyEnd =>
    injection ht with ht; subst ht
    split
    · exact Ends.line (line_modLink _ _)
    · exact Ends.same
  | replyAbandon => injection ht with ht; subst ht; exact Ends.line (line_modLink _ _)
  | lineCharacter ch bad => injection ht with ht; subst ht; exact takeCharacter_ends rfl ch bad s
  | _ => first | exact absurd rfl hev | cases hreq

/-- What one step can do: it idles, or ends as its command does. -/
theorem step_ends {s t : State} (ht : step s = .next t) :
    t = idleTick s ∨ ∃ c rest, s.pending = c :: rest ∧ Ends c { s with pending := rest } t := by
  unfold step at ht
  split at ht
  · injection ht with ht; exact .inl ht.symm
  · rename_i c rest hp
    exact .inr ⟨c, rest, hp, exec_ends ht⟩

theorem idleTick_touches (s : State) : Touches [.now] s (idleTick s) :=
  board_touches (l := [.now]) (t := idleTick s) rfl rfl fun p hp hlaw => by
    cases p with
    | now => exact absurd hp (by decide)
    | law x => exact absurd rfl (hlaw x)
    | _ => simp [BoardSame, idleTick]

theorem setPending_touches (l : List Instr) (s : State) : Touches [.pending] s { s with pending := l } :=
  board_touches (l := [.pending]) (t := { s with pending := l }) rfl rfl fun p hp hlaw => by
    cases p with
    | pending => exact absurd hp (by decide)
    | law x => exact absurd rfl (hlaw x)
    | _ => simp [BoardSame]

/-- A predicate that reads none of the line, the pins, time and the queue holds after a step, when every move keeps it. -/
theorem step_keeps {P : State → Prop} {l : List Piece} (hread : ∀ s t, Stand l s t → P s → P t)
    (hl : disjoint l [.link, .straps, .now, .draws, .pending] = true)
    (hmove : ∀ c m s t, Moves c m s t → P s → P t) {s t : State} (hs : P s) (ht : step s = .next t) : P t := by
  have hline : ∀ s t, Touches [.link, .straps, .now, .draws, .pending] s t → P s → P t :=
    fun s t h => hread s t (Touches.stand h hl)
  obtain rfl | ⟨c, rest, -, m, u, v, h1, h2, h3⟩ := step_ends ht
  · exact hline s _ (idleTick_touches s).mono hs
  · exact hline v t h3.1.1.mono (hmove c m u v h2 (hline _ u h1.1.mono (hline s _ (setPending_touches rest s).mono hs)))

end Sys2Proof.Proofs.Steps

/-! The invariants that every step keeps. Most are laws that every move keeps; for the others the moves that break them are
taken one by one. -/

namespace Sys2Proof.Proofs.Invariants

open Sys2Proof.Machine Sys2Proof.Safety Sys2Proof.Proofs.Frames Sys2Proof.Proofs.Steps

/-! ## Laws over a step -/

/-- What a step touches beside its one move. -/
abbrev lineWork : List Piece := [.link, .straps, .now, .draws, .pending]

/-- A step is one move, between changes of the line, the pins, time and the queue. -/
theorem step_move {s t : State} (ht : step s = .next t) :
    ∃ c l u v, Touches lineWork s u ∧ Moves c l u v ∧ Touches lineWork v t := by
  obtain rfl | ⟨c, rest, -, l, u, v, h1, h2, h3⟩ := step_ends ht
  · exact ⟨.resetn, [], s, s, Touches.refl _ s, .none, (idleTick_touches s).mono⟩
  · exact ⟨c, l, u, v, (setPending_touches rest s).mono.trans h1.1.mono, h2, h3.1.1.mono⟩

/-- No law reads the line, the pins, time or the queue. -/
theorem line_law {s t : State} (h : Touches lineWork s t) (x : Law) : x.Kept s t := h.law x (by cases x <;> rfl)

/-- The laws that every move keeps. -/
abbrev keptLaws : List Piece :=
  [.law .lanes, .law .logs, .law .heat, .law .share, .law .runTable, .law .limit, .law .fresh, .law .rails, .law .hold,
    .law .trip, .law .runs, .law .places, .law .port, .law .seqs]

theorem moves_law {c : Instr} {l : List Piece} {s t : State} (h : Moves c l s t) (x : Law)
    (hx : (Piece.law x).isIn keptLaws = true := by rfl) : x.Kept s t :=
  h.touches.law x (Piece.isIn_eq_false_of_disjoint (l := keptLaws) (by cases h <;> rfl) hx)

/-- A law that every move keeps is kept by a step. -/
theorem step_law {s t : State} (ht : step s = .next t) (x : Law) (hx : (Piece.law x).isIn keptLaws = true := by rfl) :
    x.Kept s t := by
  obtain ⟨c, l, u, v, h1, h2, h3⟩ := step_move ht
  exact (line_law h1 x).trans ((moves_law h2 x hx).trans (line_law h3 x))

/-! ## Rails -/

theorem railInv_iff (s : State) : RailInv s ↔
    RunsStand s ∧ Demands (fun _ => False) (fun _ => False) s ∧ SlotsFull (fun _ => False) s := by
  constructor
  · rintro ⟨hr, hi, hz⟩
    refine ⟨fun i h => (hi i).2.1 h, ⟨hr, fun i => ?_⟩, hr, fun z _ hp hq => (hz z hp hq).ge⟩
    obtain ⟨⟨h1, h2, h3, h4, h5⟩, -, h7⟩ := hi i
    exact ⟨h1, h2, h3, h4, fun h => .inr (h5 h), fun h => h.elim, h7⟩
  · rintro ⟨hruns, ⟨hr, hi⟩, -, hz⟩
    refine ⟨hr, fun i => ?_, fun z hp hq => le_antisymm (hr.1 z) (hz z (fun h => h) hp hq)⟩
    obtain ⟨h1, h2, h3, h4, h5, -, h7⟩ := hi i
    exact ⟨⟨h1, h2, h3, h4, fun h => (h5 h).resolve_left fun h => h⟩, fun h => hruns i h, h7⟩

/-- A move keeps the demand of the rails; at a start RUN leaves no set that must carry it, and after the end of a record it
stands in all. -/
theorem moves_demands {c : Instr} {l : List Piece} {s t : State} (h : Moves c l s t) (hruns : RunsStand s)
    (hs : Demands (fun _ => False) (fun _ => False) s) : Demands (fun _ => False) (fun _ => False) t := by
  have ht := h.touches
  cases h with
  | powerOn | fullReset | runReset => exact ht.law .demand rfl _ _ hs
  | started => exact startRun_demands (fun _ _ h => h) hs
  | cleared hst => exact clearRun_demands (by unfold State.started; rcases hst with h | h <;> rw [h] <;> rfl) hruns hs
  | _ => exact ht.law .demand rfl _ _ hs

/-- A new rail profile finds no rail waiting. -/
theorem moves_slots {c : Instr} {l : List Piece} {s t : State} (h : Moves c l s t) (hruns : RunsStand s)
    (hs : SlotsFull (fun _ => False) s) : SlotsFull (fun _ => False) t := by
  have ht := h.touches
  cases h with
  | railProf z p hst => exact storeRail_slots hst hruns hs
  | _ => exact ht.law .slots rfl _ hs

/-- Settles O10: laws 1 to 3 and what carries the demand of the rails are kept by every move. -/
theorem stepKeepsRailLaws : Obligations.StepKeepsRailLaws := by
  refine ⟨fun s t hs ht => step_law ht .rails rfl hs, fun s t hs ht => ?_⟩
  obtain ⟨c, l, u, v, h1, h2, h3⟩ := step_move ht
  obtain ⟨hruns, hdem, hslots⟩ := (railInv_iff s).mp hs
  have hruns := line_law h1 .runs hruns
  exact (railInv_iff t).mpr ⟨line_law h3 .runs (moves_law h2 .runs rfl hruns),
    line_law h3 .demand _ _ (moves_demands h2 hruns (line_law h1 .demand _ _ hdem)),
    line_law h3 .slots _ (moves_slots h2 hruns (line_law h1 .slots _ hslots))⟩

/-! ## Heat, the run, the port and the sequencers -/

/-- Settles O11. -/
theorem stepKeepsHeatLaws : Obligations.StepKeepsHeatLaws :=
  ⟨fun _ _ hs ht => step_law ht .share rfl hs, fun _ _ hs ht => step_law ht .heat rfl hs⟩

/-- Settles O12. -/
theorem stepKeepsRunTableAndRetireLimit : Obligations.StepKeepsRunTableAndRetireLimit :=
  ⟨fun _ _ hs ht => step_law ht .runTable rfl hs, fun _ _ hs ht => step_law ht .limit rfl hs⟩

/-- Settles O18. -/
theorem stepKeepsPortAndBuffers : Obligations.StepKeepsPortAndBuffers :=
  ⟨fun _ _ hs ht => step_law ht .port rfl hs, fun _ _ hs ht => step_law ht .seqs rfl hs⟩

/-- Under laws 3 and 5 an inhibited socket out of control has neither power nor heat. -/
theorem down_of_inhibited {s : State} {i : SocketId} (hr : RailLaws s) (hh : Law5 s)
    (hset : (s.sock i).rail.inhibit.isEmpty = false) (hc : (s.sock i).therm.state.control = false) :
    RailDown s i ∧ (s.sock i).therm.duty = 0 := ⟨hr.2.2 i hset, (hh i hc).1⟩

/-! ## The permit hold -/

theorem permitInv_iff (s : State) : PermitInv s ↔ RailLaws s ∧ Law5 s ∧ RunTable s ∧ PermitHolds s := by
  constructor
  · rintro ⟨h1, h2, h3, h4⟩
    exact ⟨h1, h2, h3, fun hp => ⟨h3.2.1.mpr (.inr hp), h4 hp⟩⟩
  · rintro ⟨h1, h2, h3, h4⟩
    exact ⟨h1, h2, h3, fun hp => (h4 hp).2⟩

/-- Settles O15: a STRESSING socket of a PERMIT hold carries PERMIT, and is so out of power by law 3 and, out of control,
out of heat by law 5. -/
theorem stepKeepsPermitHold : Obligations.StepKeepsPermitHold := by
  intro s t hs ht
  obtain ⟨h1, h2, h3, h4⟩ := (permitInv_iff s).mp hs
  have g1 := step_law ht .rails rfl h1
  have g2 := step_law ht .heat rfl h2
  have g4 := step_law ht .hold rfl h4
  refine ⟨(permitInv_iff t).mpr ⟨g1, g2, step_law ht .runTable rfl h3, g4⟩, fun hp i hi => ?_⟩
  obtain ⟨hperm, hc⟩ := (g4 hp).2 i hi
  exact down_of_inhibited g1 g2 (by simp [Inhibit.isEmpty, hperm]) hc

/-! ## Trips -/

/-- A thermal state that is neither under control nor HELD stands with a cause. -/
theorem inhibited_of_causes {s : State} {i : SocketId} (hs : CausesStand s i)
    (hc : (s.sock i).therm.state.control = false) (hh : (s.sock i).therm.state ≠ .held) :
    (s.sock i).rail.inhibit.isEmpty = false := by
  obtain ⟨h1, h2, h3, -⟩ := hs
  cases hst : (s.sock i).therm.state with
  | off => rcases h3 hst with h | h <;> simp [Inhibit.isEmpty, h]
  | tripped => simp [Inhibit.isEmpty, h1 hst]
  | sensorFault => simp [Inhibit.isEmpty, h2 hst]
  | held => exact absurd hst hh
  | approach | inband | outband => rw [hst] at hc; exact absurd hc (by decide)

/-- Settles O16: a hot socket is in OFF, TRIPPED or SENSOR-FAULT, whose cause opens its rail by law 3. -/
theorem stepKeepsTripSafety : Obligations.StepKeepsTripSafety := by
  rintro s t ⟨h1, h2, h3⟩ ht
  have g1 := step_law ht .rails rfl h1
  have g2 := step_law ht .heat rfl h2
  have g3 : TripsStand t := step_law ht .trip rfl h3
  refine ⟨⟨g1, g2, g3⟩, fun i hi => ?_⟩
  obtain ⟨hc, hhot⟩ := g3 i
  obtain ⟨hctl, hheld⟩ := hhot hi
  exact down_of_inhibited g1 g2 (inhibited_of_causes hc hctl hheld) hctl

/-! ## Final sockets -/

/-- A move leaves every final socket marked; a start finds none, and resets and the end of the record leave none. -/
theorem moves_marked {c : Instr} {l : List Piece} {s t : State} (h : Moves c l s t) (hfresh : FreshLives s)
    (hs : ∀ i, (s.sock i).life.final = true → Marked (s.sock i)) (i : SocketId)
    (hi : (t.sock i).life.final = true) : Marked (t.sock i) := by
  have ht := h.touches
  have hkept : Law.final.Kept s t → Marked (t.sock i) := fun hk => by
    obtain ⟨hm, hl⟩ := hk i
    exact (hl hi).elim (fun hf => hm (hs i hf)) id
  have hempty : (t.sock i).life = .empty → Marked (t.sock i) := fun he => by
    rw [he] at hi; exact absurd hi (by decide)
  cases h with
  | powerOn slot rate => exact hempty ((atRest_poweredOn slot rate s).life i)
  | fullReset => exact hempty ((atRest_fullReset s).life i)
  | runReset => exact hempty ((atRest_runReset s).life i)
  | started hst => exact startRun_marked hfresh hst i hi
  | cleared => exact hempty (clearRun_life i)
  | _ => exact hkept (ht.law .final rfl)

/-- A final socket's accounts stand through a move until it is EMPTY. -/
theorem moves_accounts {c : Instr} {l : List Piece} {s t : State} (h : Moves c l s t) (hfresh : FreshLives s)
    (i : SocketId) (hi : (s.sock i).life.final = true) : (t.sock i).life = .empty ∨
      ((t.sock i).life = (s.sock i).life ∧ (t.sock i).acct = (s.sock i).acct) := by
  have ht := h.touches
  cases h with
  | powerOn slot rate => exact .inl ((atRest_poweredOn slot rate s).life i)
  | fullReset => exact .inl ((atRest_fullReset s).life i)
  | runReset => exact .inl ((atRest_runReset s).life i)
  | started hst => rcases hfresh (.inr hst) i with h | h <;> rw [h] at hi <;> exact absurd hi (by decide)
  | cleared => exact .inl (clearRun_life i)
  | _ => exact .inr (ht.law .accounts rfl i hi)

/-- Settles O14. -/
theorem stepKeepsFinalSockets : Obligations.StepKeepsFinalSockets := by
  rintro s t ⟨h1, h2, h3, h4⟩ ht
  obtain ⟨c, l, u, v, hu, hm, hv⟩ := step_move ht
  have g1 := step_law ht .rails rfl h1
  have g2 := step_law ht .heat rfl h2
  have u3 := line_law hu .fresh h3
  have u4 : ∀ i, (u.sock i).life.final = true → Marked (u.sock i) := fun i hi =>
    (line_law hu .final i).1 (h4 i (by rw [← hu.life i]; exact hi))
  have g4 : ∀ i, (t.sock i).life.final = true → Marked (t.sock i) := fun i hi =>
    (line_law hv .final i).1 (moves_marked hm u3 u4 i (by rw [← hv.life i]; exact hi))
  refine ⟨⟨g1, g2, step_law ht .fresh rfl h3, g4⟩, fun i hi => ?_, fun i hi => ?_⟩
  · obtain ⟨hf, hoff⟩ := g4 i hi
    exact down_of_inhibited g1 g2 (by simp [Inhibit.isEmpty, hf]) (by rw [hoff]; rfl)
  · have h := moves_accounts hm u3 i (by rw [hu.life i]; exact hi)
    rw [hu.life i, hu.acct i] at h
    rw [hv.life i, hv.acct i]
    exact h

end Sys2Proof.Proofs.Invariants

/-! The pattern store's invariant (law 9), the base of every invariant, completion, and the counterexample to law 6. -/

namespace Sys2Proof.Proofs.StoreLaw

open Sys2Proof.Machine Sys2Proof.Safety Sys2Proof.Proofs.Frames Sys2Proof.Proofs.Steps Sys2Proof.Proofs.Invariants

/-! ## Pages and programs -/

theorem setProgram_program (k j : ProgId) (d : Option Program) (s : State) :
    (setProgram k d s).program j = if j = k then d else s.program j := by
  rw [PatternStore.setProgram_frame]
  unfold State.program
  by_cases hj : j = k
  · subst hj; simp
  · rw [if_neg hj]
    exact Vector.getElem_set_ne k.isLt j.isLt fun h => hj (Fin.ext h.symm)

theorem setProgram_slotPages (k j : ProgId) (d : Option Program) (s : State) :
    (setProgram k d s).slotPages j = if j = k then (d.map (·.pages)).getD [] else s.slotPages j := by
  unfold State.slotPages
  rw [setProgram_program]
  split <;> rfl

/-- A sum over the slots with one term changed. -/
theorem sum_map_update {l : List ProgId} (hl : l.Nodup) {k : ProgId} (hk : k ∈ l) (f g : ProgId → Nat)
    (h : ∀ j, j ≠ k → g j = f j) : (l.map g).sum + f k = (l.map f).sum + g k := by
  induction l with
  | nil => exact absurd hk (by simp)
  | cons a l ih =>
    obtain ⟨ha, hl⟩ := List.nodup_cons.mp hl
    rcases List.mem_cons.mp hk with rfl | hkl
    · have hsame : l.map g = l.map f := List.map_congr_left fun j hj => h j fun hjk => ha (hjk ▸ hj)
      simp only [List.map_cons, List.sum_cons, hsame]
      omega
    · have := ih hl hkl
      have hak : a ≠ k := fun hak => ha (hak ▸ hkl)
      simp only [List.map_cons, List.sum_cons, h a hak]
      omega

/-- The count of a page's names moves with the one slot that changes (R88, R92, R93). -/
theorem setProgram_namedCount (k : ProgId) (d : Option Program) (s : State) (pg : PageId) :
    namedCount (setProgram k d s) pg + timesNamed (s.slotPages k) pg =
      namedCount s pg + timesNamed ((d.map (·.pages)).getD []) pg := by
  have h := sum_map_update (List.nodup_finRange 16) (List.mem_finRange k) (fun j => timesNamed (s.slotPages j) pg)
    (fun j => timesNamed ((setProgram k d s).slotPages j) pg) fun j hj => by rw [setProgram_slotPages, if_neg hj]
  rw [setProgram_slotPages, if_pos rfl] at h
  exact h

theorem namedCount_congr {s t : State} (h : t.store.programs = s.store.programs) (pg : PageId) :
    namedCount t pg = namedCount s pg := by
  unfold namedCount State.slotPages State.program
  rw [h]

theorem timesNamed_pos {l : List PageId} {pg : PageId} : 0 < timesNamed l pg ↔ pg ∈ l := List.count_pos_iff

/-! ## The memory under a copied chunk -/

theorem slotAddr_inj {pg pg' : PageId} {i j : Nat} (hi : i < 512) (hj : j < 512) (h : slotAddr pg i = slotAddr pg' j) :
    pg = pg' := by
  unfold slotAddr at h
  exact Fin.ext (by omega)

/-- A chunk copied leaves the slots of every other page (R83). -/
theorem memRead_copyChunk_other {n : Nat} {c : Chunk} {m : List (Nat × Slot)} (hm : Memory.wf m = true)
    (hfit : c.first + c.vecs.length ≤ 512) {pg : PageId} (hpg : pg ≠ c.page) {idx : Nat} (hidx : idx < 512) :
    memRead (copyChunk n c m) (slotAddr pg idx) = memRead m (slotAddr pg idx) := by
  refine (Slots.memRead_copyChunk_spec n c m hm).2 _ fun k hk he => hpg (slotAddr_inj hidx (by omega) he)

/-! ## Law 9 -/

/-- Law 9 with what carries it, and the memory in its form. -/
def StoreSound (s : State) : Prop := StoreInv s ∧ MemoryWf s

/-- What a sealed page keeps. -/
def VectorsStand (s t : State) : Prop := ∀ pg : PageId, (s.page pg).state = .sealed → (t.page pg).state = .sealed →
  ∀ idx < 512, memRead t.store.mem (slotAddr pg idx) = memRead s.store.mem (slotAddr pg idx)

section
variable {s t : State}

theorem vectorsStand_of_mem (h : t.store.mem = s.store.mem) : VectorsStand s t := fun _ _ _ _ _ => by rw [h]

/-- The store stands where its parts stand. -/
theorem storeSound_of_touches {l : List Piece} (h : Touches l s t) (hs : StoreSound s)
    (hp : Piece.pages.isIn l = false := by rfl) (hg : Piece.programs.isIn l = false := by rfl)
    (hm : Piece.mem.isIn l = false := by rfl) (hst : Piece.staging.isIn l = false := by rfl) : StoreSound t := by
  obtain ⟨⟨h9, hfit, hcur⟩, hwf⟩ := hs
  refine ⟨⟨fun pg => ?_, fun c hc => ?_, fun pg => ?_⟩, ?_⟩
  · rw [h.page pg hp, namedCount_congr (h.programs hg)]; exact h9 pg
  · rw [h.page _ hp]; exact hfit c (h.staging hst ▸ hc)
  · rw [h.page pg hp]; exact hcur pg
  · unfold MemoryWf; rw [h.mem hm]; exact hwf

/-- A change of one page that is not named, keeping its references: the staged chunk is for another page, or the page is
OPEN. -/
theorem storeSound_modPage {pg : PageId} {f : Page → Page} (hs : StoreSound s)
    (hrefs : (f (s.page pg)).refs = (s.page pg).refs) (hnamed : namedCount s pg = 0 ∨ (f (s.page pg)).state = .sealed)
    (hopen : (∀ c, s.store.staging = some c → c.page ≠ pg) ∨ (f (s.page pg)).state = .opened)
    (hcur : (f (s.page pg)).cursor ≤ 512) : StoreSound (modPage pg f s) := by
  obtain ⟨⟨h9, hfit, hc⟩, hwf⟩ := hs
  refine ⟨⟨fun pg' => ?_, fun c hst => ?_, fun pg' => ?_⟩, hwf⟩
  · have hn : namedCount (modPage pg f s) pg' = namedCount s pg' := namedCount_congr rfl pg'
    rw [hn, modPage_page]
    split
    · rename_i hp
      subst hp
      refine ⟨hrefs.trans (h9 pg').1, fun h => hnamed.resolve_left (by omega)⟩
    · exact h9 pg'
  · have hst : s.store.staging = some c := hst
    obtain ⟨h1, h2⟩ := hfit c hst
    refine ⟨?_, h2⟩
    rw [modPage_page]
    split
    · rename_i hp
      exact hopen.resolve_left fun h => h c hst hp
    · exact h1
  · rw [modPage_page]
    split
    · exact hcur
    · exact hc pg'

theorem not_staged_of {pg : PageId} (h : s.stagedFor pg = false) : ∀ c, s.store.staging = some c → c.page ≠ pg := by
  intro c hc hp
  have := (PatternStore.stagedFor_iff s pg).mpr ⟨c, hc, hp⟩
  rw [h] at this
  exact absurd this (by decide)

/-- A page that is not SEALED is not named. -/
theorem not_named {pg : PageId} (hs : StoreSound s) (h : (s.page pg).state ≠ .sealed) : namedCount s pg = 0 := by
  by_contra hc
  exact h ((hs.1.1 pg).2 (by omega))

theorem storeSound_setProgram {k : ProgId} {d : Option Program} (hs : StoreSound s)
    (hsealed : ∀ pg ∈ (d.map (·.pages)).getD [], (s.page pg).state = .sealed) : StoreSound (setProgram k d s) := by
  obtain ⟨⟨h9, hfit, hc⟩, hwf⟩ := hs
  have hpage := PatternStore.setProgram_page k d s
  have hcount := setProgram_namedCount k d s
  have hmem : MemoryWf (setProgram k d s) := by unfold MemoryWf; rw [(setProgram_touches k d s).mem]; exact hwf
  refine ⟨⟨fun pg => ?_, fun c hst => ?_, fun pg => ?_⟩, hmem⟩
  · obtain ⟨hrefs, hnamed⟩ := h9 pg
    have hold : timesNamed (s.slotPages k) pg ≤ namedCount s pg :=
      List.single_le_sum (by simp) _ (List.mem_map_of_mem (List.mem_finRange k))
    have hcnt := hcount pg
    rw [hpage pg]
    refine ⟨?_, fun hpos => ?_⟩
    · show (s.page pg).refs + timesNamed ((d.map (·.pages)).getD []) pg - timesNamed (s.slotPages k) pg = _
      omega
    · show (s.page pg).state = .sealed
      by_cases hnew : 0 < timesNamed ((d.map (·.pages)).getD []) pg
      · exact hsealed pg (timesNamed_pos.mp hnew)
      · exact hnamed (by omega)
  · rw [(setProgram_touches k d s).staging] at hst
    rw [hpage c.page]; exact hfit c hst
  · rw [hpage pg]; exact hc pg

/-- The store at power-on is sound. -/
theorem storeSound_init (h : t.store = Store.init) : StoreSound t := by
  have hpage := Resets.store_init_page h
  have hnamed : ∀ pg, namedCount t pg = 0 := fun pg => by
    refine List.sum_eq_zero fun x hx => ?_
    obtain ⟨k, -, rfl⟩ := List.mem_map.mp hx
    unfold State.slotPages
    rw [Resets.store_init_program h k]
    rfl
  refine ⟨⟨fun pg => ?_, fun c hc => ?_, fun pg => ?_⟩, by unfold MemoryWf; rw [h]; rfl⟩
  · rw [hnamed, hpage]
    exact ⟨rfl, fun hp => absurd hp (by decide)⟩
  · rw [h] at hc; cases hc
  · rw [hpage]; exact Nat.zero_le _

/-- A store at a reset: the pages' references, the programs and the vectors of sealed pages are as they were. -/
theorem storeSound_atReset (hs : StoreSound s) (ht : t.store = s.store.atReset s.now) :
    StoreSound t ∧ VectorsStand s t := by
  obtain ⟨⟨h9, hfit, hc⟩, hwf⟩ := hs
  have hpage := Resets.atReset_page ht
  have hprog : t.store.programs = s.store.programs := by rw [ht]; rfl
  have hmem : t.store.mem = s.store.memAtReset s.now := by rw [ht]; rfl
  have hstaging : t.store.staging = none := by rw [ht]; rfl
  refine ⟨⟨⟨fun pg => ?_, fun c h => absurd (hstaging.symm.trans h) (by simp), fun pg => ?_⟩, ?_⟩, fun pg hpg _ idx hidx => ?_⟩
  · rw [namedCount_congr hprog, hpage pg]
    obtain ⟨h1, h2⟩ := h9 pg
    split
    · rename_i ho
      exact ⟨h1, fun hpos => absurd (ho.symm.trans (h2 hpos)) (by decide)⟩
    · exact ⟨h1, h2⟩
  · rw [hpage pg]
    split
    · exact Nat.zero_le _
    · exact hc pg
  · unfold MemoryWf; rw [hmem]; exact memAtReset_wf _ _ hwf
  · rw [hmem]
    unfold Store.memAtReset
    split
    · rename_i c hport hst
      obtain ⟨hopen, hlen⟩ := hfit c hst
      exact memRead_copyChunk_other hwf hlen (by rintro rfl; exact absurd (hpg.symm.trans hopen) (by decide)) hidx
    · rfl

end

/-- A move keeps the store, and the vectors of a page that is SEALED before and after it. -/
theorem moves_store {c : Instr} {l : List Piece} {s t : State} (h : Moves c l s t) (hs : StoreSound s) :
    StoreSound t ∧ VectorsStand s t := by
  have ht := h.touches
  cases h with
  | powerOn slot rate =>
    refine ⟨storeSound_init rfl, fun pg _ hpg => ?_⟩
    rw [Resets.store_init_page rfl pg] at hpg
    exact absurd hpg (by decide)
  | fullReset => exact storeSound_atReset hs rfl
  | runReset => exact storeSound_atReset hs rfl
  | @pageOpened _ pg hp =>
    refine ⟨storeSound_modPage hs rfl (.inl (not_named hs ?_)) (.inr rfl) (Nat.zero_le _), vectorsStand_of_mem rfl⟩
    rcases hp with h | ⟨h, -⟩ <;> rw [h] <;> decide
  | @pageFreed _ pg hp =>
    refine ⟨storeSound_modPage hs rfl (.inl ?_) (.inl fun c hc hpg => ?_) (Nat.zero_le _), vectorsStand_of_mem rfl⟩
    · rcases hp with ⟨h, -⟩ | ⟨-, h⟩
      · exact not_named hs (by rw [h]; decide)
      · rw [← (hs.1.1 pg).1]; exact h
    · rcases hp with ⟨-, h⟩ | ⟨h, -⟩
      · exact not_staged_of h c hc hpg
      · have hopen := (hs.1.2.1 c hc).1
        rw [hpg, h] at hopen
        exact absurd hopen (by decide)
  | @pageSealed _ pg n hp hst =>
    exact ⟨storeSound_modPage hs rfl (.inr rfl) (.inl (not_staged_of hst)) (hs.1.2.2 pg), vectorsStand_of_mem rfl⟩
  | @chunkStaged _ x bytes hopen hcur hfit hfree =>
    refine ⟨?_, vectorsStand_of_mem (ht.mem)⟩
    have h1 : StoreSound (modPage x.page (fun e => { e with crc := crcFeed e.crc bytes, cursor := e.cursor + x.vecs.length }) s) :=
      storeSound_modPage hs rfl (.inl (not_named hs (by rw [hopen]; decide))) (.inr hopen) (by
        show (s.page x.page).cursor + _ ≤ 512
        omega)
    obtain ⟨⟨h9, -, hc⟩, hwf⟩ := h1
    have hpage : ((modPage x.page (fun e => { e with crc := crcFeed e.crc bytes, cursor := e.cursor + x.vecs.length }) s).page
        x.page).state = .opened := by rw [modPage_page, if_pos rfl]; exact hopen
    refine storeSound_of_touches (arbitrate_keeps _) ⟨⟨h9, fun y hy => ?_, hc⟩, hwf⟩
    obtain rfl : x = y := Option.some.inj hy
    exact ⟨hpage, hfit⟩
  | programSet huse hlen hsealed => exact ⟨storeSound_setProgram hs hsealed, vectorsStand_of_mem ht.mem⟩
  | programDropped huse => exact ⟨storeSound_setProgram hs (by simp), vectorsStand_of_mem ht.mem⟩
  | @chunkWritten _ x hport hx =>
    obtain ⟨⟨h9, hfit, hc⟩, hwf⟩ := hs
    obtain ⟨hopen, hlen⟩ := hfit x hx
    have hrel := releasePort_touches (modStore (writeChunk x) s)
    refine ⟨storeSound_of_touches hrel ⟨⟨h9, fun y hy => absurd hy (by simp [modStore, writeChunk]), hc⟩,
      copyChunk_wf _ _ _ hwf⟩, fun pg hpg _ idx hidx => ?_⟩
    rw [hrel.mem]
    exact memRead_copyChunk_other hwf hlen (by rintro rfl; exact absurd (hpg.symm.trans hopen) (by decide)) hidx
  | _ => exact ⟨storeSound_of_touches ht hs, vectorsStand_of_mem ht.mem⟩

/-- Settles O17. -/
theorem stepKeepsSealedPages : Obligations.StepKeepsSealedPages := by
  intro s t hs ht
  obtain ⟨c, l, u, v, hu, hm, hv⟩ := step_move ht
  obtain ⟨h1, h2⟩ := moves_store hm (storeSound_of_touches hu hs)
  refine ⟨storeSound_of_touches hv h1, fun pg hpg hpg' idx hidx => ?_⟩
  rw [hv.page pg] at hpg'
  rw [hv.mem, h2 pg (by rw [hu.page pg]; exact hpg) hpg' idx hidx, hu.mem]

/-! ## The base of the invariants -/

theorem reset_init_sock (i : SocketId) : State.reset.sock i = Socket.init := Resets.replicate_sock rfl i

theorem atRest_reset : AtRest State.reset := atRest_of_init rfl rfl rfl rfl ⟨rfl, rfl⟩

end Sys2Proof.Proofs.StoreLaw

/-! Completion of every command, the link port's invariants, the bound on replies, the base of every invariant, and the
counterexample to law 6. -/

namespace Sys2Proof.Proofs.LinkLaw

open Sys2Proof.Machine Sys2Proof.Safety Sys2Proof.Proofs.Frames Sys2Proof.Proofs.Steps Sys2Proof.Proofs.Invariants
open Sys2Proof.Proofs.Requests Sys2Proof.Proofs.Line Sys2Proof.Proofs.Lengths Sys2Proof.Proofs.StoreLaw

/-! ## Completion -/

/-- A command that is no request completes. -/
theorem exec_completes_of_none {c : Instr} (h : requestOf c = none) (s : State) : ∃ t, exec c s = .next t := by
  cases c with
  | resetnRelease slot rate =>
    simp only [exec, execResetnRelease]
    split <;> exact ⟨_, rfl⟩
  | ovenPermitEdge =>
    simp only [exec, execOvenPermitEdge]
    split
    · exact ⟨_, rfl⟩
    · split <;> exact ⟨_, rfl⟩
  | permitTimerExpiry => simp only [exec, execPermitTimerExpiry]; split <;> exact ⟨_, rfl⟩
  | railSample i mA mV => simp only [exec, execRailSample]; split <;> exact ⟨_, rfl⟩
  | phase1TimerExpiry i => simp only [exec, execPhase1TimerExpiry]; split <;> exact ⟨_, rfl⟩
  | rampTimeout i =>
    simp only [exec, execRampTimeout]
    split
    · split <;> exact ⟨_, rfl⟩
    · exact ⟨_, rfl⟩
  | stableTimerExpiry i => simp only [exec, execStableTimerExpiry]; split <;> exact ⟨_, rfl⟩
  | offTimeExpiry i => simp only [exec, execOffTimeExpiry]; split <;> exact ⟨_, rfl⟩
  | sensorAnswer i x => simp only [exec, execSensorAnswer]; split <;> exact ⟨_, rfl⟩
  | sensorTimeout i => simp only [exec, execSensorTimeout]; split <;> exact ⟨_, rfl⟩
  | stagingWriteDone => simp only [exec, execStagingWriteDone]; split <;> exact ⟨_, rfl⟩
  | fetchBurstDone w =>
    simp only [exec, execFetchBurstDone]
    split
    · split <;> exact ⟨_, rfl⟩
    · exact ⟨_, rfl⟩
  | vectorPeriodEnd z resp => simp only [exec, execVectorPeriodEnd]; split <;> exact ⟨_, rfl⟩
  | gapTimerExpiry z => simp only [exec, execGapTimerExpiry]; split <;> exact ⟨_, rfl⟩
  | heartbeatEdge i ms => simp only [exec, execHeartbeatEdge]; split <;> exact ⟨_, rfl⟩
  | resetHeldExpiry i => simp only [exec, execResetHeldExpiry]; split <;> exact ⟨_, rfl⟩
  | ignoreExpiry i => simp only [exec, execIgnoreExpiry]; split <;> exact ⟨_, rfl⟩
  | heartbeatLate i => simp only [exec, execHeartbeatLate]; split <;> exact ⟨_, rfl⟩
  | accountingTimerExpiry => simp only [exec, execAccountingTimerExpiry]; split <;> exact ⟨_, rfl⟩
  | powerOn _ _ | resetn | frameAbandon | frameGapExpiry | replyBegin | replyEnd | replyAbandon | sensorRequest _
  | lineCharacter _ _ => exact ⟨_, rfl⟩
  | _ => cases h

theorem exec_completes (c : Instr) (s : State) : ∃ t, exec c s = .next t := by
  cases h : requestOf c with
  | none => exact exec_completes_of_none h s
  | some x =>
    obtain ⟨y, hy, -⟩ := exec_of_requestOf (kind := x.1) (f := x.2) h s
    exact ⟨_, hy⟩

/-- No move but power-on touches time or the queue. -/
theorem moves_time {c : Instr} {l : List Piece} {s t : State} (h : Moves c l s t) : t.pending = s.pending ∧
    ((∀ slot rate, c ≠ .powerOn slot rate) → t.now = s.now) := by
  have ht := h.touches
  cases h with
  | powerOn slot rate hc => exact ⟨rfl, fun hne => absurd hc (hne slot rate)⟩
  | _ => exact ⟨ht.pending, fun _ => ht.now⟩

/-- Settles O3. -/
theorem everyCommandCompletes : Obligations.EveryCommandCompletes := by
  intro c s
  obtain ⟨t, ht⟩ := exec_completes c s
  obtain ⟨l, u, v, ⟨hu, hnu⟩, hm, ⟨⟨hv, hnv⟩, -⟩⟩ := exec_ends ht
  obtain ⟨hp, hn⟩ := moves_time hm
  exact ⟨t, ht, hv.pending.trans (hp.trans hu.pending), fun hne => hnu.trans ((hn hne).ge.trans hnv)⟩

/-! ## The link port -/

/-- A link port whose receive buffer fits its state, whose reply stands where one is PENDING or SENDING, and whose reply
fits a frame under its CRC. -/
def LinkSound (l : Link) : Prop :=
  let len := (l.rxBuf.getD 3 0).toNat
  (l.rx = .hunt → l.rxBuf = []) ∧
  (l.rx = .header → l.rxBuf.length < 4) ∧
  (l.rx = .payload → 4 ≤ l.rxBuf.length ∧ l.rxBuf.length < 4 + len ∧ len ≤ 250) ∧
  (l.rx = .check → 4 + len ≤ l.rxBuf.length ∧ l.rxBuf.length < 6 + len ∧ len ≤ 250) ∧
  (l.reply.isSome = true ↔ l.replyState ≠ .none) ∧
  (l.inReset = true → l.rx = .hunt ∧ l.replyState = .none) ∧
  l.rate ≠ 3

theorem linkInv_iff (s : State) : LinkInv s ↔ LinkSound s.link := Iff.rfl

/-- Every reply in the buffer fits a frame and carries its CRC (R176). -/
def ReplySound (l : Link) : Prop := ∀ r, l.reply = some r → 1 ≤ r.payload.length ∧ r.payload.length ≤ 250 ∧
  r.crc = crcOf (replyCovered r.addr r.kind r.tag r.payload)

section
variable {l : Link}

/-- A link port in HUNT is sound where its reply is. -/
theorem linkSound_hunt (hrx : l.rx = .hunt) (hbuf : l.rxBuf = []) (hreply : l.reply.isSome = true ↔ l.replyState ≠ .none)
    (hreset : l.inReset = true → l.replyState = .none) (hrate : l.rate ≠ 3) : LinkSound l := by
  exact ⟨fun _ => hbuf, fun h => absurd (hrx.symm.trans h) (by simp), fun h => absurd (hrx.symm.trans h) (by simp),
    fun h => absurd (hrx.symm.trans h) (by simp), hreply, fun h => ⟨hrx, hreset h⟩, hrate⟩

theorem dropPending_sound (h : LinkSound l) : LinkSound l.dropPending ∧ (l.replyState ≠ .sending → l.dropPending.reply = none) := by
  obtain ⟨h1, h2, h3, h4, h5, h6, h7⟩ := h
  unfold Link.dropPending
  split
  · rename_i hp
    exact ⟨⟨h1, h2, h3, h4, by simp, fun hr => ⟨(h6 hr).1, rfl⟩, h7⟩, fun _ => rfl⟩
  · rename_i hp
    refine ⟨⟨h1, h2, h3, h4, h5, h6, h7⟩, fun hs => ?_⟩
    have hn : l.replyState = .none := by cases h : l.replyState <;> simp_all
    have := mt h5.mp (by simpa using hn)
    simpa using this

theorem hunt_sound (h : LinkSound l) : LinkSound l.hunt := by
  obtain ⟨-, -, -, -, h5, h6, h7⟩ := h
  exact linkSound_hunt rfl rfl h5 (fun hr => (h6 hr).2) h7

theorem ofStraps_sound (slot : BitVec 5) (rate : BitVec 2) : LinkSound (Link.ofStraps slot rate) :=
  linkSound_hunt rfl rfl (by simp [Link.ofStraps]) (fun h => absurd h (by simp [Link.ofStraps])) (by
    obtain ⟨-, hrate, -⟩ := Resets.linkFresh_ofStraps slot rate
    rw [hrate]
    split
    · decide
    · rename_i h; exact h)

theorem replySound_none (h : l.reply = none) : ReplySound l := fun r hr => by rw [h] at hr; cases hr

theorem dropPending_replySound (h : ReplySound l) : ReplySound l.dropPending := by
  unfold Link.dropPending
  split
  · exact replySound_none rfl
  · exact h

theorem replyTo_payload (slot : BitVec 5) (kind tag : Byte) (a : Answer) :
    (replyTo slot kind tag a).payload = a.status.code :: a.data := rfl

theorem replyTo_crc (slot : BitVec 5) (kind tag : Byte) (a : Answer) : (replyTo slot kind tag a).crc =
    crcOf (replyCovered (replyTo slot kind tag a).addr (replyTo slot kind tag a).kind (replyTo slot kind tag a).tag
      (replyTo slot kind tag a).payload) := by simp only [replyTo]

/-- A reply built fits a frame where its data do. -/
theorem replyTo_sound {l : Link} {slot : BitVec 5} {kind tag : Byte} {a : Answer} (h : a.data.length ≤ 249) :
    ReplySound { l with reply := some (replyTo slot kind tag a), replyState := .pending } := by
  intro r hr
  rw [← Option.some.inj hr]
  refine ⟨?_, ?_, replyTo_crc slot kind tag a⟩
  · rw [replyTo_payload, List.length_cons]; omega
  · rw [replyTo_payload, List.length_cons]; omega

/-- A character moves the receiver between fitting buffers (R171). -/
theorem receive_sound (h : LinkSound l) (ch : Byte) (hr : l.inReset = false) : (l.receive ch).complete = false →
    LinkSound (l.receive ch).link := by
  obtain ⟨h1, h2, h3, h4, h5, h6, h7⟩ := h
  have hget : 4 ≤ l.rxBuf.length → (l.rxBuf ++ [ch]).getD 3 0 = l.rxBuf.getD 3 0 := fun hl => by
    rw [List.getD_append _ _ _ _ (by omega)]
  have hlen : (l.rxBuf ++ [ch]).length = l.rxBuf.length + 1 := by simp
  have hno : ∀ {p : Prop}, l.inReset = true → p := fun h => absurd (hr.symm.trans h) (by decide)
  simp only [Link.receive]
  split
  · split
    · intro _
      exact ⟨fun h => absurd h (by simp), fun _ => by simp, fun h => absurd h (by simp), fun h => absurd h (by simp), h5,
        fun h => hno h, h7⟩
    · exact fun _ => ⟨h1, h2, h3, h4, h5, h6, h7⟩
  · rename_i hrx
    have hbuf := h2 hrx
    split
    · rename_i hshort
      exact fun _ => ⟨fun h => absurd (hrx.symm.trans h) (by simp), fun _ => hshort, fun h => absurd (hrx.symm.trans h) (by simp),
        fun h => absurd (hrx.symm.trans h) (by simp), h5, fun h => hno h, h7⟩
    · split
      · exact fun _ => linkSound_hunt rfl rfl h5 (fun h => hno h) h7
      · rename_i hlong hfit
        intro _
        by_cases hz : ((l.rxBuf ++ [ch]).getD 3 0).toNat = 0
        · rw [if_pos hz]
          refine ⟨fun h => absurd h (by simp), fun h => absurd h (by simp), fun h => absurd h (by simp), fun _ => ?_, h5,
            fun h => hno h, h7⟩
          simp only [hz]
          omega
        · rw [if_neg hz]
          refine ⟨fun h => absurd h (by simp), fun h => absurd h (by simp), fun _ => ?_, fun h => absurd h (by simp), h5,
            fun h => hno h, h7⟩
          simp only []
          omega
  · rename_i hrx
    obtain ⟨g1, g2, g3⟩ := h3 hrx
    intro _
    simp only [hget g1, hlen]
    split
    · refine ⟨fun h => absurd h (by simp), fun h => absurd h (by simp), fun _ => ?_, fun h => absurd h (by simp), h5,
        fun h => hno h, h7⟩
      simp only [hget g1, hlen]
      omega
    · refine ⟨fun h => absurd h (by simp), fun h => absurd h (by simp), fun h => absurd h (by simp), fun _ => ?_, h5,
        fun h => hno h, h7⟩
      simp only [hget g1, hlen]
      omega
  · rename_i hrx
    obtain ⟨g1, g2, g3⟩ := h4 hrx
    have g4 : 4 ≤ l.rxBuf.length := by omega
    simp only [hget g4, hlen]
    split
    · intro _
      refine ⟨fun h => absurd (hrx.symm.trans h) (by simp), fun h => absurd (hrx.symm.trans h) (by simp),
        fun h => absurd (hrx.symm.trans h) (by simp), fun _ => ?_, h5, fun h => hno h, h7⟩
      simp only [hget g4, hlen]
      omega
    · exact fun h => absurd h (by simp)

theorem receive_reply (l : Link) (ch : Byte) : (l.receive ch).link.reply = l.reply := by
  simp only [Link.receive]
  split
  · split <;> rfl
  · split
    · rfl
    · split <;> rfl
  · rfl
  · split <;> rfl

end

/-- What a predicate of the link port needs to stand through every command: it is kept at the events of the line and of
the receiver, at the resets, and where a reply is built. -/
structure LinkKept (s : State) (P : Link → Prop) : Prop where
  drop : P s.link.dropPending
  hunt : P s.link.hunt
  heard : P s.link.dropPending.hunt
  receive : ∀ ch, s.link.isOpen = true → (s.link.dropPending.receive ch).complete = false →
    P (s.link.dropPending.receive ch).link
  sending : s.link.replyState = .pending → P { s.link with replyState := .sending }
  sent : P { s.link.hunt with reply := none, replyState := .none }
  silent : P { s.link with rx := .hunt, rxBuf := [], reply := none, replyState := .none, inReset := true }
  straps : ∀ slot rate, P (Link.ofStraps slot rate)
  built : ∀ l : Link, l = s.link.dropPending.hunt ∨ (∃ slot rate, l = Link.ofStraps slot rate) → s.link.isOpen = true →
    ∀ kind tag a, (ReplyBounds s → a.data.length ≤ 249) → P { l with reply := some (replyTo l.slot kind tag a), replyState := .pending }

section
variable {s : State} {P : Link → Prop}

theorem judged_link {c : Instr} {kind : Byte} {op : Op} {f : Frame} {u : State} (hP : LinkKept s P) (hop : OpAnswers c op)
    (hopen : s.link.isOpen = true) (hu : u.link = s.link.dropPending.hunt) (hb : ReplyBounds s → ReplyBounds u) :
    P (judged kind op f u).link := by
  obtain ⟨-, hlink, -, hfits⟩ := hop f.payload u
  unfold judged
  split
  · rw [hu]; exact hP.heard
  · rcases hlink with h | ⟨-, h⟩
    · rw [h, hu]; exact hP.heard
    · rw [h]; exact hP.straps _ _
  · refine hP.built _ ?_ hopen _ _ _ (fun h => hfits (hb h))
    rcases hlink with h | ⟨-, h⟩
    · exact .inl (h.trans hu)
    · exact .inr ⟨_, _, h⟩

theorem takeFrame_link {c : Instr} {kind : Byte} {op : Op} {f : Frame} (hP : LinkKept s P) (hs : P s.link)
    (hop : OpAnswers c op) : P (takeFrame kind op f s).link := by
  simp only [takeFrame]
  split
  · rename_i hopen
    split
    · exact hP.heard
    · exact judged_link hP hop hopen rfl id
  · exact hs

theorem takeCharacter_link {ch : Byte} {bad : Bool} (hP : LinkKept s P) (hs : P s.link) :
    P (takeCharacter ch bad s).link := by
  simp only [takeCharacter]
  split
  · rename_i hopen
    split
    · exact hP.heard
    · split
      · exact judged_link (c := .lineCharacter ch bad) hP (kindOp_answers fun _ => rfl) hopen rfl id
      · rename_i hc
        exact hP.receive ch hopen (by simpa using hc)
  · exact hs

/-- Every command keeps what the events of the line, the receiver, the resets and the replies keep. -/
theorem exec_link {c : Instr} {t : State} (hP : LinkKept s P) (hs : P s.link) (ht : exec c s = .next t) : P t.link := by
  by_cases hev : isEvent c = true
  · rw [(event_quiet hev ht).link]; exact hs
  cases hreq : requestOf c with
  | some x =>
    obtain ⟨y, hy, -⟩ := exec_of_requestOf (kind := x.1) (f := x.2) hreq s
    rw [hy] at ht
    injection ht with ht
    subst ht
    have hP' : LinkKept { s with straps := y } P := ⟨hP.1, hP.2, hP.3, hP.4, hP.5, hP.6, hP.7, hP.8, hP.9⟩
    exact takeFrame_link (c := c) hP' hs (kindOp_answers fun hk => mayReset_of_boardReset (f := x.2) (by rw [hreq, ← hk]))
  | none => ?_
  cases c with
  | powerOn slot rate => injection ht with ht; subst ht; exact hP.straps slot rate
  | resetn => injection ht with ht; subst ht; exact hP.silent
  | resetnRelease slot rate =>
    simp only [exec, execResetnRelease] at ht
    split at ht
    · injection ht with ht; subst ht; exact hP.straps slot rate
    · injection ht with ht; subst ht; exact hs
  | frameAbandon | frameGapExpiry =>
    injection ht with ht; subst ht
    unfold abandonFrame
    split
    · exact hP.hunt
    · exact hs
  | replyBegin =>
    injection ht with ht; subst ht
    split
    · rename_i h; exact hP.sending h
    · exact hs
  | replyEnd =>
    injection ht with ht; subst ht
    split
    · exact hP.sent
    · exact hs
  | replyAbandon => injection ht with ht; subst ht; exact hP.drop
  | lineCharacter ch bad => injection ht with ht; subst ht; exact takeCharacter_link hP hs
  | _ => first | exact absurd rfl hev | cases hreq

end

/-- A step leaves the link port alone but for its command. -/
theorem step_link {P : Link → Prop} {s t : State} (hP : ∀ u, u.link = s.link → LinkKept u P) (hs : P s.link)
    (ht : step s = .next t) : P t.link := by
  unfold step at ht
  split at ht
  · injection ht with ht
    subst ht
    exact hs
  · rename_i c rest hp
    exact exec_link (s := { s with pending := rest }) (hP _ rfl) hs ht

theorem linkKept_sound {s : State} (hs : LinkSound s.link) : LinkKept s LinkSound := by
  have hdrop := (dropPending_sound hs).1
  have hheard := hunt_sound hdrop
  have hhunt := hunt_sound hs
  obtain ⟨h1, h2, h3, h4, h5, h6, h7⟩ := hs
  refine ⟨hdrop, hhunt, hheard, fun ch hopen hc => ?_, fun hp => ?_, ?_, ?_, ofStraps_sound, ?_⟩
  · exact receive_sound hdrop ch ((dropPending_inReset s.link).trans ((isOpen_iff _).mp hopen).1) hc
  · exact ⟨h1, h2, h3, h4, by simpa using h5.mpr (by rw [hp]; decide), fun h => absurd hp (by rw [(h6 h).2]; decide), h7⟩
  · exact linkSound_hunt rfl rfl (by simp) (fun _ => rfl) h7
  · exact linkSound_hunt rfl rfl (by simp) (fun _ => rfl) h7
  · intro l hl hopen kind tag a _
    obtain rfl | ⟨slot, rate, rfl⟩ := hl
    · obtain ⟨-, -, -, -, -, -, hrate⟩ := hheard
      refine linkSound_hunt rfl rfl (by simp) (fun h => ?_) hrate
      exact absurd ((dropPending_inReset s.link).symm.trans h) (by rw [((isOpen_iff _).mp hopen).1]; decide)
    · obtain ⟨-, -, -, -, -, -, hrate⟩ := ofStraps_sound slot rate
      exact linkSound_hunt rfl rfl (by simp) (fun h => absurd h (by simp [Link.ofStraps])) hrate

theorem linkKept_reply {s : State} (hb : ReplyBounds s) (hs : ReplySound s.link) : LinkKept s ReplySound := by
  have hdrop := dropPending_replySound hs
  refine ⟨hdrop, hs, hdrop, fun ch _ _ => ?_, fun _ => hs, replySound_none rfl, replySound_none rfl,
    fun _ _ => replySound_none rfl, fun l _ _ kind tag a hlen => replyTo_sound (hlen hb)⟩
  unfold ReplySound
  rw [receive_reply]
  exact hdrop

/-- Settles O19. -/
theorem stepKeepsLanesAndLink : Obligations.StepKeepsLanesAndLink := by
  refine ⟨fun s t hs ht => ?_, fun s t hs ht => ?_⟩
  · obtain ⟨hu, hr, -⟩ := hs
    obtain ⟨gu, gr⟩ := step_law ht .lanes
    refine ⟨gu hu, gr hr, ?_⟩
    unfold attention
    cases t.notices.urgent <;> cases t.link.inReset <;> simp
  · exact step_link (fun u hu => linkKept_sound (hu ▸ hs)) hs ht

/-! ## Replies -/

theorem runRecordAt_label {p : List Byte} {r : RunRecord} (h : runRecordAt p = some r) : r.label.length ≤ 16 := by
  simp only [runRecordAt] at h
  split at h
  · rename_i hl
    obtain ⟨progs, -, h⟩ := Option.bind_eq_some_iff.mp h
    obtain ⟨disp, -, rfl⟩ := Option.map_eq_some_iff.mp h
    have hok := (Bool.and_eq_true_iff.mp hl).1
    unfold labelOk at hok
    exact of_decide_eq_true (Bool.and_eq_true_iff.mp hok).1
  · cases h

theorem assignProgram_label {z : ZoneId} {e : ProgSel} {s : State} (h : ∀ r, s.run.record = some r → r.label.length ≤ 16) :
    ∀ r, (assignProgram z e s).run.record = some r → r.label.length ≤ 16 := by
  unfold assignProgram
  split
  · intro r hr
    obtain ⟨r0, hr0, rfl⟩ := Option.map_eq_some_iff.mp hr
    exact h r0 hr0
  · rw [(assignStarted_touches z e s).record]
    exact h

/-- A move keeps what bounds the data of the reports. -/
theorem moves_bounds {c : Instr} {l : List Piece} {s t : State} (h : Moves c l s t) (hs : ReplyBounds s) : ReplyBounds t := by
  have g7 := moves_law h .logs rfl hs.1
  obtain ⟨-, hlabel, hpages⟩ := hs
  have ht := h.touches
  have hsame : (Piece.record.isIn l = false) → ∀ r, t.run.record = some r → r.label.length ≤ 16 :=
    fun hl r hr => hlabel r (by rw [← ht.record hl]; exact hr)
  have hkept : (Piece.programs.isIn l = false) → ∀ k d, t.program k = some d → d.pages.length ≤ 32 :=
    fun hl k d hd => hpages k d (by rw [← ht.program k hl]; exact hd)
  have hset : ∀ (k : ProgId) (d : Option Program), (∀ e, d = some e → e.pages.length ≤ 32) →
      ∀ j e, (setProgram k d s).program j = some e → e.pages.length ≤ 32 := fun k d hd j e he => by
    rw [setProgram_program] at he
    split at he
    · exact hd e he
    · exact hpages j e he
  cases h with
  | powerOn => exact ⟨g7, fun r hr => (by cases hr), fun k d hd => by rw [Resets.store_init_program rfl k] at hd; cases hd⟩
  | fullReset => exact ⟨g7, fun r hr => (by cases hr), hkept rfl⟩
  | runReset => exact ⟨g7, fun r hr => (by cases hr), hkept rfl⟩
  | defined hst hr =>
    refine ⟨g7, fun r' hr' => ?_, hkept rfl⟩
    rw [Records.storeRecord_eq, Records.recordPlaced_frame] at hr'
    rw [← Option.some.inj hr']
    exact runRecordAt_label hr
  | programmed e hst hdone => exact ⟨g7, assignProgram_label hlabel, hkept rfl⟩
  | programSet huse hlen hsealed => exact ⟨g7, hsame rfl, hset _ _ fun e he => by rw [← Option.some.inj he]; exact hlen⟩
  | programDropped huse => exact ⟨g7, hsame rfl, hset _ _ fun e he => by cases he⟩
  | cleared hst =>
    refine ⟨g7, fun r hr => ?_, hkept rfl⟩
    rw [clearRun_eq] at hr
    cases hr
  | _ => exact ⟨g7, hsame rfl, hkept rfl⟩

theorem bounds_of_line {s t : State} (h : Touches lineWork s t) (hs : ReplyBounds s) : ReplyBounds t := by
  obtain ⟨h7, hlabel, hpages⟩ := hs
  exact ⟨line_law h .logs h7, fun r hr => hlabel r (h.record ▸ hr), fun k d hd => hpages k d (h.program k ▸ hd)⟩

theorem replyInv_iff (s : State) : ReplyInv s ↔ ReplyBounds s ∧ ReplySound s.link :=
  ⟨fun ⟨h1, h2, h3, h4⟩ => ⟨⟨h1, h2, h3⟩, h4⟩, fun ⟨⟨h1, h2, h3⟩, h4⟩ => ⟨h1, h2, h3, h4⟩⟩

/-- Settles O20. -/
theorem stepKeepsReplies : Obligations.StepKeepsReplies := by
  intro s t hs ht
  obtain ⟨hb, hr⟩ := (replyInv_iff s).mp hs
  obtain ⟨c, l, u, v, hu, hm, hv⟩ := step_move ht
  refine (replyInv_iff t).mpr ⟨bounds_of_line hv (moves_bounds hm (bounds_of_line hu hb)), ?_⟩
  unfold step at ht
  split at ht
  · injection ht with ht
    subst ht
    exact hr
  · rename_i c rest hp
    exact exec_link (linkKept_reply (s := { s with pending := rest }) hb hr) hr ht

/-! ## The base of the invariants -/

/-- Settles O9. -/
theorem resetMeetsTheInvariants : Obligations.ResetMeetsTheInvariants := by
  have h := atRest_reset
  have hheat : Law5 State.reset := fun i _ => (h.therm i).2
  have hfresh : FreshLives State.reset := fun _ i => .inl (h.life i)
  have hnone : ∀ {p : RunRecord → Prop} r, State.reset.run.record = some r → p r := fun r hr => by
    rw [h.run.2.1] at hr; cases hr
  have h7 : Law7 State.reset := fun i => by rw [h.acct i]; decide
  have hdem := h.demands (fun _ => False) (fun _ => False)
  have hslots : SlotsFull (fun _ => False) State.reset := ⟨h.rails, fun z _ _ hq => absurd (h.queue z) hq⟩
  have hperm : PermitHolds State.reset := fun hp => absurd hp (by rw [h.run.2.2.1]; decide)
  have hcredit : CreditInv State.reset := by
    unfold CreditInv Law6
    simp only [h.acct, h.run.2.1, h.started]
    simp [Accounts.init]
  have hfinal : FinalInv State.reset := ⟨h.rails, hheat, hfresh, fun i hi => absurd hi (by rw [h.life i]; decide)⟩
  have hstore := storeSound_init (t := State.reset) rfl
  refine ⟨h.rails, (railInv_iff _).mpr ⟨h.runs, hdem, hslots⟩, h.share, hheat, h.runTable, hcredit, hfinal, h.limit,
    (permitInv_iff _).mpr ⟨h.rails, hheat, h.runTable, hperm⟩, ⟨h.rails, hheat, h.trip⟩, hstore.1, hstore.2, h.port_inv,
    h.seqs, ⟨?_, ?_, ?_⟩, ofStraps_sound 1 0, h7, hnone, fun k d hd => ?_, replySound_none rfl⟩
  · rw [h.notices.1]; decide
  · rw [h.notices.2]; decide
  · unfold attention; rw [h.notices.1]; simp
  · rw [Resets.store_init_program rfl k] at hd
    cases hd

/-! ## Law 6 does not carry itself -/

/-- A socket with more credited seconds than the run clock's range. -/
def overCredited : Socket := { Socket.init with acct := { Accounts.init with credit := 4294967297 } }

/-- A FINISHED run whose record is gone, with the accounting timer running and the clock, past the end of its range, equal
to every credit: the statement's invariant holds of it. -/
def creditPastEnd : State :=
  { State.reset with
    run := { Run.init with state := .finished, clock := 4294967297, acctTimer := some 0 }
    sockets := Vector.replicate 32 overCredited
    pending := [.accountingTimerExpiry] }

theorem creditPastEnd_sock (i : SocketId) : creditPastEnd.sock i = overCredited := by
  simp [creditPastEnd, State.sock]

theorem creditInv_creditPastEnd : CreditInv creditPastEnd := by
  have hrec : creditPastEnd.run.record = none := rfl
  have hstate : creditPastEnd.run.state = .finished := rfl
  have hclock : creditPastEnd.run.clock = 4294967297 := rfl
  have hstarted : creditPastEnd.started = false := rfl
  unfold CreditInv Law6
  simp only [creditPastEnd_sock, hrec, hstate, hclock, hstarted]
  simp [overCredited]

/-- With no run ACTIVE the accounting loop credits nothing. -/
theorem creditOne_of_not_active {s : State} (h : s.run.state ≠ .active) (i : SocketId) : creditOne i s = s := by
  obtain h' | ⟨-, hdue, -⟩ := creditOne_cases i s
  · exact h'
  · exact absurd (creditDue_active hdue) h

theorem forEach_creditOne_of_not_active {s : State} (h : s.run.state ≠ .active) (l : List SocketId) :
    forEach l creditOne s = s := by
  induction l with
  | nil => rfl
  | cons i l ih =>
    show forEach l creditOne (creditOne i s) = s
    rw [creditOne_of_not_active h i, ih]

/-- The step from there: the clock stops at the end of its range, below every credit. -/
def creditPastClock : State :=
  { creditPastEnd with
    run := { creditPastEnd.run with clock := 4294967295, acctTimer := some (1000 * Config.cyclesPerMs) }, pending := [] }

theorem step_creditPastEnd : step creditPastEnd = .next creditPastClock := by
  have h : forEach allSockets creditOne creditPastClock = creditPastClock :=
    forEach_creditOne_of_not_active (by decide) allSockets
  have hstep : step creditPastEnd = .next (finishTest (forEach allSockets creditOne creditPastClock)) := rfl
  rw [hstep, h]
  rfl

/-- Refutes O13: CreditInv does not bound the clock, so an accounting expiry that finds it past the end of its range sets it
below a credit. -/
theorem not_stepKeepsCredit : ¬ Obligations.StepKeepsCredit := by
  intro h
  obtain ⟨hlaw, -⟩ := h creditPastEnd creditPastClock creditInv_creditPastEnd step_creditPastEnd
  obtain ⟨hle, -⟩ := hlaw 0
  have hcredit : (creditPastClock.sock 0).acct.credit = 4294967297 := congrArg (·.acct.credit) (creditPastEnd_sock 0)
  rw [hcredit] at hle
  exact absurd hle (by decide)

end Sys2Proof.Proofs.LinkLaw

/-! What refuses a request: the checks of every kind, in the order of its rule, and that a refusal changes nothing. -/

namespace Sys2Proof.Proofs.Refusals

open Sys2Proof.Machine Sys2Proof.Safety Sys2Proof.Proofs.PatternStore Sys2Proof.Proofs.Requests Sys2Proof.Proofs.Line
open Sys2Proof.Proofs.Records Sys2Proof.Proofs.Loading Sys2Proof.Proofs.Programs Sys2Proof.Proofs.Steps

/-! ## Lists of checks -/

/-- The owner refuses the request with this status and these data. -/
def Refuses (op : Op) (p : List Byte) (s : State) (st : Status) (data : List Byte) : Prop := op p s = refuse st s data

section
variable {R R' : Status → List Byte → Prop} {c : Prop} {st : Status} {data : List Byte}
  {l : List (Prop × Status × List Byte)}

theorem firstRefusal_mono (h : ∀ st data, R st data → R' st data) : ∀ l, FirstRefusal R l → FirstRefusal R' l
  | [], _ => trivial
  | (_, _, _) :: l, ⟨h1, h2⟩ => ⟨fun hc => h _ _ (h1 hc), fun hc => firstRefusal_mono h l (h2 hc)⟩

theorem firstRefusal_cons (h1 : c → R st data) (h2 : ¬ c → FirstRefusal R l) : FirstRefusal R ((c, st, data) :: l) :=
  ⟨h1, h2⟩

theorem firstRefusal_last (h : c → R st data) : FirstRefusal R [(c, st, data)] := ⟨h, fun _ => trivial⟩

theorem firstRefusal_skip (hc : ¬ c) (h : FirstRefusal R l) : FirstRefusal R ((c, st, data) :: l) :=
  ⟨fun h => absurd h hc, fun _ => h⟩

/-- A refusal under a condition, and what follows where it does not hold. -/
theorem firstRefusal_ite [Decidable c] {x : State × Answer} {s : State} (h : FirstRefusal (fun st data => x = refuse st s data) l) :
    FirstRefusal (fun st' data' => (if c then refuse st s data else x) = refuse st' s data') ((c, st, data) :: l) :=
  firstRefusal_cons (fun hc => if_pos hc) fun hc => firstRefusal_mono (fun _ _ hr => (if_neg hc).trans hr) l h

theorem firstRefusal_fixedLen {n : Nat} {op : Op} {p : List Byte} {s : State}
    (h : p.length = n → FirstRefusal (Refuses op p s) l) :
    FirstRefusal (Refuses (fixedLen n op) p s) ((p.length ≠ n, .badLength, []) :: l) :=
  firstRefusal_cons (fun hn => fixedLen_of_ne hn) fun hn => by
    have hn : p.length = n := not_not.mp hn
    exact firstRefusal_mono (fun st data hr => (fixedLen_of_length hn).trans hr) l (h hn)

end

theorem running_iff (s : State) : Running s ↔ s.started = true := (started_iff s).symm

/-! ## Zones and sockets named by a byte -/

theorem zoneArg_cases (p : List Byte) (k : Nat) :
    (3 < u8At p k ∧ zoneArg p k = none) ∨ ∃ z : ZoneId, u8At p k = z.val ∧ zoneArg p k = some z := by
  by_cases h : 3 < u8At p k
  · exact .inl ⟨h, zoneArg_of_gt h⟩
  · exact .inr ⟨⟨u8At p k, by omega⟩, rfl, zoneArg_of_eq rfl⟩

theorem socketArg_cases (p : List Byte) (k : Nat) :
    (31 < u8At p k ∧ socketArg p k = none) ∨ ∃ i : SocketId, u8At p k = i.val ∧ socketArg p k = some i := by
  by_cases h : 31 < u8At p k
  · exact .inl ⟨h, socketArg_of_gt h⟩
  · exact .inr ⟨⟨u8At p k, by omega⟩, rfl, socketArg_of_eq rfl⟩

theorem progArg_cases (p : List Byte) (k : Nat) :
    (15 < u8At p k ∧ progArg p k = none) ∨ ∃ j : ProgId, u8At p k = j.val ∧ progArg p k = some j := by
  by_cases h : 15 < u8At p k
  · exact .inl ⟨h, progArg_none h⟩
  · exact .inr ⟨⟨u8At p k, by omega⟩, rfl, progArg_some rfl⟩

/-- A number names one item at most. -/
theorem exists_named {n m : Nat} {a : Fin m} (h : n = a.val) {P : Fin m → Prop} : (∃ b : Fin m, n = b.val ∧ P b) ↔ P a :=
  ⟨fun ⟨b, hb, hp⟩ => by rwa [Fin.ext (h.symm.trans hb)], fun hp => ⟨a, h, hp⟩⟩

theorem not_named {n m : Nat} (h : ¬ n < m) {P : Fin m → Prop} : ¬ ∃ b : Fin m, n = b.val ∧ P b :=
  fun ⟨b, hb, _⟩ => h (hb ▸ b.isLt)

/-! ## The checks of each kind -/

section
variable {p : List Byte} {s : State}

theorem opCollect_refuses : FirstRefusal (Refuses opCollect p s)
    [(p.length ≠ 1, .badLength, []), (u8At p 0 = 0 ∨ 20 < u8At p 0, .badValue, [])] :=
  firstRefusal_fixedLen fun _ => firstRefusal_last fun h => if_pos h

theorem opBoardSetup_refuses : FirstRefusal (Refuses opBoardSetup p s)
    [(p.length ≠ 2, .badLength, []), (Running s, .wrongState, [])] :=
  firstRefusal_fixedLen fun _ => firstRefusal_last fun h => if_pos ((running_iff s).mp h)

theorem opBoardReset_refuses : FirstRefusal (Refuses opBoardReset p s)
    [(p.length ≠ 1, .badLength, []), (1 < u8At p 0, .badValue, [])] :=
  firstRefusal_fixedLen fun _ => firstRefusal_last fun h =>
    (if_neg (by omega)).trans (if_neg (by omega))

theorem opZoneRail_refuses : FirstRefusal (Refuses opZoneRail p s)
    [(p.length ≠ 21, .badLength, []), (Running s, .wrongState, []), (3 < u8At p 0, .badValue, []),
      (u8At p 16 ≠ 8 ∧ u8At p 16 ≠ 16 ∧ u8At p 16 ≠ 32 ∧ u8At p 16 ≠ 64, .badValue, [])] := by
  refine firstRefusal_fixedLen fun _ => firstRefusal_cons (fun h => if_pos ((running_iff s).mp h)) fun hrun => ?_
  rw [running_iff] at hrun
  unfold Refuses
  simp only [if_neg hrun]
  obtain ⟨hz, harg⟩ | ⟨z, hz, harg⟩ := zoneArg_cases p 0
  · simp only [harg]
    exact firstRefusal_cons (fun _ => rfl) fun h => absurd hz h
  · simp only [harg]
    refine firstRefusal_skip (by omega) (firstRefusal_last fun h => if_neg ?_)
    show ¬ (u8At p 16 = 8 ∨ u8At p 16 = 16 ∨ u8At p 16 = 32 ∨ u8At p 16 = 64)
    omega

theorem opZoneThermal_refuses : FirstRefusal (Refuses opZoneThermal p s)
    [(p.length ≠ 13, .badLength, []), (Running s, .wrongState, []), (3 < u8At p 0, .badValue, []),
      (s16At p 6 < 300 ∨ 2000 < s16At p 6 ∨ s16At p 6 < max 250 (min 1800 (s16At p 1)) + 50, .badValue, [])] := by
  refine firstRefusal_fixedLen fun _ => firstRefusal_cons (fun h => if_pos ((running_iff s).mp h)) fun hrun => ?_
  rw [running_iff] at hrun
  unfold Refuses
  simp only [if_neg hrun]
  obtain ⟨hz, harg⟩ | ⟨z, hz, harg⟩ := zoneArg_cases p 0
  · simp only [harg]
    exact firstRefusal_cons (fun _ => rfl) fun h => absurd hz h
  · simp only [harg]
    refine firstRefusal_skip (by omega) (firstRefusal_last fun h => if_neg ?_)
    unfold ThermalProfile.limitOk
    rw [decide_eq_true_eq]
    show ¬ (300 ≤ s16At p 6 ∧ s16At p 6 ≤ 2000 ∧ max 250 (min 1800 (s16At p 1)) + 50 ≤ s16At p 6)
    omega

theorem opSocketThermal_refuses : FirstRefusal (Refuses opSocketThermal p s)
    [(p.length ≠ 4, .badLength, []), (31 < u8At p 0, .badValue, [])] :=
  firstRefusal_fixedLen fun _ => firstRefusal_last fun h => by unfold Refuses; simp only [socketArg_of_gt h]

theorem opSetpoint_refuses : FirstRefusal (Refuses opSetpoint p s)
    [(p.length ≠ 3, .badLength, []), (3 < u8At p 0, .badValue, []),
      (∃ z : ZoneId, u8At p 0 = z.val ∧ (s.zone z).thermProf = none, .notConfigured, []),
      (∃ z : ZoneId, u8At p 0 = z.val ∧ ∃ q, (s.zone z).thermProf = some q ∧
        q.limit - 50 < max 250 (min 1800 (s16At p 1)), .badValue, [])] := by
  refine firstRefusal_fixedLen fun _ => ?_
  unfold Refuses
  obtain ⟨hz, harg⟩ | ⟨z, hz, harg⟩ := zoneArg_cases p 0
  · simp only [harg]
    exact firstRefusal_cons (fun _ => rfl) fun h => absurd hz h
  · simp only [harg, exists_named hz]
    refine firstRefusal_skip (by omega) ?_
    cases hp : (s.zone z).thermProf with
    | none => exact firstRefusal_cons (fun _ => rfl) fun h => absurd rfl h
    | some q =>
      refine firstRefusal_skip nofun (firstRefusal_last fun ⟨q', hq, h⟩ => ?_)
      obtain rfl := Option.some.inj hq
      exact if_pos h

theorem opZoneBudget_refuses : FirstRefusal (Refuses opZoneBudget p s)
    [(p.length ≠ 3, .badLength, []), (3 < u8At p 0, .badValue, [])] :=
  firstRefusal_fixedLen fun _ => firstRefusal_last fun h => by unfold Refuses; simp only [zoneArg_of_gt h]

theorem opZoneReport_refuses : FirstRefusal (Refuses opZoneReport p s)
    [(p.length ≠ 1, .badLength, []), (3 < u8At p 0, .badValue, [])] :=
  firstRefusal_fixedLen fun _ => firstRefusal_last fun h => by unfold Refuses; simp only [zoneArg_of_gt h]

theorem opSocketReport_refuses : FirstRefusal (Refuses opSocketReport p s)
    [(p.length ≠ 1, .badLength, []), (31 < u8At p 0, .badValue, [])] :=
  firstRefusal_fixedLen fun _ => firstRefusal_last fun h => by unfold Refuses; simp only [socketArg_of_gt h]

theorem opFailLog_refuses : FirstRefusal (Refuses opFailLog p s)
    [(p.length ≠ 1, .badLength, []), (31 < u8At p 0, .badValue, [])] :=
  firstRefusal_fixedLen fun _ => firstRefusal_last fun h => by unfold Refuses; simp only [socketArg_of_gt h]

theorem opPageList_refuses : FirstRefusal (Refuses opPageList p s)
    [(p.length ≠ 2, .badLength, []), (u8At p 1 = 0 ∨ 24 < u8At p 1, .badValue, [])] :=
  firstRefusal_fixedLen fun _ => firstRefusal_last fun h => if_pos h

theorem opProgramList_refuses : FirstRefusal (Refuses opProgramList p s)
    [(p.length ≠ 1, .badLength, []), (15 < u8At p 0 ∧ u8At p 0 ≠ 0xFF, .badValue, [])] :=
  firstRefusal_fixedLen fun _ => firstRefusal_last fun ⟨h, hall⟩ => by
    unfold Refuses
    simp only [if_neg hall, progArg_none h]

theorem opSocketRetire_refuses : FirstRefusal (Refuses opSocketRetire p s)
    [(p.length ≠ 1, .badLength, []), (31 < u8At p 0, .badValue, []),
      (¬ Running s ∨ ∃ i : SocketId, u8At p 0 = i.val ∧ (s.sock i).life ≠ .stressing, .wrongState, [])] := by
  refine firstRefusal_fixedLen fun _ => ?_
  unfold Refuses
  obtain ⟨hi, harg⟩ | ⟨i, hi, harg⟩ := socketArg_cases p 0
  · simp only [harg]
    exact firstRefusal_cons (fun _ => rfl) fun h => absurd hi h
  · simp only [harg, exists_named hi, running_iff]
    exact firstRefusal_skip (by omega) (firstRefusal_last fun h => if_neg (by tauto))

/-! ### RUN-DEFINE and ZONE-PROGRAM -/

/-- A byte's code, read as a number. -/
theorem code_ne_iff (b : Byte) : ¬ (b = 0xFE ∨ b.toNat < 16) ↔ 15 < b.toNat ∧ b.toNat ≠ 0xFE := by
  have h : b = 0xFE ↔ b.toNat = 0xFE := ⟨fun h => by rw [h]; rfl, fun h => BitVec.eq_of_toNat_eq h⟩
  rw [h]
  omega

/-- The program choice of a byte names a slot with no definition exactly when the byte spells one. -/
theorem undefined_iff {b : Byte} {e : ProgSel} (he : e.code = b) :
    s.selDefined e = false ↔ ∃ k : ProgId, b.toNat = k.val ∧ s.program k = none := by
  cases e with
  | noProgram =>
    subst he
    refine iff_of_false (fun h => by cases h) (not_named ?_)
    decide
  | slot k =>
    rw [← he, exists_named (a := k) (code_slot_toNat rfl)]
    show (s.program k).isSome = false ↔ _
    cases s.program k <;> simp

theorem zoneInRun_eq_false_iff (z : ZoneId) :
    s.zoneInRun z = false ↔ ∀ r, s.run.record = some r → zoneDeclared r.declared z = false := by
  unfold State.zoneInRun
  cases s.run.record <;> simp

theorem opZoneProgram_refuses : FirstRefusal (Refuses opZoneProgram p s)
    [(p.length ≠ 2, .badLength, []), (s.run.state ≠ .ready ∧ ¬ Running s, .wrongState, []),
      (3 < u8At p 0 ∨ (15 < u8At p 1 ∧ u8At p 1 ≠ 0xFE), .badValue, []),
      (∃ z : ZoneId, u8At p 0 = z.val ∧ ((s.zone z).seq.state = .done ∨
        ∀ r, s.run.record = some r → zoneDeclared r.declared z = false), .wrongState, []),
      (∃ k : ProgId, u8At p 1 = k.val ∧ s.program k = none, .notFound, [])] := by
  refine firstRefusal_fixedLen fun _ => firstRefusal_cons (fun h => if_pos ?_) fun hst => ?_
  · rw [running_iff] at h; exact ⟨h.1, by simpa using h.2⟩
  have hrun : ¬ (s.run.state ≠ .ready ∧ s.started = false) := fun h => hst ⟨h.1, by rw [running_iff, h.2]; decide⟩
  unfold Refuses
  simp only [if_neg hrun]
  obtain ⟨hz, harg⟩ | ⟨z, hz, harg⟩ := zoneArg_cases p 0
  · simp only [harg]
    exact firstRefusal_cons (fun _ => rfl) fun h => absurd (.inl hz) h
  by_cases hb : p.getD 1 0 = 0xFE ∨ (p.getD 1 0).toNat < 16
  · obtain ⟨e, he, hcode⟩ := progOf_some hb
    have hval : ¬ (3 < u8At p 0 ∨ 15 < u8At p 1 ∧ u8At p 1 ≠ 0xFE) := by
      rintro (h | h)
      · omega
      · exact (code_ne_iff _).mpr h hb
    simp only [harg, he]
    refine firstRefusal_skip hval (firstRefusal_cons (fun h => if_pos ?_) fun h => firstRefusal_last fun hu => ?_)
    · rw [exists_named hz, ← zoneInRun_eq_false_iff] at h
      exact h.symm
    · rw [exists_named hz, ← zoneInRun_eq_false_iff] at h
      exact (if_neg fun h' => h h'.symm).trans (if_pos ((undefined_iff hcode).mpr hu))
  · simp only [harg, progOf_none hb]
    exact firstRefusal_cons (fun _ => rfl) fun h => absurd (.inr ((code_ne_iff _).mp hb)) h

/-- The first step of R4 fails exactly where one of its fields may not be taken. -/
theorem not_runFieldsOk_iff : ¬ RunFieldsOk p ↔
    16 < u8At p 0 ∨ (∃ c ∈ (p.drop 1).take (u8At p 0), c.toNat < 0x20 ∨ 0x7E < c.toNat) ∨ declaredAt p = 0 ∨
      (∃ z, zoneDeclared (declaredAt p) z = true ∧ 15 < u8At p (9 + u8At p 0 + z.val) ∧
        u8At p (9 + u8At p 0 + z.val) ≠ 0xFE) ∨ (∃ k < 8, 3 < u8At p (13 + u8At p 0 + k)) ∨
      ∃ k < 8, 4 ≤ k ∧ u8At p (13 + u8At p 0 + k) = 1 := by
  have hone : ∀ k, p.getD (13 + u8At p 0 + k) 0 = 1 ↔ u8At p (13 + u8At p 0 + k) = 1 := fun k =>
    (u8At_le_iff _ 1 (by decide)).symm
  have hchars : (¬ ∀ c ∈ (p.drop 1).take (u8At p 0), 0x20 ≤ c.toNat ∧ c.toNat ≤ 0x7E) ↔
      ∃ c ∈ (p.drop 1).take (u8At p 0), c.toNat < 0x20 ∨ 0x7E < c.toNat := by
    simp only [not_forall, not_and_or, Nat.not_le, exists_prop]
  have hentries : (¬ ∀ z, zoneDeclared (declaredAt p) z = true →
      p.getD (9 + u8At p 0 + z.val) 0 = 0xFE ∨ (p.getD (9 + u8At p 0 + z.val) 0).toNat < 16) ↔
      ∃ z, zoneDeclared (declaredAt p) z = true ∧ 15 < u8At p (9 + u8At p 0 + z.val) ∧ u8At p (9 + u8At p 0 + z.val) ≠ 0xFE := by
    simp only [not_forall, exists_prop, code_ne_iff]
    rfl
  have hdisp : (¬ ∀ k < 8, (p.getD (13 + u8At p 0 + k) 0).toNat ≤ 3 ∧ (4 ≤ k → p.getD (13 + u8At p 0 + k) 0 ≠ 1)) ↔
      (∃ k < 8, 3 < u8At p (13 + u8At p 0 + k)) ∨ ∃ k < 8, 4 ≤ k ∧ u8At p (13 + u8At p 0 + k) = 1 := by
    simp only [not_forall, not_and_or, Nat.not_le, exists_prop, ne_eq, not_not, hone, ← exists_or, ← and_or_left]
    rfl
  unfold RunFieldsOk
  rw [not_and_or, not_and_or, not_and_or, not_and_or, hchars, hentries, hdisp, Nat.not_le, not_not]

/-- A slot that the record names with no definition fails R4's third step. -/
theorem progsDefined_eq_false {r : RunRecord} {z : ZoneId} (h : s.selDefined r.progs[z] = false) : s.progsDefined r = false := by
  refine List.all_eq_false.mpr ⟨r.progs[z], ?_, ?_⟩
  · exact List.mem_iff_getElem.mpr ⟨z.val, by simp, by simp⟩
  · cases hc : r.progs[z] with
    | noProgram => rw [hc] at h; cases h
    | slot k => rw [hc] at h; exact ne_true_of_eq_false h

theorem opRunDefine_refuses : FirstRefusal (Refuses opRunDefine p s)
    [(p.length ≠ 23 + u8At p 0, .badLength, []), (s.run.state ≠ .idle ∧ s.run.state ≠ .ready, .wrongState, []),
      (16 < u8At p 0 ∨ (∃ c ∈ (p.drop 1).take (u8At p 0), c.toNat < 0x20 ∨ 0x7E < c.toNat) ∨
        BitVec.ofNat 32 (u32At p (1 + u8At p 0)) = 0 ∨
        (∃ z, zoneDeclared (BitVec.ofNat 32 (u32At p (1 + u8At p 0))) z = true ∧ 15 < u8At p (9 + u8At p 0 + z.val) ∧
          u8At p (9 + u8At p 0 + z.val) ≠ 0xFE) ∨ (∃ k < 8, 3 < u8At p (13 + u8At p 0 + k)) ∨
        ∃ k < 8, 4 ≤ k ∧ u8At p (13 + u8At p 0 + k) = 1, .badValue, []),
      (∃ z, zoneDeclared (BitVec.ofNat 32 (u32At p (1 + u8At p 0))) z = true ∧
        ((s.zone z).railProf = none ∨ (s.zone z).thermProf = none), .notConfigured, []),
      (∃ z, zoneDeclared (BitVec.ofNat 32 (u32At p (1 + u8At p 0))) z = true ∧
        ∃ k : ProgId, u8At p (9 + u8At p 0 + z.val) = k.val ∧ s.program k = none, .notFound, [])] := by
  refine firstRefusal_cons (fun h => if_pos h) fun hlen => ?_
  have hlen : p.length = 23 + u8At p 0 := not_not.mp hlen
  refine firstRefusal_cons (fun h => (if_neg (not_not.mpr hlen)).trans (if_pos h)) fun hst => ?_
  have hop : opRunDefine p s = match runRecordAt p with
      | none => refuse .badValue s
      | some r =>
        if s.configured r.declared = false then refuse .notConfigured s
        else if s.progsDefined r = false then refuse .notFound s
        else if r.target = u32At p (5 + u8At p 0) ∧ r.retireLimit = u8At p (21 + u8At p 0) then done false (storeRecord r s) []
        else done true (storeRecord r s) (be4 r.target ++ be1 r.retireLimit) :=
    (if_neg (not_not.mpr hlen)).trans (if_neg hst)
  unfold Refuses
  rw [hop]
  by_cases hf : RunFieldsOk p
  · obtain ⟨r, hr, -, hdecl, -, -, -, hprogs, -⟩ := runRecordAt_some hlen hf
    simp only [hr]
    refine firstRefusal_skip (fun h => not_runFieldsOk_iff.mpr h hf) (firstRefusal_cons (fun h => if_pos ?_) fun hc => ?_)
    · obtain ⟨z, hz, h⟩ := h
      rw [Bool.eq_false_iff, ne_eq, configured_iff, hdecl]
      intro hall
      obtain ⟨h1, h2⟩ := hall z hz
      rcases h with h | h
      · rw [h] at h1; cases h1
      · rw [h] at h2; cases h2
    · have hconf : s.configured r.declared = true := (configured_iff s _).mpr fun z hz => by
        rw [hdecl] at hz
        have hz' := not_exists.mp hc z
        simp only [Option.isSome_iff_ne_none]
        exact ⟨fun h => hz' ⟨hz, .inl h⟩, fun h => hz' ⟨hz, .inr h⟩⟩
      refine firstRefusal_last fun ⟨z, hz, k, hk, hnone⟩ => (if_neg (by rw [hconf]; decide)).trans (if_pos ?_)
      exact progsDefined_eq_false ((undefined_iff ((hprogs z).1 hz)).mpr ⟨k, hk, hnone⟩)
  · simp only [runRecordAt_none hlen hf]
    exact firstRefusal_cons (fun _ => rfl) fun h => absurd (not_runFieldsOk_iff.mp hf) h

/-! ### PAGE-DATA and PROGRAM-DEFINE -/

theorem opPageData_refuses : FirstRefusal (Refuses opPageData p s)
    [(p.length ≠ 4 + 5 * u8At p 3, .badLength, []),
      (u8At p 3 = 0 ∨ 48 < u8At p 3 ∨ ∃ k < u8At p 3, 15 < u8At p (8 + 5 * k), .badValue, []),
      ((s.page (pageArg p 0)).state ≠ .opened, .wrongState, []),
      (u16At p 1 ≠ (s.page (pageArg p 0)).cursor, .outOfOrder, be2 (s.page (pageArg p 0)).cursor),
      (512 < u16At p 1 + u8At p 3, .badValue, []),
      (s.store.staging.isSome = true, .busy, be2 (s.page (pageArg p 0)).cursor)] := by
  have hflags : ((List.range (u8At p 3)).all fun k => vecValidAt p (4 + 5 * k)) = false ↔
      ∃ k < u8At p 3, 15 < u8At p (8 + 5 * k) := by
    rw [Bool.eq_false_iff, ne_eq, vecValid_iff]
    simp only [not_forall, Nat.not_lt, exists_prop]
    rfl
  have hop : opPageData p s = if p.length ≠ 4 + 5 * u8At p 3 then refuse .badLength s
      else if u8At p 3 = 0 ∨ 48 < u8At p 3 ∨ ((List.range (u8At p 3)).all fun k => vecValidAt p (4 + 5 * k)) = false then
        refuse .badValue s
      else if (s.page (pageArg p 0)).state ≠ .opened then refuse .wrongState s
      else if u16At p 1 ≠ (s.page (pageArg p 0)).cursor then refuse .outOfOrder s (be2 (s.page (pageArg p 0)).cursor)
      else if 512 < u16At p 1 + u8At p 3 then refuse .badValue s
      else if s.store.staging.isSome then refuse .busy s (be2 (s.page (pageArg p 0)).cursor)
      else done false (acceptChunk ⟨pageArg p 0, u16At p 1, vecsAt p (u8At p 3)⟩ (p.drop 4) s)
        (be2 ((s.page (pageArg p 0)).cursor + u8At p 3)) := rfl
  unfold Refuses
  rw [hop, ← hflags]
  exact firstRefusal_ite (firstRefusal_ite (firstRefusal_ite (firstRefusal_ite (firstRefusal_ite (firstRefusal_ite trivial)))))

theorem programSent_fieldsOk_eq_false_iff {mode : CheckMode} (hcode : mode.code = p.getD (13 + u8At p 1) 0) :
    (programSent p mode).fieldsOk = false ↔ u8At p 1 = 0 ∨ 32 < u8At p 1 ∨ u16At p (2 + u8At p 1) = 0 ∨
      512 < u16At p (2 + u8At p 1) ∨ (u8At p (13 + u8At p 1) ≠ 0 ∧ (p.getD (14 + u8At p 1) 0).getLsbD 0 = false) := by
  have hlen : (programSent p mode).pages.length = u8At p 1 := by simp [programSent]
  have hcount : (programSent p mode).lastCount = u16At p (2 + u8At p 1) := rfl
  have hmode : (programSent p mode).mode = mode := rfl
  have hstrobe : mode = .strobe ↔ u8At p (13 + u8At p 1) = 0 := by
    have h : u8At p (13 + u8At p 1) = mode.code.toNat := congrArg BitVec.toNat hcode.symm
    rw [h]
    cases mode <;> decide
  have hsig : (programSent p mode).sig.isSome = (p.getD (14 + u8At p 1) 0).getLsbD 0 := by
    by_cases hb : (p.getD (14 + u8At p 1) 0).getLsbD 0 = true
    · rw [hb]; exact congrArg Option.isSome (if_pos hb)
    · rw [Bool.eq_false_iff.mpr hb]; exact congrArg Option.isSome (if_neg hb)
  have hrange : ¬ (1 ≤ u8At p 1 ∧ u8At p 1 ≤ 32 ∧ 1 ≤ u16At p (2 + u8At p 1) ∧ u16At p (2 + u8At p 1) ≤ 512) ↔
      u8At p 1 = 0 ∨ 32 < u8At p 1 ∨ u16At p (2 + u8At p 1) = 0 ∨ 512 < u16At p (2 + u8At p 1) := by omega
  unfold Program.fieldsOk
  rw [hlen, hcount, hmode, hsig, Bool.and_eq_false_iff, decide_eq_false_iff_not, Bool.or_eq_false_iff, beq_eq_false_iff_ne,
    ne_eq, hstrobe, hrange]
  simp only [or_assoc, ne_eq]

theorem opProgramDefine_refuses : FirstRefusal (Refuses opProgramDefine p s)
    [(p.length ≠ 15 + u8At p 1 + (if (p.getD (14 + u8At p 1) 0).getLsbD 0 then 3 else 0) +
        (if (p.getD (14 + u8At p 1) 0).getLsbD 1 then 9 else 0), .badLength, []),
      (15 < u8At p 0 ∨ u8At p 1 = 0 ∨ 32 < u8At p 1 ∨ u16At p (2 + u8At p 1) = 0 ∨ 512 < u16At p (2 + u8At p 1) ∨
        2 < u8At p (13 + u8At p 1) ∨ (u8At p (13 + u8At p 1) ≠ 0 ∧ (p.getD (14 + u8At p 1) 0).getLsbD 0 = false),
        .badValue, []),
      (∃ k : ProgId, u8At p 0 = k.val ∧ s.inUse k = true, .inUse, []),
      (((((p.drop 2).take (u8At p 1)).map fun b : Byte => (b.toFin : PageId)).find?
          fun pg => (s.page pg).state != .sealed).isSome = true, .notFound,
        (((((p.drop 2).take (u8At p 1)).map fun b : Byte => (b.toFin : PageId)).find?
          fun pg => (s.page pg).state != .sealed).map fun pg => be1 pg.val).getD []),
      (∃ pg ∈ (((p.drop 2).take (u8At p 1)).map fun b : Byte => (b.toFin : PageId)).getLast?,
        (s.page pg).count.getD 0 < u16At p (2 + u8At p 1), .badValue, [])] := by
  refine firstRefusal_cons (fun h => if_pos ?_) fun hlen => ?_
  · rw [Bool.eq_false_iff, ne_eq, programLengthOk_iff]; exact h
  have hlen : p.length = programLength p := not_not.mp hlen
  have hok : ¬ programLengthOk p = false := by rw [(programLengthOk_iff p).mpr hlen]; decide
  have hlist : 2 + u8At p 1 ≤ p.length := by unfold programLength at hlen; omega
  unfold Refuses opProgramDefine
  simp only [if_neg hok]
  obtain ⟨hk, harg⟩ | ⟨k, hk, harg⟩ := progArg_cases p 0
  · simp only [harg]
    exact firstRefusal_cons (fun _ => rfl) fun h => absurd (.inl hk) h
  by_cases hm : 2 < u8At p (13 + u8At p 1)
  · simp only [harg, checkModeOf_none hm]
    exact firstRefusal_cons (fun _ => rfl) fun h => absurd (by simp [hm]) h
  obtain ⟨mode, hmode, hcode⟩ := checkModeOf_some (Nat.le_of_not_lt hm)
  have hpages : (programSent p mode).pages = ((p.drop 2).take (u8At p 1)).map fun b : Byte => (b.toFin : PageId) :=
    pageArgs_eq p _ hlist
  have hcount : (programSent p mode).lastCount = u16At p (2 + u8At p 1) := rfl
  have hfields := programSent_fieldsOk_eq_false_iff hcode
  simp only [harg, hmode]
  have hbad : (15 < u8At p 0 ∨ u8At p 1 = 0 ∨ 32 < u8At p 1 ∨ u16At p (2 + u8At p 1) = 0 ∨ 512 < u16At p (2 + u8At p 1) ∨
      2 < u8At p (13 + u8At p 1) ∨ (u8At p (13 + u8At p 1) ≠ 0 ∧ (p.getD (14 + u8At p 1) 0).getLsbD 0 = false)) ↔
      (programSent p mode).fieldsOk = false := by
    have hk15 : ¬ 15 < u8At p 0 := by omega
    rw [hfields]
    simp only [hk15, hm, false_or]
  rw [hbad, exists_named hk]
  refine firstRefusal_ite (firstRefusal_ite ?_)
  rw [← hpages]
  have hfirst : ((programSent p mode).pages.find? fun pg => (s.page pg).state != .sealed) =
      s.firstUnsealed (programSent p mode).pages := rfl
  rw [hfirst]
  cases hu : s.firstUnsealed (programSent p mode).pages with
  | some pg => exact firstRefusal_cons (fun _ => rfl) fun h => absurd rfl h
  | none =>
    refine firstRefusal_skip nofun (firstRefusal_last fun ⟨pg, hpg, hlt⟩ => if_pos ?_)
    rw [lastPageCount_eq, Option.mem_def.mp hpg]
    exact hlt

theorem firstRefusal_kind {R : Status → List Byte → Prop} {c : Prop} [Decidable c] {l m : List (Prop × Status × List Byte)}
    (h1 : c → FirstRefusal R l) (h2 : ¬ c → FirstRefusal R m) : FirstRefusal R (if c then l else m) := by
  split
  · exact h1 ‹c›
  · exact h2 ‹¬ c›

/-- The checks of a kind, in the order of its rule, refuse the request. -/
theorem kindOp_refuses (kind : Byte) : FirstRefusal (Refuses (kindOp kind) p s) (checks kind p s) := by
  unfold checks
  refine firstRefusal_kind (fun h => by subst h; exact opCollect_refuses) fun _ => ?_
  refine firstRefusal_kind (fun h => by subst h; exact opBoardSetup_refuses) fun _ => ?_
  refine firstRefusal_kind (fun h => by subst h; exact opBoardReset_refuses) fun _ => ?_
  refine firstRefusal_kind (fun h => by subst h; exact opRunDefine_refuses) fun _ => ?_
  refine firstRefusal_kind (fun h => by subst h; exact opZoneRail_refuses) fun _ => ?_
  refine firstRefusal_kind (fun h => by subst h; exact opZoneThermal_refuses) fun _ => ?_
  refine firstRefusal_kind (fun h => by subst h; exact opSocketThermal_refuses) fun _ => ?_
  refine firstRefusal_kind (fun h => by subst h; exact opSetpoint_refuses) fun _ => ?_
  refine firstRefusal_kind (fun h => by subst h; exact opZoneBudget_refuses) fun _ => ?_
  refine firstRefusal_kind (fun h => by subst h; exact opZoneProgram_refuses) fun _ => ?_
  refine firstRefusal_kind (fun h => by subst h; exact opZoneReport_refuses) fun _ => ?_
  refine firstRefusal_kind (fun h => by subst h; exact opPageData_refuses) fun _ => ?_
  refine firstRefusal_kind (fun h => by subst h; exact opPageList_refuses) fun _ => ?_
  refine firstRefusal_kind (fun h => by subst h; exact opProgramDefine_refuses) fun _ => ?_
  refine firstRefusal_kind (fun h => by subst h; exact opProgramList_refuses) fun _ => ?_
  refine firstRefusal_kind (fun h => by subst h; exact opSocketRetire_refuses) fun _ => ?_
  refine firstRefusal_kind (fun h => ?_) fun _ => trivial
  obtain rfl | rfl := h
  · exact opSocketReport_refuses
  · exact opFailLog_refuses

end

/-! ## Refusals of addressed requests -/

section
variable {c : Instr} {kind : Byte} {f : Frame} {s : State}

/-- A refusal of the kind's owner is a refusal of the command. -/
theorem refused_of_refuses (hreq : requestOf c = some (kind, f)) (h : Addressed kind f s) {st : Status} {data : List Byte}
    (hop : ∀ x, Refuses (kindOp kind) f.payload (received { s with straps := x }) st data) : Refused c kind f s st data := by
  obtain ⟨x, hx, -⟩ := exec_of_requestOf hreq s
  exact ⟨_, hx.trans (execFrame_refuses (s := { s with straps := x }) h (hop x)), rfl⟩

theorem firstRefusal_forall {α : Type} {R : α → Status → List Byte → Prop} :
    ∀ l : List (Prop × Status × List Byte), (∀ x, FirstRefusal (R x) l) → FirstRefusal (fun st data => ∀ x, R x st data) l
  | [], _ => trivial
  | (_, _, _) :: l, h => ⟨fun hc x => (h x).1 hc, fun hc => firstRefusal_forall l fun x => (h x).2 hc⟩

theorem checks_received (kind : Byte) (p : List Byte) (s : State) (x : Straps) :
    checks kind p (received { s with straps := x }) = checks kind p s := rfl

/-- The checks of a kind name the refusal of the command. -/
theorem refused_first (hreq : requestOf c = some (kind, f)) (h : Addressed kind f s) :
    FirstRefusal (Refused c kind f s) (checks kind f.payload s) :=
  firstRefusal_mono (fun _ _ hop => refused_of_refuses hreq h hop) _
    (firstRefusal_forall _ fun x => by
      have hx := kindOp_refuses (p := f.payload) (s := received { s with straps := x }) kind
      rwa [checks_received] at hx)

end

/-! ## Kinds of fixed length -/

/-- The kinds whose payload has one length (11 §11.3). -/
def fixedKinds : List (Byte × Nat) := [(0x01, 0), (0x02, 1), (0x03, 2), (0x04, 1), (0x11, 0), (0x12, 0), (0x13, 0), (0x14, 0),
  (0x15, 0), (0x16, 0), (0x20, 21), (0x21, 13), (0x22, 4), (0x23, 3), (0x24, 3), (0x25, 2), (0x26, 1), (0x30, 1), (0x32, 5),
  (0x33, 1), (0x34, 2), (0x39, 1), (0x3A, 1), (0x40, 1), (0x41, 1), (0x42, 1)]

theorem kindOp_fixed : ∀ x ∈ fixedKinds, ∃ op, kindOp x.1 = fixedLen x.2 op := by
  simp only [fixedKinds, List.forall_mem_cons, List.not_mem_nil, false_imp_iff, implies_true, and_true]
  exact ⟨⟨_, rfl⟩, ⟨_, rfl⟩, ⟨_, rfl⟩, ⟨_, rfl⟩, ⟨_, rfl⟩, ⟨_, rfl⟩, ⟨_, rfl⟩, ⟨_, rfl⟩, ⟨_, rfl⟩, ⟨_, rfl⟩, ⟨_, rfl⟩,
    ⟨_, rfl⟩, ⟨_, rfl⟩, ⟨_, rfl⟩, ⟨_, rfl⟩, ⟨_, rfl⟩, ⟨_, rfl⟩, ⟨_, rfl⟩, ⟨_, rfl⟩, ⟨_, rfl⟩, ⟨_, rfl⟩, ⟨_, rfl⟩, ⟨_, rfl⟩,
    ⟨_, rfl⟩, ⟨_, rfl⟩, ⟨_, rfl⟩⟩

/-- The kinds whose payload begins with a socket or a zone, with the last number there is. -/
def numberedKinds : List (Byte × Nat × Nat) :=
  [(0x22, 4, 31), (0x40, 1, 31), (0x41, 1, 31), (0x42, 1, 31), (0x23, 3, 3), (0x24, 3, 3), (0x26, 1, 3)]

/-- The number is the second check, after the length. -/
theorem checks_numbered (p : List Byte) (s : State) : ∀ x ∈ numberedKinds, ∃ l, checks x.1 p s =
    (p.length ≠ x.2.1, .badLength, []) :: (x.2.2 < u8At p 0, .badValue, []) :: l := by
  simp only [numberedKinds, List.forall_mem_cons, List.not_mem_nil, false_imp_iff, implies_true, and_true]
  exact ⟨⟨_, rfl⟩, ⟨_, rfl⟩, ⟨_, rfl⟩, ⟨_, rfl⟩, ⟨_, rfl⟩, ⟨_, rfl⟩, ⟨_, rfl⟩⟩

/-- The requests of the run, with the states that take them. -/
def runKinds : List (Byte × List RunState) := [(0x11, [.ready]), (0x12, [.active, .held]), (0x13, [.held]),
  (0x14, [.ready, .active, .held]), (0x15, [.finished, .aborted])]

/-- Outside its states a request of the run is refused. -/
theorem runKinds_refuse {p : List Byte} {s : State} (hp : p = []) : ∀ x ∈ runKinds, s.run.state ∉ x.2 →
    Refuses (kindOp x.1) p s .wrongState [] := by
  subst hp
  simp only [runKinds, List.forall_mem_cons, List.not_mem_nil, false_imp_iff, implies_true, and_true]
  simp only [List.mem_cons, List.not_mem_nil, or_false, not_or]
  refine ⟨fun h => ?_, fun ⟨h1, h2⟩ => ?_, fun h => if_neg h, fun ⟨h1, h2, h3⟩ => ?_, fun ⟨h1, h2⟩ => ?_⟩
  · show opRunStart [] s = _
    unfold opRunStart
    rw [fixedLen_of_length (n := 0) (p := []) rfl]
    cases hst : s.run.state <;> simp_all
  · show opRunPause [] s = _
    unfold opRunPause
    rw [fixedLen_of_length (n := 0) (p := []) rfl]
    cases hst : s.run.state <;> simp_all
  · refine if_neg ?_
    rw [started_iff]
    tauto
  · exact if_neg (by tauto)

/-- A reply whose status is none of the three that go with a change comes with no change. -/
theorem refused_changes_nothing {c : Instr} {kind : Byte} {f : Frame} {s t : State} {r : Reply} {st : Byte}
    (hreq : requestOf c = some (kind, f)) (h : Addressed kind f s) (ht : exec c s = .next t) (hr : t.link.reply = some r)
    (hst : r.payload.head? = some st) (h1 : st ≠ Status.ok.code) (h2 : st ≠ Status.clamped.code)
    (h3 : st ≠ Status.permitAbsent.code) : t = { s with link := t.link, straps := t.straps } := by
  obtain ⟨x, hx, -⟩ := exec_of_requestOf hreq s
  have hop := kindOp_answers (c := c) (kind := kind)
    (fun hk => mayReset_of_boardReset (f := f) (by rw [hreq, ← hk])) f.payload (received { s with straps := x })
  rw [hx, execFrame, takeFrame_addressed (s := { s with straps := x }) _ h, ← received] at ht
  injection ht with ht
  have hcode : (kindOp kind f.payload (received { s with straps := x })).2.status.code = st := by
    rw [← ht] at hr
    rw [← Option.some.inj hr] at hst
    exact Option.some.inj hst
  rcases hop.kept with hsame | hok | hok | hok
  · rw [hsame] at ht
    rw [← ht]
    rfl
  · exact absurd (hcode.symm.trans (congrArg Status.code hok)) h1
  · exact absurd (hcode.symm.trans (congrArg Status.code hok)) h2
  · exact absurd (hcode.symm.trans (congrArg Status.code hok)) h3

/-- Settles O4. A refused owner changes nothing (`Answers.kept`); the other clauses are first checks of their kinds. -/
theorem refusedRequestsChangeNothing : Obligations.RefusedRequestsChangeNothing := by
  refine ⟨fun c kind f s t r st hreq h ht hr hst h1 h2 h3 => ?_, fun c kind n f s hreq h hk hn => ?_,
    fun c kind n top f s hreq h hk hn htop => ?_, fun c kind states f s hreq hk h hp hst => ?_,
    fun c kind f s hreq h => refused_first hreq h⟩
  · exact refused_changes_nothing hreq h ht hr hst h1 h2 h3
  · obtain ⟨op, hop⟩ := kindOp_fixed (kind, n) hk
    exact refused_of_refuses hreq h fun x => by
      unfold Refuses
      rw [hop]
      exact fixedLen_of_ne hn
  · obtain ⟨l, hl⟩ := checks_numbered f.payload s (kind, n, top) hk
    have hfirst := refused_first hreq h
    rw [hl] at hfirst
    exact (hfirst.2 (not_not.mpr hn)).1 htop
  · have hop : ∀ x, Refuses (kindOp kind) f.payload (received { s with straps := x }) .wrongState [] :=
      fun x => runKinds_refuse hp (kind, states) hk hst
    rcases h with h | ⟨h, ha, h1, h5⟩
    · have hne : f.addr ≠ 0 := by
        obtain ⟨-, hslot, hz⟩ := h
        rw [hslot]; exact slot_zeroExtend_ne_zero hz
      rw [afterTaken, if_neg hne]
      exact refused_of_refuses hreq h hop
    · obtain ⟨x, hx, -⟩ := exec_of_requestOf hreq s
      have hb : kind ∈ broadcastKinds := by
        rcases List.mem_cons.mp hk with hk | hk
        · exact absurd (Prod.mk.inj hk).1 h1
        · revert hk
          simp only [List.mem_cons, Prod.mk.injEq, List.not_mem_nil, or_false, broadcastKinds]
          tauto
      exact ⟨_, hx.trans (execFrame_taken_refuses (s := { s with straps := x }) (.inr ⟨h, ha⟩) hb (hop x)), rfl⟩

end Sys2Proof.Proofs.Refusals

/-! The reports, byte by byte: a report is a list of parts of known lengths, and each part stands at its place. COLLECT and
RUN-CLEAR, with the notices they take and send. -/

namespace Sys2Proof.Proofs.Reports

open Sys2Proof.Machine Sys2Proof.Safety Sys2Proof.Proofs.PatternStore Sys2Proof.Proofs.Requests Sys2Proof.Proofs.Lengths

/-! ## Notices (R181) -/

theorem sendRoutine_eq (x : Subject) (b : NoticeBody) (s : State) :
    sendRoutine x b s = { s with notices := routineAfter ⟨x, s.run.clock, b⟩ s.notices } := rfl

theorem sendUrgent_eq (x : Subject) (b : NoticeBody) (s : State) :
    sendUrgent x b s = { s with notices := urgentAfter ⟨x, s.run.clock, b⟩ s.notices } := rfl

theorem runStateNotice_routine_eq (s : State) : runStateNotice false s =
    { s with notices := routineAfter ⟨.board, s.run.clock, .runState s.run.state s.run.holds⟩ s.notices } := rfl

theorem runStateNotice_urgent_eq (s : State) : runStateNotice true s =
    { s with notices := urgentAfter ⟨.board, s.run.clock, .runState s.run.state s.run.holds⟩ s.notices } := rfl

/-! ## RUN-CLEAR (R18) -/

/-- Settles O35. -/
theorem runClearClearsTheRun : Obligations.RunClearClearsTheRun := by
  intro f s h hp hst
  have hop : opRunClear f.payload (received s) = done false (clearRun (received s)) [] := by
    rw [hp]
    exact if_pos hst
  have hz : ∀ z, (clearRun (received s)).zone z = (s.zone z).cleared := Frames.runCleared_zone (received s)
  refine ⟨_, execFrame_answers h hop rfl, rfl, fun i => Frames.runCleared_sock (received s) i, fun z => ⟨?_, ?_⟩⟩
  · show PlayFresh ((clearRun (received s)).zone z)
    rw [hz]
    exact ⟨rfl, rfl, rfl, rfl, rfl, rfl, rfl, rfl, rfl, rfl, rfl, rfl, rfl, rfl⟩
  · show (clearRun (received s)).zone z = { s.zone z with
      seq := ((clearRun (received s)).zone z).seq, chk := ((clearRun (received s)).zone z).chk }
    rw [hz]
    rfl

/-! ## Parts of a report -/

/-- A report answers OK and changes nothing but the link port. -/
theorem execFrame_reports {kind : Byte} {op : Op} {f : Frame} {s : State} {data : List Byte} (h : Addressed kind f s)
    (hop : op f.payload (received s) = (received s, ⟨.ok, data⟩)) :
    execFrame kind op f s = .next { s with link := answered kind f .ok data s.link } := execFrame_answers (t := received s) h hop rfl

section
variable {l : List (List Byte)} {lens : List Nat} {part : List Byte} {k n m : Nat} (hl : l.map List.length = lens)
include hl

theorem flatten_split (hk : l[k]? = some part) : l.flatten = (l.take k).flatten ++ (part ++ (l.drop (k + 1)).flatten) ∧
    (l.take k).flatten.length = (lens.take k).sum ∧ lens[k]? = some part.length := by
  obtain ⟨hlt, rfl⟩ := List.getElem?_eq_some_iff.mp hk
  refine ⟨?_, ?_, ?_⟩
  · rw [← List.flatten_cons, ← List.drop_eq_getElem_cons hlt, ← List.flatten_append, List.take_append_drop]
  · rw [List.length_flatten, ← hl, List.map_take]
  · rw [← hl, List.getElem?_map, hk]; rfl

/-- A part of a report stands where the parts before it end. -/
theorem flatten_slice (hk : l[k]? = some part) (hn : (lens.take k).sum = n := by rfl) (hm : lens[k]? = some m := by rfl) :
    (l.flatten.drop n).take m = part := by
  obtain ⟨h1, h2, h3⟩ := flatten_split hl hk
  have hpart : part.length = m := Option.some.inj (h3.symm.trans hm)
  rw [h1, List.drop_left' (h2.trans hn), List.take_left' hpart]

/-- The last part of a report is what is left. -/
theorem flatten_last (hk : l[k]? = some part) (hend : l.length = k + 1 := by rfl) (hn : (lens.take k).sum = n := by rfl) :
    l.flatten.drop n = part := by
  obtain ⟨h1, h2, -⟩ := flatten_split hl hk
  rw [h1, List.drop_left' (h2.trans hn), List.drop_eq_nil_of_le hend.le]
  simp

end

theorem getElem?_of_slice {data part : List Byte} {n m k : Nat} (h : (data.drop n).take m = part) (hk : k < m) :
    data[n + k]? = part[k]? := by
  rw [← h, List.getElem?_take_of_lt hk, List.getElem?_drop]

/-! ## SOCKET-REPORT (R167) -/

/-- The parts of SOCKET-REPORT. -/
def socketParts (s : State) (i : SocketId) : List (List Byte) :=
  let k := s.sock i
  let t := k.therm
  let target := s.run.record.map (·.target)
  [be1 i.val ++ [k.life.code, codeOr Bin.code k.bin] ++ be1 (socketPresence target k), accountsPart target k.acct,
    railPart k.rail, [t.state.code] ++ sbe2 (t.reading.getD 0) ++ sbe2 t.teff, targetBytes s i,
    be2 t.integral.toNat ++ [t.sat.code] ++ be2 t.duty ++ be2 t.grant ++ sbe1 t.trim ++ be2 t.rating ++ be1 t.badRun ++
      be1 t.goodRun ++ flag1 t.firstInband,
    budgetPart s (zoneOf i), passPart k.pass, livenessPart s.nowMs k.live]

theorem be4_zero : be4 0 = [0, 0, 0, 0] := by decide

theorem socketReport_eq (s : State) (i : SocketId) : socketReport s i = (socketParts s i).flatten := by
  simp only [socketReport, socketParts, thermalPart, List.flatten_cons, List.flatten_nil, List.append_nil, List.append_assoc]

theorem socketParts_length (s : State) (i : SocketId) :
    (socketParts s i).map List.length = [4, 16, 12, 5, 2, 13, 9, 19, 12] := by
  simp [socketParts]

theorem opSocketReport_eq (s : State) (i : SocketId) : opSocketReport [BitVec.ofNat 8 i.val] s =
    ({ s with freeDraws := if (s.zone (zoneOf i)).thermProf = none then s.freeDraws + 1 else s.freeDraws },
      ⟨.ok, socketReport s i⟩) := by
  rw [opSocketReport, fixedLen_singleton]
  rw [socketArg_of_eq (p := [BitVec.ofNat 8 i.val]) (k := 0) (i := i) (toNat_ofNat_socket i)]
  show done false (if (s.zone (zoneOf i)).thermProf.isNone = true then _ else _) _ = _
  cases (s.zone (zoneOf i)).thermProf <;> rfl

/-- Settles O23. -/
theorem socketReportAnswers : Obligations.SocketReportAnswers := by
  intro f s i h hp
  have hlen := socketParts_length s i
  have hop := opSocketReport_eq (received s) i
  rw [← hp] at hop
  refine ⟨socketReport s i, execFrame_answers h hop rfl, socketReport_length s i, ?_⟩
  rw [socketReport_eq]
  refine ⟨?_, ?_, ?_, ?_, fun p hprof => ?_, ?_, ?_, ?_, ?_⟩
  · refine (flatten_slice (k := 0) (n := 0) hlen rfl).trans ?_
    cases s.run.record <;> simp [socketPresence, be1]
  · refine (flatten_slice (k := 1) hlen rfl).trans ?_
    unfold accountsPart
    cases (s.sock i).acct.deciding <;> rfl
  · refine (flatten_slice (k := 2) hlen rfl).trans ?_
    simp [railPart, Rail.average]
  · exact flatten_slice (k := 3) hlen rfl
  · refine (flatten_slice (k := 4) hlen rfl).trans ?_
    unfold targetBytes
    rw [hprof]
    rfl
  · exact flatten_slice (k := 5) hlen rfl
  · exact flatten_slice (k := 6) hlen rfl
  · refine (flatten_slice (k := 7) hlen rfl).trans ?_
    unfold passPart
    cases (s.sock i).pass.first <;> rfl
  · refine (flatten_last (k := 8) hlen rfl).trans ?_
    have hedge : be4 (((s.sock i).live.lastEdge.map fun e => min top32 (s.nowMs - e)).getD 0) =
        match (s.sock i).live.lastEdge with
        | none => [0, 0, 0, 0]
        | some e => be4 (min 4294967295 (s.now / 50000 - e)) := by
      cases (s.sock i).live.lastEdge with
      | none => exact be4_zero
      | some e => rfl
    have htimer : be4 (((s.sock i).live.timer.map fun e => e - s.nowMs).getD 0) =
        match (s.sock i).live.timer with
        | none => [0, 0, 0, 0]
        | some e => be4 (e - s.now / 50000) := by
      cases (s.sock i).live.timer with
      | none => exact be4_zero
      | some e => rfl
    unfold livenessPart
    rw [hedge, htimer] <;> rfl

/-! ## RUN-REPORT (R21) -/

/-- The code of an entry of the disposition table, DEFAULT resolved (R21, R151). -/
def resolvedCode (byDefault : Byte) : Option Disp → Byte
  | some .count => 0
  | some .reset => 1
  | some .retire => 2
  | none => byDefault

theorem resolve_code (t : DispTable) (k : FailKind) : (t.resolve k).code = resolvedCode k.default.code (t.entry k) := by
  unfold DispTable.resolve
  cases t.entry k with
  | none => rfl
  | some d => cases d <;> rfl

theorem progs_codes (v : Vector ProgSel 4) : v.toList.map ProgSel.code = [v[0].code, v[1].code, v[2].code, v[3].code] := by
  obtain ⟨⟨l⟩, hl⟩ := v
  match l, hl with
  | [a, b, c, d], _ => rfl

theorem resolved_eq (t : DispTable) : t.resolved = [resolvedCode 0 t.strobe, resolvedCode 0 t.signature, resolvedCode 1 t.early,
    resolvedCode 1 t.late, resolvedCode 0 t.fast, resolvedCode 0 t.average, resolvedCode 0 t.ramp, resolvedCode 2 t.trip] := by
  simp only [DispTable.resolved, List.map_cons, List.map_nil, resolve_code]
  rfl

theorem lifeCount_eq (s : State) (l : Lifecycle) :
    s.lifeCount l = (List.finRange 32).countP fun i => (s.sock i).life == l := List.countP_eq_length_filter.symm

theorem runReport_answers {f : Frame} {s : State} (h : Addressed 0x16 f s) (hp : f.payload = []) :
    exec (.runReport f) s = .next { s with link := answered 0x16 f .ok (runReport s) s.link } :=
  execFrame_reports h (by rw [hp]; exact fixedLen_of_length rfl)

/-! ## ZONE-REPORT (R122) -/

/-- The parts of ZONE-REPORT. -/
def zoneParts (s : State) (z : ZoneId) : List (List Byte) :=
  let k := s.zone z
  let q := k.seq
  [be1 z.val ++ [q.state.code, progCode q.assigned, progCode q.staged] ++ be1 (zonePresence k) ++ be4 q.passNo ++
      [((q.void).map VoidCause.code).getD 0] ++ be4 q.voidCount,
    playPart q, bufferPart q.bufA, bufferPart q.bufB, haltPart q.halt,
    (k.railProf.map RailProfile.bytes).getD (List.replicate 20 0), be1 k.rampQueue.length, socketPlaces 8 k.rampQueue,
    socketPlaces 2 (s.slotHolders z), (k.thermProf.map ThermalProfile.bytes).getD (List.replicate 12 0), budgetPart s z]

theorem zoneReport_eq (s : State) (z : ZoneId) : zoneReport s z = (zoneParts s z).flatten := by
  simp only [zoneReport, zoneParts, List.flatten_cons, List.flatten_nil, List.append_nil, List.append_assoc]

theorem zoneParts_length (s : State) (z : ZoneId) :
    (zoneParts s z).map List.length = [14, 10, 4, 4, 3, 20, 1, 8, 2, 12, 9] := by
  have h1 : (((s.zone z).railProf.map RailProfile.bytes).getD (List.replicate 20 0)).length = 20 := by
    cases (s.zone z).railProf <;> rfl
  have h2 : (((s.zone z).thermProf.map ThermalProfile.bytes).getD (List.replicate 12 0)).length = 12 := by
    cases (s.zone z).thermProf <;> rfl
  simp only [zoneParts, List.map_cons, List.map_nil, h1, h2, playPart_length, bufferPart_length, haltPart_length,
    socketPlaces_length, budgetPart_length, List.length_append, List.length_cons, List.length_nil, be1_length, be4_length]

theorem socketPlaces_get {n k : Nat} (hk : k < n) (l : List SocketId) :
    (socketPlaces n l)[k]? = some (match l[k]? with
      | some i => BitVec.ofNat 8 i.val
      | none => 0xFF) := by
  unfold socketPlaces
  by_cases h : k < l.length
  · rw [List.getElem?_append_left (by simp; omega), List.getElem?_take_of_lt hk, List.getElem?_map]
    rw [List.getElem?_eq_getElem h]
    rfl
  · rw [List.getElem?_append_right (by simp; omega), List.getElem?_replicate, if_pos (by simp; omega),
      List.getElem?_eq_none (by omega)]

theorem opZoneReport_eq (s : State) (z : ZoneId) : opZoneReport [BitVec.ofNat 8 z.val] s = (s, ⟨.ok, zoneReport s z⟩) := by
  rw [opZoneReport, fixedLen_singleton]
  rw [zoneArg_of_eq (p := [BitVec.ofNat 8 z.val]) (k := 0) (z := z) (toNat_ofNat_zone z)]
  rfl

/-! ## FAIL-LOG (R168) -/

/-- Records of one length: each stands at its multiple. -/
theorem flatten_uniform {l : List (List Byte)} {n : Nat} (h : ∀ x ∈ l, x.length = n) :
    l.flatten.length = n * l.length ∧ ∀ k part, l[k]? = some part → (l.flatten.drop (n * k)).take n = part := by
  have hmap : l.map List.length = List.replicate l.length n := List.eq_replicate_iff.mpr
    ⟨by simp, fun m hm => by obtain ⟨x, hx, rfl⟩ := List.mem_map.mp hm; exact h x hx⟩
  refine ⟨by rw [List.length_flatten, hmap, List.sum_replicate, smul_eq_mul, Nat.mul_comm], fun k part hk => ?_⟩
  obtain ⟨hlt, -⟩ := List.getElem?_eq_some_iff.mp hk
  refine flatten_slice hmap hk ?_ ?_
  · rw [List.take_replicate, List.sum_replicate, smul_eq_mul, Nat.min_eq_left hlt.le, Nat.mul_comm]
  · rw [List.getElem?_replicate, if_pos hlt]

theorem opFailLog_eq (s : State) (i : SocketId) : opFailLog [BitVec.ofNat 8 i.val] s =
    (s, ⟨.ok, be2 (s.sock i).acct.total ++ be1 (s.sock i).acct.log.length ++ logBytes (s.sock i).acct.log⟩) := by
  rw [opFailLog, fixedLen_singleton]
  rw [socketArg_of_eq (p := [BitVec.ofNat 8 i.val]) (k := 0) (i := i) (toNat_ofNat_socket i)]
  rfl

theorem logBytes_slices (log : List FailRec) : (logBytes log).length = 23 * log.length ∧
    ∀ k r, log[k]? = some r → ((logBytes log).drop (23 * k)).take 23 = r.bytes (k + 1) := by
  have h := flatten_uniform (l := log.mapIdx fun k r => r.bytes (k + 1)) (n := 23) fun x hx => by
    obtain ⟨k, hk, rfl⟩ := List.mem_mapIdx.mp hx
    exact failRec_length _ _
  refine ⟨by rw [logBytes, h.1, List.length_mapIdx], fun k r hr => h.2 k _ ?_⟩
  rw [List.getElem?_mapIdx, hr]
  rfl

/-! ## PAGE-LIST and PROGRAM-LIST (R89, R94) -/

theorem opPageList_eq (s : State) (pg : PageId) {n : Nat} (h1 : 1 ≤ n) (hn : n ≤ 24) :
    opPageList [BitVec.ofNat 8 pg.val, BitVec.ofNat 8 n] s =
      (s, ⟨.ok, be1 (pageRange pg n).length ++ ((pageRange pg n).map (pageEntry s)).flatten⟩) := by
  have hu : u8At [BitVec.ofNat 8 pg.val, BitVec.ofNat 8 n] 1 = n := by
    show (BitVec.ofNat 8 n : Byte).toNat = n
    simp only [BitVec.toNat_ofNat]; omega
  have hpg : pageArg [BitVec.ofNat 8 pg.val, BitVec.ofNat 8 n] 0 = pg := Fin.ext (by
    show (BitVec.ofNat 8 pg.val : Byte).toNat = pg.val
    have := pg.isLt
    simp only [BitVec.toNat_ofNat]; omega)
  rw [opPageList, fixedLen_of_length (n := 2) (p := [BitVec.ofNat 8 pg.val, BitVec.ofNat 8 n]) rfl]
  simp only [hu, hpg]
  exact if_neg (by omega)

theorem pageRange_length (pg : PageId) (n : Nat) : (pageRange pg n).length = min n (256 - pg.val) := by
  simp [pageRange]

theorem pageRange_get {pg q : PageId} {n k : Nat} (hk : k < n) (hq : q.val = pg.val + k) : (pageRange pg n)[k]? = some q := by
  have hlt := q.isLt
  rw [pageRange, List.getElem?_take_of_lt hk, List.getElem?_drop, ← hq, List.getElem?_eq_getElem (by simp)]
  simp

theorem opProgramList_one (s : State) (k : ProgId) : opProgramList [BitVec.ofNat 8 k.val] s = (s, ⟨.ok, programEntry s k⟩) := by
  have hu : u8At [BitVec.ofNat 8 k.val] 0 = k.val := by
    show (BitVec.ofNat 8 k.val : Byte).toNat = k.val
    have := k.isLt
    simp only [BitVec.toNat_ofNat]; omega
  rw [opProgramList, fixedLen_singleton]
  simp only [Programs.progArg_some hu]
  exact if_neg (by have := k.isLt; omega)

theorem opProgramList_all (s : State) : opProgramList [0xFF] s =
    (s, ⟨.ok, ((List.finRange 16).map (programSummary s)).flatten⟩) := by
  rw [opProgramList, fixedLen_singleton]
  exact if_pos (by decide)

/-! ## The codes (11 §11.2) -/

theorem codesAreThoseOfTheTable : CodesAreThoseOfTheTable := by
  refine ⟨rfl, fun h => ?_, rfl, rfl, rfl, fun h => ?_, rfl, rfl, rfl, rfl, rfl, rfl, rfl, fun _ => rfl, rfl, fun _ => rfl,
    rfl, rfl, rfl, rfl, rfl⟩
  · obtain ⟨a, b⟩ := h
    revert a b; decide
  · obtain ⟨a, b, c, d, e, f⟩ := h
    revert a b c d e f; decide

/-- Settles O22. -/
theorem reportsChangeNothing : Obligations.ReportsChangeNothing := by
  refine ⟨fun f s h hp => ?_, fun f s z h hp => ?_, fun f s i h hp => ?_, fun f s pg n h hp h1 hn => ?_, fun f s k h hp => ?_,
    fun f s h hp => ?_, codesAreThoseOfTheTable⟩
  · rw [runReport_answers h hp]
    refine congrArg (fun d => Host.Outcome.next { s with link := answered 0x16 f .ok d s.link }) ?_
    have hlives : (([.empty, .waiting, .stressing, .complete, .retired] : List Lifecycle).map
        fun l => be1 (s.lifeCount l)).flatten = [Lifecycle.empty, .waiting, .stressing, .complete, .retired].map fun l =>
          BitVec.ofNat 8 ((List.finRange 32).countP fun i => (s.sock i).life == l) := by
      simp only [lifeCount_eq]
      rfl
    unfold runReport
    rw [hlives, List.append_assoc]
    cases s.run.record with
    | none => rfl
    | some r =>
      simp only [RunRecord.bytes, progs_codes, resolved_eq, List.append_assoc]
      rfl
  · have hop : opZoneReport f.payload (received s) = (received s, ⟨.ok, zoneReport s z⟩) := by
      rw [hp]; exact opZoneReport_eq (received s) z
    have hlen := zoneParts_length s z
    refine ⟨zoneReport s z, execFrame_reports h hop, zoneReport_length s z, ?_⟩
    rw [zoneReport_eq]
    refine ⟨flatten_slice (k := 0) (n := 0) hlen rfl, fun hst => ?_, fun g vs hst hbuf => ?_, ?_, ?_, ?_, ?_, ?_, fun k hk => ?_,
      fun k hk => ?_, ?_, flatten_last (k := 10) hlen rfl⟩
    · refine (flatten_slice (k := 1) hlen rfl).trans ?_
      exact if_neg (by rw [Seq.playShown, hst]; decide)
    · refine (flatten_slice (k := 1) hlen rfl).trans ?_
      rw [playPart, if_pos (show (s.zone z).seq.playShown = true from hst), hbuf]
      rfl
    · refine (flatten_slice (k := 2) hlen rfl).trans ?_
      cases (s.zone z).seq.bufA <;> rfl
    · refine (flatten_slice (k := 3) hlen rfl).trans ?_
      cases (s.zone z).seq.bufB <;> rfl
    · refine (flatten_slice (k := 4) hlen rfl).trans ?_
      cases (s.zone z).seq.halt <;> rfl
    · refine (flatten_slice (k := 5) hlen rfl).trans ?_
      cases (s.zone z).railProf <;> rfl
    · exact getElem?_of_slice (flatten_slice (k := 6) (n := 55) (m := 1) hlen rfl) (k := 0) (by decide)
    · exact (getElem?_of_slice (flatten_slice (k := 7) (n := 56) (m := 8) hlen rfl) hk).trans (socketPlaces_get hk _)
    · exact (getElem?_of_slice (flatten_slice (k := 8) (n := 64) (m := 2) hlen rfl) hk).trans (socketPlaces_get hk _)
    · refine (flatten_slice (k := 9) hlen rfl).trans ?_
      cases (s.zone z).thermProf <;> rfl
  · have hop : opFailLog f.payload (received s) = (received s, ⟨.ok, be2 (s.sock i).acct.total ++ be1 (s.sock i).acct.log.length ++ logBytes (s.sock i).acct.log⟩) := by
      rw [hp]; exact opFailLog_eq (received s) i
    obtain ⟨hl, hslice⟩ := logBytes_slices (s.sock i).acct.log
    refine ⟨logBytes (s.sock i).acct.log, execFrame_reports h hop, hl, fun k r hr => ?_⟩
    rw [hslice k r hr]
    cases hd : r.detail <;> simp only [FailRec.bytes, hd] <;> rfl
  · have hop : opPageList f.payload (received s) = (received s, ⟨.ok, be1 (pageRange pg n).length ++ ((pageRange pg n).map (pageEntry s)).flatten⟩) := by
      rw [hp]; exact opPageList_eq (received s) pg h1 hn
    have hu := flatten_uniform (l := (pageRange pg n).map (pageEntry s)) (n := 10) fun x hx => by
      obtain ⟨q, -, rfl⟩ := List.mem_map.mp hx
      rfl
    refine ⟨_, execFrame_reports h hop, ?_, ?_, fun k q hk hq => ?_⟩
    · rw [List.length_append, be1_length, hu.1, List.length_map, pageRange_length]
    · rw [pageRange_length]; rfl
    · rw [← List.drop_drop, List.drop_left' (be1_length _)]
      exact hu.2 k (pageEntry s q) (by rw [List.getElem?_map, pageRange_get hk hq]; rfl)
  · have hop : opProgramList f.payload (received s) = (received s, ⟨.ok, programEntry s k⟩) := by
      rw [hp]; exact opProgramList_one (received s) k
    refine (execFrame_reports h hop).trans ?_
    refine congrArg (fun d => Host.Outcome.next { s with link := answered 0x3A f .ok d s.link }) ?_
    unfold programEntry
    cases s.program k with
    | none => rfl
    | some d =>
      simp only [Program.bytes, List.append_assoc]
      rfl
  · have hop : opProgramList f.payload (received s) = (received s, ⟨.ok, ((List.finRange 16).map (programSummary s)).flatten⟩) := by
      rw [hp]; exact opProgramList_all (received s)
    have hu := flatten_uniform (l := (List.finRange 16).map (programSummary s)) (n := 5) fun x hx => by
      obtain ⟨q, -, rfl⟩ := List.mem_map.mp hx
      exact programSummary_length s q
    refine ⟨_, execFrame_reports h hop, hu.1.trans (by simp), fun k => ?_⟩
    refine (hu.2 k.val (programSummary s k) (by rw [List.getElem?_map]; simp)).trans ?_
    unfold programSummary
    cases s.program k <;> rfl

/-! ## COLLECT (R182) -/

/-- The notices chosen are a head of the lane; only `max` or the room ends them. -/
theorem chooseFrom_head : ∀ (max room : Nat) (l : List Notice), ∃ n, n ≤ l.length ∧ n ≤ max ∧ chooseFrom max room l = l.take n ∧
    (n < l.length → n = max ∨ room < ((l.take (n + 1)).map Notice.size).sum)
  | 0, _, [] | _ + 1, _, [] => ⟨0, Nat.le_refl _, Nat.zero_le _, by simp [chooseFrom], fun h => absurd h (by simp)⟩
  | 0, _, _ :: _ => ⟨0, Nat.zero_le _, Nat.le_refl _, by simp [chooseFrom], fun _ => .inl rfl⟩
  | max + 1, room, n :: l => by
    by_cases h : n.size ≤ room
    · obtain ⟨k, h1, h2, h3, h4⟩ := chooseFrom_head max (room - n.size) l
      refine ⟨k + 1, by simp [h1], by omega, by simp [chooseFrom, h, h3], fun hk => ?_⟩
      rcases h4 (by simpa using hk) with h4 | h4
      · exact .inl (by omega)
      · right
        simp only [List.take_succ_cons, List.map_cons, List.sum_cons]
        omega
    · exact ⟨0, Nat.zero_le _, Nat.zero_le _, by simp [chooseFrom, h], fun _ => .inr (by simpa using h)⟩

/-- What COLLECT chooses: heads of the two lanes, the routine lane's only after the whole urgent lane. -/
theorem chosen_heads (max : Nat) (q : NoticeQueue) : ∃ u r, u ≤ q.urgent.length ∧ r ≤ q.routine.length ∧ u + r ≤ max ∧
    chosen max q = (q.urgent.take u, q.routine.take r) ∧
    ((q.urgent.take u ++ q.routine.take r).map Notice.size).sum ≤ 246 ∧
    (u < q.urgent.length → r = 0 ∧ (u = max ∨ 246 < ((q.urgent.take (u + 1)).map Notice.size).sum)) ∧
    (u = q.urgent.length → r < q.routine.length →
      u + r = max ∨ 246 < ((q.urgent ++ q.routine.take (r + 1)).map Notice.size).sum) := by
  obtain ⟨u, hu1, hu2, hu3, hu4⟩ := chooseFrom_head max 246 q.urgent
  have hfit := chooseFrom_fits max 246 q.urgent
  rw [hu3] at hfit
  have hlen : (q.urgent.take u).length = u := by rw [List.length_take]; omega
  by_cases hu : u = q.urgent.length
  · have hall : q.urgent.take u = q.urgent := by rw [hu, List.take_length]
    obtain ⟨r, hr1, hr2, hr3, hr4⟩ := chooseFrom_head (max - u) (246 - (q.urgent.map Notice.size).sum) q.routine
    have hroom := chooseFrom_fits (max - u) (246 - (q.urgent.map Notice.size).sum) q.routine
    rw [hr3] at hroom
    rw [hall] at hfit
    refine ⟨u, r, hu1, hr1, by omega, ?_, ?_, fun h => absurd hu (by omega), fun _ h => ?_⟩
    · simp only [chosen, hu3]
      rw [if_pos (hlen.trans hu), hlen, hall, hr3]
    · rw [hall, List.map_append, List.sum_append]
      omega
    · rw [List.map_append, List.sum_append]
      rcases hr4 h with h | h
      · exact .inl (by omega)
      · exact .inr (by omega)
  · refine ⟨u, 0, hu1, Nat.zero_le _, hu2, ?_, by simpa using hfit, fun h => ⟨rfl, hu4 h⟩, fun h => absurd h hu⟩
    simp only [chosen, hu3]
    rw [if_neg (by rw [hlen]; exact hu), List.take_zero]

/-- Settles O24. -/
theorem collectTakesTheHeads : Obligations.CollectTakesTheHeads := by
  intro f s max h hp h1 h20
  obtain ⟨u, r, hu, hr, hmax, hchosen, hfit, hcut, hrest⟩ := chosen_heads max s.notices
  refine ⟨u, r, ?_⟩
  intro q taken detail kind subject record size
  have hdetail : ∀ b, detail b = b.detail := fun b => by
    cases b with
    | retired k => cases k <;> rfl
    | passVoid n c => cases c <;> rfl
    | _ => rfl
  have hrecord : ∀ n, record n = n.bytes := fun n => by
    have hkind : kind n.body = n.body.code := by cases n.body <;> rfl
    have hsubject : subject n.subject = n.subject.code := by cases n.subject <;> rfl
    show [kind n.body, subject n.subject] ++ be4 n.clock ++ be1 (detail n.body).length ++ detail n.body = n.bytes
    rw [hkind, hsubject, hdetail]
    rfl
  have hrecs : ∀ l : List Notice, l.map record = l.map Notice.bytes := fun l => List.map_congr_left fun n _ => hrecord n
  have hsize : ∀ l : List Notice, size l = 4 + (l.map Notice.size).sum := fun l => by
    refine congrArg (4 + ·) (congrArg List.sum (List.map_congr_left fun n _ => ?_))
    show (record n).length = n.size
    rw [hrecord, notice_length]
  have hnum : u8At f.payload 0 = max := by
    rw [hp]
    show (BitVec.ofNat 8 max : Byte).toNat = max
    simp only [BitVec.toNat_ofNat]; omega
  have hop : opCollect f.payload (received s) =
      (modNotices (collected max) (received s), ⟨.ok, collectData max s.notices⟩) := by
    rw [opCollect, fixedLen_of_length (by rw [hp]; rfl)]
    simp only [hnum]
    exact if_neg (by omega)
  refine ⟨hu, hr, hmax, ?_, fun hlt => ?_, fun heq hlt => ?_, ?_⟩
  · rw [hsize]; exact Nat.add_le_of_le_sub' (by decide) hfit
  · rw [hsize]
    obtain ⟨h0, hor⟩ := hcut hlt
    exact ⟨h0, hor.imp id fun h => Nat.add_lt_add_left h 4⟩
  · rw [hsize]
    exact (hrest heq hlt).imp id fun h => Nat.add_lt_add_left h 4
  · have hlu : (s.notices.urgent.take u).length = u := by rw [List.length_take]; exact Nat.min_eq_left hu
    have hlr : (s.notices.routine.take r).length = r := by rw [List.length_take]; exact Nat.min_eq_left hr
    refine (execFrame_answers h hop rfl).trans ?_
    rw [hrecs]
    simp only [collectData, modNotices, collected, received_notices, hchosen, hlu, hlr]
    rfl

end Sys2Proof.Proofs.Reports

/-! The heartbeat monitor's own events (08): valid edges and the phases of a reset cycle. -/

namespace Sys2Proof.Proofs.Frames

open Sys2Proof.Machine Sys2Proof.Safety

/-! ## Updates of one socket in a row -/

/-- Two changes of one socket record are one. -/
theorem modSock_modSock (i : SocketId) (f g : Socket → Socket) (s : State) :
    modSock i f (modSock i g s) = modSock i (fun k => f (g k)) s := by
  unfold modSock State.sock
  simp

theorem modLive_modLive (i : SocketId) (f g : Liveness → Liveness) (s : State) :
    modLive i f (modLive i g s) = modLive i (fun l => f (g l)) s := modSock_modSock i _ _ s

/-- A change of the liveness part, written out. -/
theorem modLive_eq (i : SocketId) (f : Liveness → Liveness) (s : State) : modLive i f s =
    { s with sockets := s.sockets.set i { s.sock i with live := f (s.sock i).live } } := rfl

end Sys2Proof.Proofs.Frames

namespace Sys2Proof.Proofs.Heartbeats

open Sys2Proof.Machine Sys2Proof.Safety Sys2Proof.Proofs.Frames

section
variable (s : State) (i : SocketId)

/-- The state with the liveness part of a socket replaced at a time. -/
def monitored (l : Liveness) (now : Nat) : State :=
  { s with sockets := s.sockets.set i { s.sock i with live := l }, now := now }

/-- The liveness part of a socket that waits for a first heartbeat from `now` on, or is IDLE without a heartbeat part. -/
def waiting (now : Nat) : Liveness :=
  match s.hbPart (zoneOf i) with
  | some h => { (s.sock i).live with state := .waitFirst, timer := some (now / 50000 + (h.tMin + h.tWin)) }
  | none => { (s.sock i).live with state := .idle, timer := none }

theorem waitOrIdle_advanceTo (t : Nat) :
    waitOrIdle i (advanceTo t s) = monitored s i (waiting s i (max s.now t)) (max s.now t) := by
  unfold waitOrIdle waiting
  rw [show (advanceTo t s).hbPart (zoneOf i) = s.hbPart (zoneOf i) from rfl]
  cases s.hbPart (zoneOf i) <;> rfl

theorem validEdge_advanceTo (h : HbPart) (t : Nat) : validEdge i h (advanceTo t s) =
    monitored s i { (s.sock i).live with
      state := .watch, timer := some (max s.now t / 50000 + (h.tMin + h.tWin)),
      lastEdge := some (max s.now t / 50000), cycles := 0 } (max s.now t) := by
  unfold validEdge startHb
  rw [modLive_modLive]
  rfl

theorem hbReleaseReset_advanceTo (t : Nat) : hbReleaseReset i (advanceTo t s) =
    monitored s i (if s.tIgnore (zoneOf i) = 0 then waiting s i (max s.now t)
      else { (s.sock i).live with
        state := .ignore, timer := some (max s.now t / 50000 + s.tIgnore (zoneOf i)) }) (max s.now t) := by
  unfold hbReleaseReset
  rw [show (advanceTo t s).tIgnore (zoneOf i) = s.tIgnore (zoneOf i) from rfl]
  split
  · exact waitOrIdle_advanceTo s i t
  · rfl

/-- The time base of the monitor counts milliseconds of 50000 cycles (R137). -/
theorem nowMs_advanceTo (t : Nat) : (advanceTo t s).nowMs = max s.now t / 50000 := rfl

end

section
variable {s : State} {i : SocketId} {h : HbPart} {at_ : Nat}

theorem heartbeatEdge_idle (h1 : (s.sock i).live.state ≠ .waitFirst) (h2 : (s.sock i).live.state ≠ .watch) :
    exec (.heartbeatEdge i at_) s = .next { s with now := max s.now (at_ * 50000) } := by
  show execHeartbeatEdge i at_ s = _
  simp only [execHeartbeatEdge]
  split
  · exact absurd ‹_› h1
  · exact absurd ‹_› h2
  · rfl

theorem heartbeatEdge_first (hp : s.hbPart (zoneOf i) = some h) (h1 : (s.sock i).live.state = .waitFirst) :
    exec (.heartbeatEdge i at_) s = .next (validEdge i h (advanceTo (at_ * 50000) s)) := by
  show execHeartbeatEdge i at_ s = _
  simp only [execHeartbeatEdge, advanceTo_sock, h1,
    show ∀ t, (advanceTo t s).hbPart (zoneOf i) = some h from fun _ => hp]

theorem heartbeatEdge_watch (hp : s.hbPart (zoneOf i) = some h) (h1 : (s.sock i).live.state = .watch) {last : Nat}
    (hl : (s.sock i).live.lastEdge = some last) :
    exec (.heartbeatEdge i at_) s = .next (
      if h.tMin ≤ max s.now (at_ * 50000) / 50000 - last then validEdge i h (advanceTo (at_ * 50000) s)
      else hbFailure i .heartbeatEarly (.interval (max s.now (at_ * 50000) / 50000 - last))
        (advanceTo (at_ * 50000) s)) := by
  show execHeartbeatEdge i at_ s = _
  simp only [execHeartbeatEdge, advanceTo_sock, h1, hl, Option.getD_some, nowMs_advanceTo,
    show ∀ t, (advanceTo t s).hbPart (zoneOf i) = some h from fun _ => hp]

theorem heartbeatLate_eq (hp : s.hbPart (zoneOf i) = some h)
    (h1 : (s.sock i).live.state = .waitFirst ∨ (s.sock i).live.state = .watch) {e : Nat}
    (he : (s.sock i).live.timer = some e) :
    exec (.heartbeatLate i) s =
      .next (hbFailure i .heartbeatLate (.elapsed (h.tMin + h.tWin)) (advanceTo (e * 50000) s)) := by
  show execHeartbeatLate i s = _
  rcases h1 with h1 | h1 <;> simp only [execHeartbeatLate, h1, he, hp]

theorem resetHeldExpiry_else (h1 : (s.sock i).live.state ≠ .resetHeld) : exec (.resetHeldExpiry i) s = .next s := by
  show execResetHeldExpiry i s = _
  unfold execResetHeldExpiry
  split
  · exact absurd ‹_› h1
  · rfl

theorem resetHeldExpiry_held (h1 : (s.sock i).live.state = .resetHeld) {e : Nat} (he : (s.sock i).live.timer = some e) :
    exec (.resetHeldExpiry i) s = .next (hbReleaseReset i (advanceTo (e * 50000) s)) := by
  show execResetHeldExpiry i s = _
  simp only [execResetHeldExpiry, h1, he]

theorem ignoreExpiry_else (h1 : (s.sock i).live.state ≠ .ignore) : exec (.ignoreExpiry i) s = .next s := by
  show execIgnoreExpiry i s = _
  unfold execIgnoreExpiry
  split
  · exact absurd ‹_› h1
  · rfl

theorem ignoreExpiry_ignore (h1 : (s.sock i).live.state = .ignore) {e : Nat} (he : (s.sock i).live.timer = some e) :
    exec (.ignoreExpiry i) s = .next (waitOrIdle i (advanceTo (e * 50000) s)) := by
  show execIgnoreExpiry i s = _
  simp only [execIgnoreExpiry, h1, he]

end

/-- Settles O57, by cases of the monitor's state. -/
theorem heartbeatsAreJudged : Obligations.HeartbeatsAreJudged := by
  unfold Obligations.HeartbeatsAreJudged
  intro s i k part goto waits
  have hwaits : ∀ now, waits now = waiting s i now := fun now => by
    show (match s.hbPart (zoneOf i) with | some h => _ | none => _) = _
    unfold waiting
    cases s.hbPart (zoneOf i) <;> rfl
  refine ⟨fun atMs h1 h2 => heartbeatEdge_idle h1 h2, ?_, resetHeldExpiry_else, ?_, ignoreExpiry_else, ?_⟩
  · intro atMs h hp now hst
    have hgoal : exec (.heartbeatEdge i atMs) s = .next (validEdge i h (advanceTo (atMs * 50000) s)) := by
      obtain h1 | ⟨h1, last, hl, hmin⟩ := hst
      · exact heartbeatEdge_first hp h1
      · rw [heartbeatEdge_watch hp h1 hl, if_pos hmin]
    rw [hgoal, validEdge_advanceTo]
    rfl
  · intro e h1 he now ignore
    rw [resetHeldExpiry_held h1 he, hbReleaseReset_advanceTo, hwaits]
    rfl
  · intro e h1 he
    rw [ignoreExpiry_ignore h1 he, waitOrIdle_advanceTo, hwaits]
    rfl

end Sys2Proof.Proofs.Heartbeats

/-! What an operation on one socket leaves of the others, and what becomes of its own heartbeat monitor and pass: they go
quiet, or stand. -/

namespace Sys2Proof.Proofs.Frames

open Sys2Proof.Machine Sys2Proof.Safety

/-! ## Heartbeat and pass gone quiet -/

/-- A heartbeat monitor in IDLE with no reset owed (R146). -/
def quietLive (l : Liveness) : Liveness := { l with state := .idle, timer := none, owed := false }

/-- A pass context out of its pass (R127). -/
def quietPass (p : Pass) : Pass := { p with checked := false }

/-- The heartbeat monitor and the pass of a socket stand or have gone quiet. -/
def Quiet (k k' : Socket) : Prop :=
  (k'.live = k.live ∨ k'.live = quietLive k.live) ∧ (k'.pass = k.pass ∨ k'.pass = quietPass k.pass)

theorem Quiet.refl (k : Socket) : Quiet k k := ⟨.inl rfl, .inl rfl⟩

theorem Quiet.trans {k l m : Socket} (h : Quiet k l) (g : Quiet l m) : Quiet k m := by
  obtain ⟨h1, h2⟩ := h
  obtain ⟨g1, g2⟩ := g
  refine ⟨?_, ?_⟩
  · rcases h1 with h | h <;> rcases g1 with g | g <;> rw [g, h]
    · exact .inl rfl
    · exact .inr rfl
    · exact .inr rfl
    · exact .inr rfl
  · rcases h2 with h | h <;> rcases g2 with g | g <;> rw [g, h]
    · exact .inl rfl
    · exact .inr rfl
    · exact .inr rfl
    · exact .inr rfl

/-- What has gone quiet stays so. -/
theorem Quiet.live_quiet {k k' : Socket} {l : Liveness} (h : Quiet k k') (hk : k.live = quietLive l) : k'.live = quietLive l := by
  rcases h.1 with h | h <;> simp only [h, hk, quietLive]

theorem Quiet.pass_quiet {k k' : Socket} {p : Pass} (h : Quiet k k') (hk : k.pass = quietPass p) : k'.pass = quietPass p := by
  rcases h.2 with h | h <;> simp only [h, hk, quietPass]

/-- So it is with every socket. -/
def Quiets (s t : State) : Prop := ∀ i, Quiet (s.sock i) (t.sock i)

theorem Quiets.refl (s : State) : Quiets s s := fun i => Quiet.refl _

theorem Quiets.trans {s t u : State} (h : Quiets s t) (g : Quiets t u) : Quiets s u := fun i => (h i).trans (g i)

theorem forEach_quiets {α : Type} {as : List α} {f : α → State → State} (h : ∀ a ∈ as, ∀ s, Quiets s (f a s))
    (s : State) : Quiets s (forEach as f s) :=
  forEach_keeps (P := Quiets s) (fun a ha t ht => ht.trans (h a ha t)) s (Quiets.refl s)

section
variable {l : List Piece} {s t : State}

theorem Touches.pass (h : Touches l s t) (i : SocketId) (hc : Piece.checked.isIn l = false := by rfl)
    (hx : Piece.context.isIn l = false := by rfl) : (t.sock i).pass = (s.sock i).pass := by
  rw [h.context i hx, h.checked i hc]

theorem Touches.quiets (h : Touches l s t) (hl : Piece.live.isIn l = false := by rfl)
    (hc : Piece.checked.isIn l = false := by rfl) (hx : Piece.context.isIn l = false := by rfl) : Quiets s t :=
  fun i => ⟨.inl (h.live i hl), .inl (h.pass i hc hx)⟩

end

section
variable (i : SocketId) (s : State)

theorem hbToIdle_live (j : SocketId) : ((hbToIdle i s).sock j).live =
    if j = i then quietLive (s.sock i).live else (s.sock j).live := by
  unfold hbToIdle setOwed stopHb
  rw [modLive_modLive, modLive_sock]
  split <;> rfl

theorem hbToIdle_quiets : Quiets s (hbToIdle i s) := by
  refine fun j => ⟨?_, .inl ((hbToIdle_touches i s).pass j)⟩
  rw [hbToIdle_live]
  split
  · rename_i hj; subst hj; exact .inr rfl
  · exact .inl rfl

theorem dropPass_pass (j : SocketId) : ((dropPass i s).sock j).pass =
    if j = i then quietPass (s.sock i).pass else (s.sock j).pass := by
  unfold dropPass
  rw [modPass_sock]
  split <;> rfl

theorem dropPass_quiets : Quiets s (dropPass i s) := by
  refine fun j => ⟨.inl ((dropPass_touches i s).live j), ?_⟩
  rw [dropPass_pass]
  split
  · rename_i hj; subst hj; exact .inr rfl
  · exact .inl rfl

theorem closePass_quiets (z : ZoneId) : Quiets s (closePass z s) :=
  ((modChk_touches z _ s).quiets).trans (forEach_quiets (fun i _ t => dropPass_quiets i t) _)

theorem openRail_quiets (d : RailState) : Quiets s (openRail d i s) := by
  refine ((railOpened_base_touches d i s).quiets).trans ?_
  unfold openRail
  split
  · exact ((setPower_touches i 0 (railOpened d i s)).quiets).trans ((hbToIdle_quiets i _).trans (dropPass_quiets i _))
  · exact Quiets.refl _

theorem changeInhibitNoGrant_quiets (f : Inhibit → Inhibit) : Quiets s (changeInhibitNoGrant f i s) := by
  have h1 : Quiets s (withInhibit (f (s.sock i).rail.inhibit) i s) :=
    (setInhibit_touches i (fun _ => f (s.sock i).rail.inhibit) s).quiets
  obtain ⟨-, -, h⟩ | ⟨-, -, -, h⟩ | ⟨-, -, -, h⟩ | ⟨-, -, h⟩ := changeInhibitNoGrant_cases f i s
  · rw [h]; exact h1.trans (openRail_quiets i _ .off)
  · rw [h]; exact h1.trans (joinQueue_touches i _).quiets
  · rw [h]; exact h1.trans (setRailState_touches i _ _).quiets
  · rw [h]; exact h1

theorem changeInhibit_quiets (f : Inhibit → Inhibit) : Quiets s (changeInhibit f i s) :=
  (changeInhibitNoGrant_quiets i s f).trans (grantSlots_touches _ _).quiets

theorem changeInhibits_quiets (l : List SocketId) (f : SocketId → Inhibit → Inhibit) : Quiets s (changeInhibits l f s) :=
  (forEach_quiets (fun i _ t => changeInhibitNoGrant_quiets i t (f i)) s).trans (grantAll_touches _).quiets

theorem thermOff_quiets : Quiets s (thermOff i s) :=
  ((modTherm_touches i heaterOff s).quiets).trans (changeInhibit_quiets i _ warm)

theorem zoneDone_quiets (z : ZoneId) : Quiets s (zoneDone z s) := by
  unfold zoneDone
  exact ((modSeq_touches z _ s).quiets).trans ((closePass_quiets _ z).trans
    ((withdrawFetch_plain z _).quiets.trans (arbitrate_touches _).quiets))

theorem zoneTold_quiets (z : ZoneId) : Quiets s (zoneTold z s) := by
  unfold zoneTold
  split
  · exact zoneDone_quiets s z
  · exact Quiets.refl s

theorem zoneToIdle_quiets (z : ZoneId) : Quiets s (zoneToIdle z s) := by
  unfold zoneToIdle
  exact ((modSeq_touches z _ s).quiets).trans ((closePass_quiets _ z).trans (withdrawFetch_plain z _).quiets)

/-- What a socket's becoming final leaves of the heartbeat monitors and passes: its own are quiet. -/
theorem finalEffects_self : ((finalEffects i s).sock i).live = quietLive (s.sock i).live ∧
    ((finalEffects i s).sock i).pass = quietPass (s.sock i).pass := by
  have h1 : Quiet (s.sock i) ((finalCut i s).sock i) :=
    ((changeInhibit_quiets i s (Inhibit.put .final true)).trans (thermOff_quiets i _)) i
  have h2 := (dropPass_quiets i (hbToIdle i (finalCut i s))).trans (zoneTold_quiets _ (zoneOf i)) i
  have h3 := zoneTold_quiets (dropPass i (hbToIdle i (finalCut i s))) (zoneOf i) i
  refine ⟨h2.live_quiet ?_, h3.pass_quiet ?_⟩
  · rw [hbToIdle_live, if_pos rfl]
    rcases h1.1 with h | h <;> simp only [h, quietLive]
  · rw [dropPass_pass, if_pos rfl, (hbToIdle_touches i _).pass i]
    rcases h1.2 with h | h <;> simp only [h, quietPass]

theorem finalEffects_quiets : Quiets s (finalEffects i s) :=
  ((changeInhibit_quiets i s (Inhibit.put .final true)).trans (thermOff_quiets i _)).trans
    ((hbToIdle_quiets i _).trans ((dropPass_quiets i _).trans (zoneTold_quiets _ _)))

theorem assignBins_quiets : Quiets s (assignBins s) := (assignBins_touches s).quiets

theorem endRun_quiets (st : RunState) : Quiets s (endRun st s) := by
  rw [endRun_eq]
  have h1 : Quiets s (railsEnded st s) :=
    ((runEnded_plain st s).quiets).trans (changeInhibits_quiets _ _ _)
  have h2 : Quiets (railsEnded st s) (heatersEnded st s) := forEach_quiets (fun i _ t => thermOff_quiets i t) _
  have h3 : Quiets (heatersEnded st s) (zonesEnded st s) :=
    (forEach_quiets (fun z _ t => zoneToIdle_quiets t z) _).trans (arbitrate_touches _).quiets
  have h4 : Quiets (zonesEnded st s) (forEach allSockets hbToIdle (zonesEnded st s)) :=
    forEach_quiets (fun i _ t => hbToIdle_quiets i t) _
  exact h1.trans (h2.trans (h3.trans (h4.trans ((assignBins_touches _).quiets.trans (runStateNotice_touches _ _).quiets))))

/-- Every heartbeat monitor is IDLE at the end of a run. -/
theorem endRun_live (st : RunState) : ((endRun st s).sock i).live = quietLive (s.sock i).live := by
  have h1 : Quiets s (zonesEnded st s) :=
    (((runEnded_plain st s).quiets).trans (changeInhibits_quiets _ _ _)).trans
      ((forEach_quiets (fun i _ t => thermOff_quiets i t) _).trans
        ((forEach_quiets (fun z _ t => zoneToIdle_quiets t z) _).trans (arbitrate_touches _).quiets))
  have h2 : ((forEach allSockets hbToIdle (zonesEnded st s)).sock i).live = quietLive ((zonesEnded st s).sock i).live := by
    rw [forEach_at (g := fun t j => (t.sock j).live) (h := fun _ => quietLive) (fun i t j => by rw [hbToIdle_live]) _
      allSockets_nodup, if_pos (mem_allSockets i)]
  rw [endRun_eq, (runStateNotice_touches _ _).live i, (assignBins_touches _).live i, h2]
  rcases (h1 i).1 with h | h <;> simp only [h, quietLive]

theorem finishTest_quiets : Quiets s (finishTest s) := by
  unfold finishTest
  split
  · exact endRun_quiets s .finished
  · exact Quiets.refl s

theorem retire_quiets (d : Option Deciding) : Quiets s (retire i d s) := by
  rw [retire_eq]
  exact ((retiredSock_plain i d s).quiets).trans ((finalEffects_quiets i _).trans
    ((sendUrgent_touches _ _ _).quiets.trans (finishTest_quiets _)))

/-- A retired socket's heartbeat monitor is IDLE, and it is out of its pass (R157). -/
theorem retire_quiet (d : Option Deciding) : ((retire i d s).sock i).live = quietLive (s.sock i).live ∧
    ((retire i d s).sock i).pass = quietPass (s.sock i).pass := by
  obtain ⟨h1, h2⟩ := finalEffects_self i (modSock i (retiredSock d) s)
  have h3 := ((sendUrgent_touches (.socket i) (.retired (d.map (·.kind)))
    (finalEffects i (modSock i (retiredSock d) s))).quiets.trans (finishTest_quiets _)) i
  rw [modSock_sock_self] at h1 h2
  exact ⟨h3.live_quiet h1, h3.pass_quiet h2⟩

end

/-! ## What stands elsewhere -/

/-- Of the sockets but one, nothing but the listed pieces differs between `s` and `t`. -/
def Elsewhere (l : List Piece) (i : SocketId) (s t : State) : Prop :=
  ∀ p : Piece, p.isIn l = false → ∀ j ≠ i, SockSame p (s.sock j) (t.sock j)

section
variable {l m n : List Piece} {i : SocketId} {s t u : State}

theorem Elsewhere.refl (l : List Piece) (i : SocketId) (s : State) : Elsewhere l i s s := fun p _ j _ => SockSame.refl p _

theorem Elsewhere.trans (h : Elsewhere l i s t) (g : Elsewhere l i t u) : Elsewhere l i s u :=
  fun p hp j hj => (h p hp j hj).trans (g p hp j hj)

theorem Elsewhere.mono (h : Elsewhere l i s t) (hlm : l.all (·.isIn m) = true := by rfl) : Elsewhere m i s t :=
  fun p hp => h p (Piece.isIn_of_covered hlm hp)

theorem Touches.elsewhere (h : Touches l s t) (i : SocketId) (hlm : l.all (·.isIn m) = true := by rfl) :
    Elsewhere m i s t := fun p hp j _ => (h p (Piece.isIn_of_covered hlm hp)).sock j

theorem Elsewhere.life (h : Elsewhere l i s t) {j : SocketId} (hj : j ≠ i) (hp : Piece.life.isIn l = false := by rfl) :
    (t.sock j).life = (s.sock j).life := h .life hp j hj

theorem Elsewhere.bin (h : Elsewhere l i s t) {j : SocketId} (hj : j ≠ i) (hp : Piece.bin.isIn l = false := by rfl) :
    (t.sock j).bin = (s.sock j).bin := h .bin hp j hj

theorem Elsewhere.inhibit (h : Elsewhere l i s t) {j : SocketId} (hj : j ≠ i)
    (hp : Piece.inhibit.isIn l = false := by rfl) : (t.sock j).rail.inhibit = (s.sock j).rail.inhibit := h .inhibit hp j hj

theorem Elsewhere.therm (h : Elsewhere l i s t) {j : SocketId} (hj : j ≠ i) (hp : Piece.therm.isIn l = false := by rfl) :
    (t.sock j).therm = (s.sock j).therm := h .therm hp j hj

theorem Elsewhere.live (h : Elsewhere l i s t) {j : SocketId} (hj : j ≠ i) (hp : Piece.live.isIn l = false := by rfl) :
    (t.sock j).live = (s.sock j).live := h .live hp j hj

theorem Elsewhere.acct (h : Elsewhere l i s t) {j : SocketId} (hj : j ≠ i) (hp : Piece.acct.isIn l = false := by rfl) :
    (t.sock j).acct = (s.sock j).acct := h .acct hp j hj

theorem Elsewhere.railState (h : Elsewhere l i s t) {j : SocketId} (hj : j ≠ i)
    (hp : Piece.railState.isIn l = false := by rfl) : (t.sock j).rail.state = (s.sock j).rail.state := h .railState hp j hj

theorem Elsewhere.power (h : Elsewhere l i s t) {j : SocketId} (hj : j ≠ i) (hp : Piece.power.isIn l = false := by rfl) :
    (t.sock j).rail.power = (s.sock j).rail.power := h .power hp j hj

theorem modSock_elsewhere (l : List Piece) (i : SocketId) (f : Socket → Socket) (s : State) :
    Elsewhere l i s (modSock i f s) := fun p _ j hj => by rw [modSock_sock_ne hj]; exact SockSame.refl p _

end

/-- What the grants after a change at one socket touch of the others. -/
abbrev granting : List Piece := [.railState, .timers]

section
variable (i : SocketId) (s : State)

theorem grantSlots_elsewhere (z : ZoneId) : Elsewhere granting i s (grantSlots z s) := fun p hp j _ => by
  have h := grantSlots_touches z s
  cases p with
  | railState | timers => exact absurd hp (by decide)
  | queue | law x => trivial
  | _ => exact (h _ rfl).sock j

theorem setPower_elsewhere (v : Nat) : Elsewhere [] i s (setPower i v s) := fun p _ j hj => by
  unfold setPower
  split
  · exact SockSame.refl p _
  · have h := modSock_elsewhere [] i (fun k => { k with rail := { k.rail with power := v } }) s p rfl j hj
    refine h.trans ?_
    have hb := budgetTest_touches (zoneOf i) (modRail i (fun r => { r with power := v }) s)
    cases p with
    | armed | routine | law x => trivial
    | _ => exact (hb _ rfl).sock j

theorem modRail_elsewhere (l : List Piece) (f : Rail → Rail) : Elsewhere l i s (modRail i f s) :=
  modSock_elsewhere l i (fun k => { k with rail := f k.rail }) s

theorem hbToIdle_elsewhere (l : List Piece) : Elsewhere l i s (hbToIdle i s) := by
  unfold hbToIdle setOwed stopHb
  rw [modLive_modLive]
  exact modSock_elsewhere l i _ s

theorem dropPass_elsewhere (l : List Piece) : Elsewhere l i s (dropPass i s) := modSock_elsewhere l i _ s

theorem railOpened_elsewhere (d : RailState) : Elsewhere [] i s (railOpened d i s) :=
  modRail_elsewhere i s [] fun r =>
    { r with state := d, offTimer := s.offTimerNow i, stableTimer := none, phase1Timer := none, rampTimer := none }

theorem openRail_elsewhere (d : RailState) : Elsewhere [] i s (openRail d i s) := by
  unfold openRail
  split
  · have h2 := setPower_elsewhere i (railOpened d i s) 0
    have h3 := hbToIdle_elsewhere i (setPower i 0 (railOpened d i s)) []
    exact (railOpened_elsewhere i s d).trans (h2.trans (h3.trans (dropPass_elsewhere i _ [])))
  · exact railOpened_elsewhere i s d

theorem joinQueue_elsewhere : Elsewhere [] i s (joinQueue i s) :=
  modRail_elsewhere i s [] fun r => { r with state := .queued }

theorem changeInhibitNoGrant_elsewhere (f : Inhibit → Inhibit) : Elsewhere [] i s (changeInhibitNoGrant f i s) := by
  have h1 : Elsewhere [] i s (withInhibit (f (s.sock i).rail.inhibit) i s) := modRail_elsewhere i s [] _
  obtain ⟨-, -, h⟩ | ⟨-, -, -, h⟩ | ⟨-, -, -, h⟩ | ⟨-, -, h⟩ := changeInhibitNoGrant_cases f i s
  · rw [h]; exact h1.trans (openRail_elsewhere i _ .off)
  · rw [h]; exact h1.trans (joinQueue_elsewhere i _)
  · rw [h]; exact h1.trans (modRail_elsewhere i _ [] _)
  · rw [h]; exact h1

theorem changeInhibit_elsewhere (f : Inhibit → Inhibit) : Elsewhere granting i s (changeInhibit f i s) :=
  (changeInhibitNoGrant_elsewhere i s f).mono.trans (grantSlots_elsewhere i _ _)

theorem thermOff_elsewhere : Elsewhere granting i s (thermOff i s) :=
  (modSock_elsewhere granting i (fun k => { k with therm := heaterOff k.therm }) s).trans (changeInhibit_elsewhere i _ warm)

theorem zoneTold_elsewhere (z : ZoneId) : Elsewhere [.checked] i s (zoneTold z s) := fun p hp j _ => by
  have h := zoneTold_touches z s
  cases p with
  | checked => exact absurd hp (by decide)
  | seq | port | chk | law x => trivial
  | _ => exact (h _ rfl).sock j

theorem finalEffects_elsewhere : Elsewhere (.checked :: granting) i s (finalEffects i s) := by
  have h1 : Elsewhere (.checked :: granting) i s (addCause .final i s) :=
    (changeInhibit_elsewhere i s (Inhibit.put .final true)).mono
  have h2 : Elsewhere (.checked :: granting) i (addCause .final i s) (finalCut i s) := (thermOff_elsewhere i _).mono
  have h3 := hbToIdle_elsewhere i (finalCut i s) (.checked :: granting)
  have h4 := dropPass_elsewhere i (hbToIdle i (finalCut i s)) (.checked :: granting)
  exact h1.trans (h2.trans (h3.trans (h4.trans (zoneTold_elsewhere i _ _).mono)))

end

end Sys2Proof.Proofs.Frames

/-! Fail records with their outcome (R152 to R157), and the failures of the heartbeat monitor (R143, R144). -/

namespace Sys2Proof.Proofs.Frames

open Sys2Proof.Machine Sys2Proof.Safety

/-! ## A fail record's outcome -/

section
variable {s : State} {i : SocketId}

theorem accepts_eq_taking (s : State) (i : SocketId) : s.accepts i = taking s i := rfl

theorem taking_iff : taking s i = true ↔ (s.run.state = .active ∨ s.run.state = .held) ∧ (s.sock i).life = .stressing := by
  simp [taking]

/-- A record that counts, in the accounts (R154, R155). -/
theorem record_counted {r : FailRec} (hk : r.kind ≠ .sensorFault) (a : Accounts) : a.record r = counted a r := by
  unfold Accounts.record counted
  rw [if_neg hk]
  rfl

/-- A record that does not count: the total and the log alone (R154, R155). -/
theorem record_board {r : FailRec} (hk : r.kind = .sensorFault) (a : Accounts) :
    a.record r = { a with total := min 65535 (a.total + 1), log := a.log.take 5 ++ [r] } := by
  unfold Accounts.record
  rw [if_pos hk]
  rfl

/-- The state with a record in a socket's accounts and its notice sent. -/
theorem recorded_eq (i : SocketId) (r : FailRec) (s : State) : recorded i r s =
    { s with
      sockets := s.sockets.set i { s.sock i with acct := (s.sock i).acct.record r }
      notices := urgentAfter ⟨.socket i, s.run.clock, .fail r.kind (min 6 ((s.sock i).acct.log.length + 1))⟩ s.notices } :=
  Reports.sendUrgent_eq _ _ _

/-- The same after a change of the socket record that leaves its accounts. -/
theorem recorded_modSock {f : Socket → Socket} {r : FailRec} (hr : r.kind ≠ .sensorFault)
    (hf : (f (s.sock i)).acct = (s.sock i).acct) : recorded i r (modSock i f s) =
    { s with
      sockets := s.sockets.set i { f (s.sock i) with acct := counted (s.sock i).acct r }
      notices := urgentAfter ⟨.socket i, s.run.clock, .fail r.kind (min 6 ((s.sock i).acct.log.length + 1))⟩ s.notices } := by
  rw [recorded_eq, modSock_sock_self, record_counted hr, hf]
  unfold modSock
  rw [Vector.set_set]

theorem recorded_limitReached {r : FailRec} (hk : r.kind ≠ .sensorFault) :
    (recorded i r s).limitReached i r.kind = nextIsLast s i := by
  have hacct : ((recorded i r s).sock i).acct = counted (s.sock i).acct r := by
    rw [recorded_acct, if_pos rfl, record_counted hk]
  unfold State.limitReached nextIsLast
  rw [(recorded_touches i r s).record, hacct]
  cases s.run.record with
  | none => rfl
  | some x => simp [hk, counted]

/-- A record whose fails are not taken is discarded (R153). -/
theorem recordWith_untaken (h : taking s i = false) (k : FailKind) (d : Detail) (n : Option Nat) (x : Disp) :
    recordWith i k d n x s = s := by
  unfold recordWith
  rw [accepts_eq_taking, h]
  rfl

/-- A record of a kind that counts retires its socket by its disposition or by the limit, or is counted alone
(R154, R156). -/
theorem recordWith_taken (h : taking s i = true) {k : FailKind} (hk : k ≠ .sensorFault) (d : Detail) (n : Option Nat)
    (x : Disp) : recordWith i k d n x s =
      if x = .retire ∨ nextIsLast s i = true then
        retire i (some ⟨k, min 6 ((s.sock i).acct.log.length + 1)⟩) (recorded i (recordOf s i k n x d) s)
      else recorded i (recordOf s i k n x d) s := by
  unfold recordWith
  rw [accepts_eq_taking, h, if_pos rfl]
  show acceptRecord i (recordOf s i k n x d) s = _
  rw [acceptRecord_eq, recorded_limitReached (r := recordOf s i k n x d) hk]
  rfl

/-- A SENSOR-FAULT record never retires its socket (R156). -/
theorem recordWith_board (h : taking s i = true) (d : Detail) (n : Option Nat) :
    recordWith i .sensorFault d n .count s = recorded i (recordOf s i .sensorFault n .count d) s := by
  unfold recordWith
  rw [accepts_eq_taking, h, if_pos rfl]
  show acceptRecord i (recordOf s i .sensorFault n .count d) s = _
  rw [acceptRecord_eq, if_neg]
  rintro (hx | hx)
  · cases hx
  · unfold State.limitReached at hx
    revert hx
    cases (recorded i (recordOf s i .sensorFault n .count d) s).run.record with
    | none => simp
    | some x => simp [recordOf]

theorem retire_marked (i : SocketId) (d : Option Deciding) (s : State) : Marked ((retire i d s).sock i) :=
  ((retire_after i d s).law .final rfl i).1 (finalEffects_marked i _)

/-- A retired socket's fails are not taken any more. -/
theorem retire_untaken (i : SocketId) (d : Option Deciding) (s : State) : taking (retire i d s) i = false := by
  simp [taking, (retire_self (i := i) (d := d) (s := s)).1]

/-- A record changes neither the lifecycle nor the accounts of another socket. -/
theorem recordWith_else (k : FailKind) (d : Detail) (n : Option Nat) (x : Disp) {j : SocketId} (hj : j ≠ i) :
    ((recordWith i k d n x s).sock j).life = (s.sock j).life ∧
      ((recordWith i k d n x s).sock j).acct = (s.sock j).acct := by
  have hrec : ∀ r, ((recorded i r s).sock j).life = (s.sock j).life ∧ ((recorded i r s).sock j).acct = (s.sock j).acct :=
    fun r => ⟨(recorded_touches i r s).life j, by rw [recorded_acct, if_neg hj]⟩
  unfold recordWith
  split
  · rw [acceptRecord_eq]
    split
    · exact ⟨(retire_lives j hj).1.trans (hrec _).1, (retire_lives j hj).2.trans (hrec _).2⟩
    · exact hrec _
  · exact ⟨rfl, rfl⟩

/-- The accounts of a socket that a record retired. -/
theorem retire_recorded_acct {r : FailRec} (hk : r.kind ≠ .sensorFault) (d : Deciding) :
    ((retire i (some d) (recorded i r s)).sock i).acct =
      { counted (s.sock i).acct r with deciding := some d, byHost := false } := by
  rw [(retire_self (i := i)).2, recorded_acct, if_pos rfl, record_counted hk]
  rfl

end

end Sys2Proof.Proofs.Frames

namespace Sys2Proof.Proofs.Heartbeats

open Sys2Proof.Machine Sys2Proof.Safety Sys2Proof.Proofs.Frames

/-! ## Heartbeat failures -/

section
variable {s : State} {i : SocketId} {h : HbPart} {k : FailKind} {d : Detail}

/-- The record of a failure, after the monitor's own move. -/
def failed (i : SocketId) (k : FailKind) (d : Detail) (s : State) : State :=
  recordWith i k d (s.passStamp (zoneOf i)) (s.disposition k) (hbApply (s.disposition k) i s)

theorem hbFailure_eq (i : SocketId) (k : FailKind) (d : Detail) (s : State) : hbFailure i k d s =
    if (s.disposition k == .reset && s.exhausts i) = true then failRecord i .heartbeatExhausted .nothing (failed i k d s)
    else failed i k d s := rfl

theorem hbApply_touches (x : Disp) (i : SocketId) (s : State) : Touches [.live, .checked] s (hbApply x i s) := by
  cases x with
  | count => exact (waitOrIdle_touches i s).mono
  | reset => exact resetCycle_touches i s
  | retire => exact (stopHb_touches i _ s).mono

/-- The records of a socket read the same after what touches neither its accounts nor the clock. -/
theorem recordOf_of_touches {l : List Piece} {t : State} (ht : Touches l s t) (n : Option Nat) (x : Disp) (d : Detail)
    (hc : Piece.clock.isIn l = false := by rfl) (ha : Piece.acct.isIn l = false := by rfl) :
    recordOf t i k n x d = recordOf s i k n x d := by
  unfold recordOf
  rw [ht.clock hc, ht.acct i ha]

theorem taking_of_touches {l : List Piece} {t : State} (ht : Touches l s t)
    (hr : Piece.runState.isIn l = false := by rfl) (hl : Piece.life.isIn l = false := by rfl) :
    taking t i = taking s i := by
  unfold taking
  rw [ht.runState hr, ht.life i hl]

theorem nextIsLast_of_touches {l : List Piece} {t : State} (ht : Touches l s t)
    (hr : Piece.record.isIn l = false := by rfl) (ha : Piece.acct.isIn l = false := by rfl) :
    nextIsLast t i = nextIsLast s i := by
  unfold nextIsLast
  rw [ht.record hr, ht.acct i ha]

theorem passStamp_of_touches {l : List Piece} {t : State} (ht : Touches l s t) (z : ZoneId)
    (hs : Piece.seq.isIn l = false := by rfl) : t.passStamp z = s.passStamp z := by
  unfold State.passStamp
  rw [ht.seq z hs]

/-- A failure's record retires the socket or is counted, on the state that the monitor's own move left. -/
theorem failed_eq (ht : taking s i = true) (hk : k ≠ .sensorFault) : failed i k d s =
    if s.disposition k = .retire ∨ nextIsLast s i = true then
      retire i (some ⟨k, min 6 ((s.sock i).acct.log.length + 1)⟩)
        (recorded i (recordOf s i k (s.passStamp (zoneOf i)) (s.disposition k) d) (hbApply (s.disposition k) i s))
    else recorded i (recordOf s i k (s.passStamp (zoneOf i)) (s.disposition k) d) (hbApply (s.disposition k) i s) := by
  have hto := hbApply_touches (s.disposition k) i s
  unfold failed
  rw [recordWith_taken ((taking_of_touches hto).trans ht) hk, nextIsLast_of_touches hto, hto.acct i,
    recordOf_of_touches hto]

theorem exhausts_iff (hp : s.hbPart (zoneOf i) = some h) (hon : (s.sock i).rail.state = .on) : s.exhausts i = true ↔
    h.cycleLimit ≠ 0 ∧ h.cycleLimit < min 255 ((s.sock i).live.cycles + 1) := by
  simp [State.exhausts, State.cycleLimit, hp, hon, incTo]

/-- A failure that retires its socket: no further record of it is taken. -/
theorem hbFailure_final (ht : taking s i = true) (hk : k ≠ .sensorFault)
    (hf : s.disposition k = .retire ∨ nextIsLast s i = true) : hbFailure i k d s =
      retire i (some ⟨k, min 6 ((s.sock i).acct.log.length + 1)⟩)
        (recorded i (recordOf s i k (s.passStamp (zoneOf i)) (s.disposition k) d) (hbApply (s.disposition k) i s)) := by
  rw [hbFailure_eq, failed_eq ht hk, if_pos hf]
  split
  · exact recordWith_untaken (retire_untaken ..) _ _ _ _
  · rfl

/-- A failure that leaves its socket STRESSING. -/
theorem hbFailure_goesOn (ht : taking s i = true) (hk : k ≠ .sensorFault) (hd : s.disposition k ≠ .retire)
    (hl : nextIsLast s i = false) (hx : s.disposition k = .reset → s.exhausts i = false) : hbFailure i k d s =
      recorded i (recordOf s i k (s.passStamp (zoneOf i)) (s.disposition k) d) (hbApply (s.disposition k) i s) := by
  rw [hbFailure_eq, failed_eq ht hk, if_neg (not_or.mpr ⟨hd, by simp [hl]⟩), if_neg]
  rw [Bool.and_eq_true, beq_iff_eq]
  exact fun ⟨h1, h2⟩ => absurd (h2.symm.trans (hx h1)) (by decide)

/-- A failure under RESET past the cycle limit: HEARTBEAT-EXHAUSTED follows and retires the socket (R144). -/
theorem hbFailure_spent (ht : taking s i = true) (hk : k ≠ .sensorFault) (hd : s.disposition k = .reset)
    (hl : nextIsLast s i = false) (hx : s.exhausts i = true) :
    let fail := recordOf s i k (s.passStamp (zoneOf i)) .reset d
    let spent := recordOf s i .heartbeatExhausted (s.passStamp (zoneOf i)) .retire .nothing
    hbFailure i k d s =
      retire i (some ⟨.heartbeatExhausted, min 6 (min 6 ((s.sock i).acct.log.length + 1) + 1)⟩)
        (recorded i spent (recorded i fail (resetCycle i s))) := by
  intro fail spent
  have hcyc := resetCycle_touches i s
  have hrec := recorded_touches i fail (resetCycle i s)
  have hfail : failed i k d s = recorded i fail (resetCycle i s) := by
    rw [failed_eq ht hk, hd, if_neg (by simp [hl])]
    rfl
  have hacct : ((recorded i fail (resetCycle i s)).sock i).acct = (s.sock i).acct.record fail := by
    rw [recorded_acct, if_pos rfl, hcyc.acct i]
  have hlen : min 6 (((s.sock i).acct.record fail).log.length + 1) = min 6 (min 6 ((s.sock i).acct.log.length + 1) + 1) := by
    have : ((s.sock i).acct.record fail).log.length = min 5 (s.sock i).acct.log.length + 1 := by
      simp [Accounts.record, logStore]
    omega
  have hspent : recordOf (recorded i fail (resetCycle i s)) i .heartbeatExhausted (s.passStamp (zoneOf i)) .retire .nothing
      = spent := by
    unfold recordOf
    rw [hrec.clock, hcyc.clock, hacct]
    rfl
  rw [hbFailure_eq, hfail, hd, hx, if_pos (by decide)]
  unfold failRecord
  rw [passStamp_of_touches hrec, passStamp_of_touches hcyc, recordWith_taken
    ((taking_of_touches hrec).trans ((taking_of_touches hcyc).trans ht)) (by simp), if_pos (.inl rfl), hacct, hlen]
  rw [show (recorded i fail (resetCycle i s)).dispTaken .heartbeatExhausted = .retire from rfl, hspent]

/-- A failure changes neither the lifecycle nor the accounts of another socket. -/
theorem hbFailure_else {j : SocketId} (hj : j ≠ i) : ((hbFailure i k d s).sock j).life = (s.sock j).life ∧
    ((hbFailure i k d s).sock j).acct = (s.sock j).acct := by
  have h1 := hbApply_touches (s.disposition k) i s
  obtain ⟨h2, h3⟩ := recordWith_else (s := hbApply (s.disposition k) i s) k d (s.passStamp (zoneOf i)) (s.disposition k) hj
  rw [h1.life j] at h2
  rw [h1.acct j] at h3
  rw [hbFailure_eq]
  split
  · obtain ⟨h4, h5⟩ := recordWith_else (s := failed i k d s) .heartbeatExhausted .nothing
      ((failed i k d s).passStamp (zoneOf i)) .retire hj
    exact ⟨h4.trans h2, h5.trans h3⟩
  · exact ⟨h2, h3⟩

/-- A socket that waits for a first heartbeat anew, under a program with a heartbeat part. -/
theorem waitOrIdle_part (hp : s.hbPart (zoneOf i) = some h) : waitOrIdle i s = modLive i (fun l =>
    { l with state := .waitFirst, timer := some (s.now / 50000 + (h.tMin + h.tWin)) }) s := by
  unfold waitOrIdle
  rw [hp]
  rfl

/-- A reset request that starts a failure cycle (R144). -/
theorem resetCycle_starts (hon : (s.sock i).rail.state = .on) (hx : s.exhausts i = false)
    (hst : (s.sock i).live.state ≠ .paused) : resetCycle i s = modSock i (fun k => { k with
      pass := { k.pass with checked := false }
      live := { k.live with
        state := .resetHeld, cycles := min 255 (k.live.cycles + 1), timer := some (s.now / 50000 + s.tReset (zoneOf i)) } })
      s := by
  have hlim : ¬ (s.cycleLimit (zoneOf i) ≠ 0 ∧ incTo 255 (s.sock i).live.cycles > s.cycleLimit (zoneOf i)) := by
    simp only [State.exhausts, hon, beq_self_eq_true, Bool.true_and, Bool.and_eq_false_iff, bne_eq_false_iff_eq,
      decide_eq_false_iff_not] at hx
    exact fun ⟨h1, h2⟩ => hx.elim h1 fun h => h h2
  unfold resetCycle
  rw [if_neg (not_not.mpr hon)]
  simp only [modLive_live_self]
  rw [if_neg (by exact hlim), if_neg hst]
  unfold enterResetHeld startHb dropPass modPass
  rw [modLive_modLive]
  unfold modLive
  rw [modSock_modSock]
  rfl

/-- A reset request past the cycle limit: the socket is IDLE (R144). -/
theorem resetCycle_exhausts (hx : s.exhausts i = true) : resetCycle i s =
    modLive i (fun l => { l with state := .idle, timer := none, cycles := min 255 (l.cycles + 1) }) s := by
  simp only [State.exhausts, Bool.and_eq_true, beq_iff_eq, bne_iff_ne, decide_eq_true_eq] at hx
  obtain ⟨⟨hon, h1⟩, h2⟩ := hx
  unfold resetCycle
  rw [if_neg (not_not.mpr hon)]
  simp only [modLive_live_self]
  rw [if_pos (by exact ⟨h1, h2⟩)]
  unfold stopHb
  rw [modLive_modLive]
  rfl

/-- What a record that retires its socket leaves of it, after the monitor's own move. -/
theorem retired_by_failure {t : State} {r : FailRec} (e : Deciding) (hk : r.kind ≠ .sensorFault)
    (ht : Touches [.live, .checked] s t) :
    ((retire i (some e) (recorded i r t)).sock i).life = .retired ∧
      ((retire i (some e) (recorded i r t)).sock i).live.state = .idle ∧
      ((retire i (some e) (recorded i r t)).sock i).live.timer = none ∧
      ((retire i (some e) (recorded i r t)).sock i).rail.inhibit.final = true ∧
      ((retire i (some e) (recorded i r t)).sock i).acct =
        { counted (s.sock i).acct r with deciding := some e, byHost := false } := by
  have hacct := retire_recorded_acct (i := i) (s := t) hk e
  obtain ⟨hfinal, -⟩ := retire_marked i (some e) (recorded i r t)
  rw [ht.acct i] at hacct
  rw [(retire_quiet ..).1]
  exact ⟨retire_self.1, rfl, rfl, hfinal, hacct⟩

end

/-- Settles O58: the monitor's own move, the record, and HEARTBEAT-EXHAUSTED where the reset request is one too many. -/
theorem heartbeatFailuresAreHandled : Obligations.HeartbeatFailuresAreHandled := by
  unfold Obligations.HeartbeatFailuresAreHandled
  intro s i h c now kind detail k hp htake hon hcase disp fail slot cycles spent
  obtain ⟨u, hu, hc, hkind, hstate⟩ : ∃ T, now = max s.now T ∧
      exec c s = .next (hbFailure i kind detail (advanceTo T s)) ∧ kind ≠ .sensorFault ∧ k.live.state ≠ .paused := by
    obtain ⟨atMs, last, rfl, hst, hl, rfl, hlt, rfl, rfl⟩ | ⟨e, rfl, hst, he, rfl, rfl, rfl⟩ := hcase
    · refine ⟨_, rfl, ?_, by simp, by rw [hst]; simp⟩
      rw [heartbeatEdge_watch hp hst hl, if_neg (by omega)]
    · exact ⟨_, rfl, heartbeatLate_eq hp hst he, by simp, by rcases hst with h | h <;> rw [h] <;> simp⟩
  subst hu
  have htake : taking (advanceTo u s) i = true := htake
  have hto := hbFailure_touches i kind detail (advanceTo u s)
  have hexh : (advanceTo u s).exhausts i = true ↔ spent := exhausts_iff (s := advanceTo u s) hp hon
  refine ⟨_, hc, hto.now, fun hf => ?_, fun hd hl => ?_, fun hd hl hns => ?_, fun hd hl hsp => ?_,
    fun j hj => hbFailure_else hj, hto.mem, hto.pages, hto.programs, hto.link, hto.straps, hto.draws, hto.pending⟩
  · rw [hbFailure_final htake hkind hf]
    exact retired_by_failure (s := advanceTo u s) _ hkind (hbApply_touches _ i _)
  · have hdisp : (advanceTo u s).disposition kind = .count := hd
    have hwait : hbApply .count i (advanceTo u s) = _ := waitOrIdle_part (s := advanceTo u s) hp
    rw [hbFailure_goesOn htake hkind (by rw [hdisp]; simp) hl (by rw [hdisp]; simp), hdisp, hwait]
    exact (recorded_modSock (r := recordOf (advanceTo u s) i kind _ .count detail) hkind rfl).trans (by
      rw [show fail = recordOf s i kind (s.passStamp (zoneOf i)) .count detail by rw [← hd]]; rfl)
  · have hdisp : (advanceTo u s).disposition kind = .reset := hd
    have hex : (advanceTo u s).exhausts i = false := by
      rw [Bool.eq_false_iff]; exact fun h => hns (hexh.mp h)
    have hcyc : hbApply .reset i (advanceTo u s) = _ := resetCycle_starts (s := advanceTo u s) hon hex hstate
    rw [hbFailure_goesOn htake hkind (by rw [hdisp]; simp) hl fun _ => hex, hdisp, hcyc]
    have hres : (advanceTo u s).tReset (zoneOf i) = h.tReset := by
      simp [State.tReset, show (advanceTo u s).hbPart (zoneOf i) = some h from hp]
    rw [hres]
    exact (recorded_modSock (r := recordOf (advanceTo u s) i kind _ .reset detail) hkind rfl).trans (by
      rw [show fail = recordOf s i kind (s.passStamp (zoneOf i)) .reset detail by rw [← hd]]; rfl)
  · have hdisp : (advanceTo u s).disposition kind = .reset := hd
    rw [hbFailure_spent htake hkind hdisp hl (hexh.mpr hsp), resetCycle_exhausts (hexh.mpr hsp)]
    refine ⟨retire_self.1, ?_, ?_⟩
    · rw [(retire_quiet ..).1, (recorded_touches i _ _).live i, (recorded_touches i _ _).live i, modLive_live_self]
      rfl
    · rw [retire_recorded_acct (by simp [recordOf]), recorded_acct, if_pos rfl, record_counted hkind,
        modLive_acct]
      rw [show fail = recordOf s i kind (s.passStamp (zoneOf i)) .reset detail by rw [← hd]]
      rfl

end Sys2Proof.Proofs.Heartbeats

/-! The expiries of the rail timers (R34, R39, R42). -/

namespace Sys2Proof.Proofs.Frames

open Sys2Proof.Machine Sys2Proof.Safety

theorem modRail_modRail (i : SocketId) (f g : Rail → Rail) (s : State) :
    modRail i f (modRail i g s) = modRail i (fun r => f (g r)) s := modSock_modSock i _ _ s

theorem modZone_modZone (z : ZoneId) (f g : Zone → Zone) (s : State) :
    modZone z f (modZone z g s) = modZone z (fun k => f (g k)) s := by
  unfold modZone State.zone
  simp

/-- A change of a zone that leaves it as it is. -/
theorem modZone_id {z : ZoneId} {f : Zone → Zone} {s : State} (h : f (s.zone z) = s.zone z) : modZone z f s = s := by
  unfold modZone
  rw [h]
  unfold State.zone
  simp

theorem modZone_modRail (z : ZoneId) (f : Zone → Zone) (i : SocketId) (g : Rail → Rail) (s : State) :
    modZone z f (modRail i g s) = modRail i g (modZone z f s) := rfl

section
variable {z : ZoneId} {s : State}

/-- Nothing is granted where no slot is free (R33). -/
theorem grantOne_full (h : 2 ≤ (s.slotHolders z).length) : grantOne z s = s := by
  unfold grantOne
  split
  · exact if_neg (by omega)
  · rfl

theorem grantSlots_of_full (h : 2 ≤ (s.slotHolders z).length) : grantSlots z s = s := by
  unfold grantSlots
  rw [grantOne_full h, grantOne_full h]

/-- Nothing is granted where nothing waits (R33). -/
theorem grantOne_empty (h : (s.zone z).rampQueue = []) : grantOne z s = s := by
  unfold grantOne
  rw [h]

theorem grantSlots_of_empty (h : (s.zone z).rampQueue = []) : grantSlots z s = s := by
  unfold grantSlots
  rw [grantOne_empty h, grantOne_empty h]

/-- A socket that waits alone takes a free slot (R33, R34). -/
theorem grantSlots_alone {i : SocketId} {p : RailProfile} (hq : (s.zone (zoneOf i)).rampQueue = [i])
    (hp : (s.zone (zoneOf i)).railProf = some p) (hlt : (s.slotHolders (zoneOf i)).length < 2) :
    grantSlots (zoneOf i) s = granted i [] p s := by
  have h1 : grantOne (zoneOf i) s = granted i [] p s := by
    unfold grantOne
    rw [hq, hp]
    simp only
    rw [if_pos hlt, startRamp_eq]
    rfl
  unfold grantSlots
  rw [h1, grantOne_empty granted_queue]

/-- A change at a socket that ramps neither before nor after leaves the slots. -/
theorem slotHolders_modSock {i : SocketId} {f : Socket → Socket}
    (h : (f (s.sock i)).rail.state.ramping = (s.sock i).rail.state.ramping) :
    (modSock i f s).slotHolders z = s.slotHolders z := by
  refine List.filter_congr fun j _ => ?_
  rw [modSock_sock]
  split
  · rename_i hj; subst hj; exact h
  · rfl

end

end Sys2Proof.Proofs.Frames

namespace Sys2Proof.Proofs.RailEvents

open Sys2Proof.Machine Sys2Proof.Safety Sys2Proof.Proofs.Frames

section
variable {s : State} {i : SocketId} {e : Nat}

/-- The off-time has stopped, at the time of its expiry. -/
def offStopped (i : SocketId) (e : Nat) (s : State) : State :=
  modRail i (fun r => { r with offTimer := none }) (advanceTo e s)

theorem offTimeExpiry_eq (he : (s.sock i).rail.offTimer = some e) :
    exec (.offTimeExpiry i) s = .next (leaveRest i (offStopped i e s)) := by
  show execOffTimeExpiry i s = _
  unfold execOffTimeExpiry
  rw [he]
  rfl

theorem offStopped_rail : ((offStopped i e s).sock i).rail = { (s.sock i).rail with offTimer := none } :=
  modRail_rail_self i _ _

theorem leaveRest_of_ne (h : (s.sock i).rail.state ≠ .rest) : leaveRest i s = s := if_neg h

theorem leaveRest_inhibited (h : (s.sock i).rail.state = .rest) (hi : (s.sock i).rail.inhibit.isEmpty = false) :
    leaveRest i s = modRail i (fun r => { r with state := .off }) s := by
  unfold leaveRest
  rw [if_pos h, if_neg (by simp [hi])]

theorem leaveRest_demands_eq (h : (s.sock i).rail.state = .rest) (hi : (s.sock i).rail.inhibit.isEmpty = true) :
    leaveRest i s = grantSlots (zoneOf i) (joinQueue i s) := by
  unfold leaveRest
  rw [if_pos h, if_pos hi]

/-- The rail queues after its off-time. -/
theorem joinQueue_offStopped : joinQueue i (offStopped i e s) =
    modZone (zoneOf i) (fun k => { k with rampQueue := k.rampQueue ++ [i] })
      (modRail i (fun r => { r with state := .queued, offTimer := none }) (advanceTo e s)) := by
  unfold joinQueue offStopped
  rw [modRail_modRail]

theorem joinQueue_offStopped_slots (h : (s.sock i).rail.state = .rest) (z : ZoneId) :
    (joinQueue i (offStopped i e s)).slotHolders z = s.slotHolders z := by
  rw [joinQueue_offStopped]
  refine slotHolders_modSock (s := advanceTo e s)
    (f := fun k => { k with rail := { k.rail with state := .queued, offTimer := none } }) ?_
  show RailState.queued.ramping = (s.sock i).rail.state.ramping
  rw [h]
  rfl

end

/-- Settles O49, by cases of the timer and of the rail's state. -/
theorem railTimersExpire : Obligations.RailTimersExpire := by
  unfold Obligations.RailTimersExpire
  intro s i e k z at_
  refine ⟨fun he hst => ?_, fun he => ?_, fun he => ⟨fun hst => ?_, fun hst hi => ?_, fun hst hi hfull => ?_,
    fun p hst hi hfree hq hp => ?_⟩⟩
  · show execPhase1TimerExpiry i s = _
    unfold execPhase1TimerExpiry
    rw [hst, he]
    rfl
  · show execStableTimerExpiry i s = _
    unfold execStableTimerExpiry
    rw [he]
    rfl
  · rw [offTimeExpiry_eq he, leaveRest_of_ne (by rw [offStopped_rail]; exact hst)]
    rfl
  · rw [offTimeExpiry_eq he, leaveRest_inhibited (by rw [offStopped_rail]; exact hst) (by rw [offStopped_rail]; exact hi)]
    unfold offStopped
    rw [modRail_modRail]
    rfl
  · rw [offTimeExpiry_eq he, leaveRest_demands_eq (by rw [offStopped_rail]; exact hst) (by rw [offStopped_rail]; exact hi),
      grantSlots_of_full (by rw [joinQueue_offStopped_slots hst]; exact hfull), joinQueue_offStopped]
    rfl
  · have hqueue : ((joinQueue i (offStopped i e s)).zone (zoneOf i)).rampQueue = [i] := by
      rw [joinQueue_queue]
      exact congrArg (· ++ [i]) hq
    have hprof : ((joinQueue i (offStopped i e s)).zone (zoneOf i)).railProf = some p := by
      rw [(joinQueue_touches i _).railProf]
      exact hp
    rw [offTimeExpiry_eq he, leaveRest_demands_eq (by rw [offStopped_rail]; exact hst) (by rw [offStopped_rail]; exact hi),
      grantSlots_alone hqueue hprof (by rw [joinQueue_offStopped_slots hst]; exact hfree), joinQueue_offStopped]
    have hzone : modZone (zoneOf i) (fun k => { k with rampQueue := [] })
        (modZone (zoneOf i) (fun k => { k with rampQueue := k.rampQueue ++ [i] })
          (modRail i (fun r => { r with state := .queued, offTimer := none }) (advanceTo e s))) =
        modRail i (fun r => { r with state := .queued, offTimer := none }) (advanceTo e s) := by
      rw [modZone_modZone]
      exact modZone_id (by rw [modRail_zone]; exact (show { s.zone (zoneOf i) with rampQueue := [] } = s.zone (zoneOf i) by
        rw [← hq]))
    unfold granted
    rw [hzone, modRail_modRail]
    unfold ramped
    split <;> rfl

end Sys2Proof.Proofs.RailEvents

/-! What the operations of one zone's sequencer and checker leave alone, and the sequencer record that each leaves
(chapters 6 and 7). -/

namespace Sys2Proof.Proofs.Sequencing

open Sys2Proof.Machine Sys2Proof.Safety Sys2Proof.Proofs.Frames

/-! ## Work on one zone -/

/-- Between `s` and `t` nothing moves but the sequencer and the checker of zone `z`, the passes of its sockets, and the
memory port. -/
structure ZoneWork (z : ZoneId) (s t : State) : Prop where
  other : ∀ y ≠ z, t.zone y = s.zone y
  own : t.zone z = { s.zone z with seq := (t.zone z).seq, chk := (t.zone z).chk }
  apart : ∀ i, zoneOf i ≠ z → t.sock i = s.sock i
  sock : ∀ i, t.sock i = { s.sock i with pass := (t.sock i).pass }
  run : t.run = s.run
  link : t.link = s.link
  notices : t.notices = s.notices
  straps : t.straps = s.straps
  now : t.now = s.now
  draws : t.freeDraws = s.freeDraws
  pending : t.pending = s.pending
  mem : t.store.mem = s.store.mem
  pages : t.store.pages = s.store.pages
  programs : t.store.programs = s.store.programs
  staging : t.store.staging = s.store.staging

namespace ZoneWork

section
variable {z : ZoneId} {s t u : State}

theorem refl (z : ZoneId) (s : State) : ZoneWork z s s :=
  ⟨fun _ _ => rfl, rfl, fun _ _ => rfl, fun _ => rfl, rfl, rfl, rfl, rfl, rfl, rfl, rfl, rfl, rfl, rfl, rfl⟩

theorem trans (h : ZoneWork z s t) (g : ZoneWork z t u) : ZoneWork z s u where
  other y hy := (g.other y hy).trans (h.other y hy)
  own := by rw [g.own, h.own]
  apart i hi := (g.apart i hi).trans (h.apart i hi)
  sock i := by rw [g.sock i, h.sock i]
  run := g.run.trans h.run
  link := g.link.trans h.link
  notices := g.notices.trans h.notices
  straps := g.straps.trans h.straps
  now := g.now.trans h.now
  draws := g.draws.trans h.draws
  pending := g.pending.trans h.pending
  mem := g.mem.trans h.mem
  pages := g.pages.trans h.pages
  programs := g.programs.trans h.programs
  staging := g.staging.trans h.staging

/-- The whole state after work on one zone. -/
theorem rest (h : ZoneWork z s t) : t = { s with sockets := t.sockets, zones := t.zones, store := t.store } := by
  obtain ⟨-, -, -, -, h1, h2, h3, h4, h5, h6, h7, -, -, -, -⟩ := h
  cases s
  cases t
  simp only at h1 h2 h3 h4 h5 h6 h7
  subst h1 h2 h3 h4 h5 h6 h7
  rfl

theorem page (h : ZoneWork z s t) (pg : PageId) : t.page pg = s.page pg := by
  unfold State.page
  rw [h.pages]

theorem program (h : ZoneWork z s t) (k : ProgId) : t.program k = s.program k := by
  unfold State.program
  rw [h.programs]

theorem tagAt (h : ZoneWork z s t) (k : ProgId) (n : Nat) : t.tagAt k n = s.tagAt k n := by
  unfold State.tagAt State.playedCount
  rw [h.program k]
  simp only [h.page]

theorem modZone (z : ZoneId) {f : Zone → Zone}
    (hf : ∀ k, f k = { k with seq := (f k).seq, chk := (f k).chk }) (s : State) : ZoneWork z s (modZone z f s) where
  other y hy := modZone_zone_ne hy f s
  own := by rw [modZone_zone_self]; exact hf _
  apart _ _ := rfl
  sock _ := rfl
  run := rfl
  link := rfl
  notices := rfl
  straps := rfl
  now := rfl
  draws := rfl
  pending := rfl
  mem := rfl
  pages := rfl
  programs := rfl
  staging := rfl

theorem modSeq (z : ZoneId) (f : Seq → Seq) (s : State) : ZoneWork z s (modSeq z f s) := modZone z (fun _ => rfl) s

theorem modChk (z : ZoneId) (f : CheckZone → CheckZone) (s : State) : ZoneWork z s (modChk z f s) :=
  modZone z (fun _ => rfl) s

theorem modPass {i : SocketId} (hi : zoneOf i = z) (f : Pass → Pass) (s : State) : ZoneWork z s (modPass i f s) where
  other _ _ := rfl
  own := rfl
  apart j hj := modSock_sock_ne (by rintro rfl; exact hj hi) _ s
  sock j := by rw [modPass_sock]; split <;> simp_all
  run := rfl
  link := rfl
  notices := rfl
  straps := rfl
  now := rfl
  draws := rfl
  pending := rfl
  mem := rfl
  pages := rfl
  programs := rfl
  staging := rfl

/-- A change of the port alone. -/
theorem port (z : ZoneId) (p : Option Transfer) (e w : Nat) (a b : ZoneId) (s : State) : ZoneWork z s
    { s with store := { s.store with port := p, portEnd := e, waitCount := w, ptr1 := a, ptr3 := b } } :=
  ⟨fun _ _ => rfl, rfl, fun _ _ => rfl, fun _ => rfl, rfl, rfl, rfl, rfl, rfl, rfl, rfl, rfl, rfl, rfl, rfl⟩

theorem arbitrate (z : ZoneId) (s : State) : ZoneWork z s (arbitrate s) := by
  obtain ⟨p, e, w, a, b, h⟩ := arbitrate_frame s
  rw [h]
  exact port z p e w a b s

theorem withdrawFetch (z : ZoneId) (s : State) : ZoneWork z s (withdrawFetch z s) := by
  refine (modSeq z (fun q => { q with fetch := none }) s).trans ?_
  by_cases h : s.store.port = some (.burst z)
  · have hw : Machine.withdrawFetch z s = { Machine.modSeq z (fun q => { q with fetch := none }) s with
        store := { s.store with port := none } } := by
      simp [Machine.withdrawFetch, modStore, h]
    rw [hw]
    exact port z none _ _ _ _ _
  · have hw : Machine.withdrawFetch z s = Machine.modSeq z (fun q => { q with fetch := none }) s := by
      simp [Machine.withdrawFetch, modStore, h]
      rfl
    rw [hw]
    exact refl z _

theorem forEachSocket {f : SocketId → State → State} (h : ∀ i, zoneOf i = z → ∀ s, ZoneWork z s (f i s)) (s : State) :
    ZoneWork z s (forEach (zoneSockets z) f s) :=
  forEach_keeps (P := ZoneWork z s) (fun i hi t ht => ht.trans (h i ((mem_zoneSockets z i).mp hi) t)) s (refl z s)

theorem closePass (z : ZoneId) (s : State) : ZoneWork z s (closePass z s) :=
  (modChk z _ s).trans (forEachSocket (fun _ hi t => modPass hi _ t) _)

theorem joinPass (z : ZoneId) (n : Nat) (p : ProgId) (s : State) : ZoneWork z s (joinPass z n p s) := by
  refine (modChk z _ s).trans (forEachSocket (fun i hi t => ?_) _)
  unfold joinOne
  split
  · exact modPass hi _ t
  · exact modPass hi _ t

theorem strobeSample (z : ZoneId) (v : Vec) (resp : Vector Byte 8) (s : State) :
    ZoneWork z s (strobeSample z v resp s) := forEachSocket (fun _ hi t => modPass hi _ t) s

theorem startFetch (z : ZoneId) (g : PageTag) (s : State) : ZoneWork z s (startFetch z g s) :=
  (modSeq z _ s).trans (arbitrate z _)

theorem fetchWanted (z : ZoneId) (s : State) : ZoneWork z s (fetchWanted z s) := by
  unfold Machine.fetchWanted
  split
  · split
    · exact refl z s
    · split
      · split
        · exact modSeq z _ s
        · exact refl z s
      · exact startFetch z _ s
  · exact refl z s

theorem chooseNext (z : ZoneId) (s : State) : ZoneWork z s (chooseNext z s) := by
  simp only [Machine.chooseNext]
  split
  · exact modSeq z _ s
  · exact (modSeq z _ s).trans (fetchWanted z _)

theorem passStart (z : ZoneId) (b : BufId) (s : State) : ZoneWork z s (passStart z b s) := by
  unfold Machine.passStart
  split
  · exact refl z s
  · exact (modSeq z _ s).trans ((joinPass z _ _ _).trans (chooseNext z _))

theorem enterPriming (z : ZoneId) (s : State) : ZoneWork z s (enterPriming z s) := by
  rw [enterPriming_eq]
  have h := modSeq z (toPriming (s.idleWord z)) s
  split
  · exact h.trans (passStart z _ _)
  · exact h.trans (fetchWanted z _)

theorem enterStatic (z : ZoneId) (s : State) : ZoneWork z s (enterStatic z s) :=
  (modSeq z _ s).trans ((withdrawFetch z _).trans (arbitrate z _))

theorem enterHeld (z : ZoneId) (s : State) : ZoneWork z s (enterHeld z s) := modSeq z _ s

theorem changePage (z : ZoneId) (b : BufId) (s : State) : ZoneWork z s (changePage z b s) :=
  (modSeq z _ s).trans (chooseNext z _)

theorem zoneResume (z : ZoneId) (s : State) : ZoneWork z s (zoneResume z s) := by
  unfold Machine.zoneResume
  split
  · split
    · exact enterPriming z s
    · exact enterStatic z s
  · exact refl z s

theorem zoneDone (z : ZoneId) (s : State) : ZoneWork z s (zoneDone z s) :=
  (modSeq z _ s).trans ((closePass z _).trans ((withdrawFetch z _).trans (arbitrate z _)))

end

end ZoneWork

/-! ## The fetcher -/

section
variable {z : ZoneId} {s : State} {w : PageTag}

theorem arbitrate_zone (s : State) (y : ZoneId) : (arbitrate s).zone y = s.zone y := by
  unfold State.zone
  rw [arbitrate_zones]

theorem startFetch_zone (z : ZoneId) (w : PageTag) (s : State) : ((startFetch z w s).zone z).seq =
    { (s.zone z).seq.setBuf (s.zone z).seq.play.buf.other (.filling w) with
      fetch := some { tag := w, target := (s.zone z).seq.play.buf.other, burst := 0, data := [] } } := by
  unfold startFetch
  rw [arbitrate_zone, modSeq_seq_self]

theorem fetchWanted_none (h : s.wanted z = none) : fetchWanted z s = s := by
  unfold fetchWanted
  rw [h]

theorem fetchWanted_held (h : s.wanted z = some w) (hh : s.held z w = true) : fetchWanted z s = s := by
  unfold fetchWanted
  rw [h]
  exact if_pos hh

theorem fetchWanted_starts (h : s.wanted z = some w) (hh : s.held z w = false) (hf : (s.zone z).seq.fetch = none) :
    fetchWanted z s = startFetch z w s := by
  unfold fetchWanted
  rw [h]
  simp only [hh, hf, Bool.false_eq_true, if_false]

/-- A change of the two buffers and the fetch alone. -/
def FetchOnly (q q' : Seq) : Prop := q' = { q with bufA := q'.bufA, bufB := q'.bufB, fetch := q'.fetch }

theorem setBuf_fetchOnly (q : Seq) (b : BufId) (x : Buffer) (f : Option Fetch) :
    FetchOnly q { q.setBuf b x with fetch := f } := by cases b <;> rfl

theorem fetchWanted_fetchOnly (z : ZoneId) (s : State) : FetchOnly (s.zone z).seq ((fetchWanted z s).zone z).seq := by
  unfold fetchWanted
  split
  · split
    · rfl
    · split
      · split
        · rw [modSeq_seq_self]
          exact setBuf_fetchOnly _ _ _ _
        · rfl
      · rw [startFetch_zone]
        exact setBuf_fetchOnly _ _ _ _
  · rfl

theorem fetchWanted_sockets (z : ZoneId) (s : State) : (fetchWanted z s).sockets = s.sockets := by
  unfold fetchWanted startFetch
  split
  · split
    · rfl
    · split
      · split <;> rfl
      · rw [arbitrate_sockets]; rfl
  · rfl

/-- With both buffers empty no page is ready. -/
theorem ready_of_empty (ha : (s.zone z).seq.bufA = .empty) (hb : (s.zone z).seq.bufB = .empty) : s.ready z = none := by
  have hbuf : ∀ b, (s.zone z).seq.buf b = .empty := fun b => by cases b <;> assumption
  unfold State.ready Seq.readyBuf
  simp [hbuf, Buffer.holds]

/-- A zone enters PRIMING with both buffers empty: the fetch of position 0 is seen to, and no pass starts (R107). -/
theorem enterPriming_of_empty (ha : (s.zone z).seq.bufA = .empty) (hb : (s.zone z).seq.bufB = .empty) :
    enterPriming z s = fetchWanted z (modSeq z (toPriming (s.idleWord z)) s) := by
  rw [enterPriming_eq, ready_of_empty] <;> rw [modSeq_seq_self] <;> assumption

theorem enterPriming_seq_of_empty (ha : (s.zone z).seq.bufA = .empty) (hb : (s.zone z).seq.bufB = .empty) :
    FetchOnly (toPriming (s.idleWord z) (s.zone z).seq) ((enterPriming z s).zone z).seq := by
  have h := fetchWanted_fetchOnly z (modSeq z (toPriming (s.idleWord z)) s)
  rw [modSeq_seq_self] at h
  rw [enterPriming_of_empty ha hb]
  exact h

/-- The sequencer record of a zone that enters STATIC. -/
theorem enterStatic_seq (z : ZoneId) (s : State) : ((enterStatic z s).zone z).seq =
    { (s.zone z).seq.emptied with state := .static, gapTimer := none, drive := 0, fetch := none } := by
  unfold enterStatic
  rw [arbitrate_zone, withdrawFetch_seq, if_pos rfl, modSeq_seq_self]

theorem enterStatic_sockets (z : ZoneId) (s : State) : (enterStatic z s).sockets = s.sockets := by
  unfold enterStatic withdrawFetch
  rw [arbitrate_sockets]
  rfl

/-- The sequencer record of a zone that enters HELD. -/
theorem enterHeld_seq (z : ZoneId) (s : State) : ((enterHeld z s).zone z).seq =
    { (s.zone z).seq.emptied with state := .held, gapTimer := none, drive := s.idleWord z } := modSeq_seq_self z _ s

end

end Sys2Proof.Proofs.Sequencing

/-! ZONE-PROGRAM (R118, R119). -/

namespace Sys2Proof.Proofs.Sequencing

open Sys2Proof.Machine Sys2Proof.Safety Sys2Proof.Proofs.Frames Sys2Proof.Proofs.Requests Sys2Proof.Proofs.PatternStore
  Sys2Proof.Proofs.Records Sys2Proof.Proofs.Settings

/-! ## Loops over the sockets -/

/-- A loop whose turns each change their own socket by what no turn changes. -/
theorem forEach_sock_of {op : SocketId → State → State} {F : State → SocketId → Socket → Socket}
    (h : ∀ i s, op i s = modSock i (F s i) s) (hF : ∀ j g s, F (modSock j g s) = F s) : ∀ (l : List SocketId) (s : State),
    forEach l op s = forEach l (fun i => modSock i (F s i)) s := by
  intro l
  induction l with
  | nil => intro s; rfl
  | cons a l ih =>
    intro s
    rw [forEach_cons, forEach_cons, ih, h, hF]

/-- The liveness part of a socket after its zone's assigned program changed, by the new program's heartbeat part, the time
and whether the run is ACTIVE (R148). -/
def reprogrammed (part : Option HbPart) (now : Nat) (active : Bool) (k : Socket) : Liveness :=
  match k.live.state, part with
  | .waitFirst, some h | .watch, some h => { k.live with state := .waitFirst, timer := some (now + (h.tMin + h.tWin)) }
  | .waitFirst, none | .watch, none => { k.live with state := .idle, timer := none }
  | .idle, some h =>
    if k.rail.state = .on ∧ k.life = .stressing ∧ active = true then
      { k.live with state := .waitFirst, timer := some (now + (h.tMin + h.tWin)) } else k.live
  | .idle, none => if k.rail.state = .on ∧ k.life = .stressing ∧ active = true then { k.live with timer := none } else k.live
  | .resetHeld, _ | .ignore, _ | .paused, _ => k.live

/-- Two changes of one socket that agree on its record agree. -/
theorem modSock_congr {i : SocketId} {f g : Socket → Socket} {s : State} (h : f (s.sock i) = g (s.sock i)) :
    modSock i f s = modSock i g s := by
  unfold modSock
  rw [h]

/-- A change of one socket that changes nothing. -/
theorem modSock_id {i : SocketId} {f : Socket → Socket} {s : State} (h : f (s.sock i) = s.sock i) : modSock i f s = s := by
  unfold modSock
  rw [h]
  unfold State.sock
  simp

/-- The liveness part of a socket that waits for a first heartbeat, or is IDLE without a heartbeat part (R140). -/
def waited (part : Option HbPart) (now : Nat) (l : Liveness) : Liveness :=
  match part with
  | some h => { l with state := .waitFirst, timer := some (now + (h.tMin + h.tWin)) }
  | none => { l with state := .idle, timer := none }

theorem waitOrIdle_eq (i : SocketId) (s : State) :
    waitOrIdle i s = modLive i (waited (s.hbPart (zoneOf i)) s.nowMs) s := by
  unfold waitOrIdle
  cases s.hbPart (zoneOf i) <;> rfl

theorem hbProgramChange_eq (i : SocketId) (s : State) : hbProgramChange i s = modSock i (fun k =>
    { k with live := reprogrammed (s.hbPart (zoneOf i)) s.nowMs (s.run.state == .active) k }) s := by
  have hstep : ∀ {l : Liveness}, reprogrammed (s.hbPart (zoneOf i)) s.nowMs (s.run.state == .active) (s.sock i) = l →
      modSock i (fun k => { k with live := reprogrammed (s.hbPart (zoneOf i)) s.nowMs (s.run.state == .active) k }) s =
        modSock i (fun k => { k with live := l }) s := fun h => modSock_congr (by rw [h])
  have hself : modSock i (fun k => { k with live := (s.sock i).live }) s = s := modSock_id rfl
  unfold hbProgramChange
  rw [waitOrIdle_eq]
  cases hst : (s.sock i).live.state with
  | waitFirst | watch =>
    refine (hstep (l := waited (s.hbPart (zoneOf i)) s.nowMs (s.sock i).live) ?_).symm
    simp only [reprogrammed, hst, waited]
    cases s.hbPart (zoneOf i) <;> rfl
  | idle =>
    simp only
    split
    · rename_i hon
      refine (hstep (l := waited (s.hbPart (zoneOf i)) s.nowMs (s.sock i).live) ?_).symm
      simp only [reprogrammed, hst, waited, beq_iff_eq, hon]
      cases s.hbPart (zoneOf i) <;> simp
    · rename_i hoff
      refine (hself.symm.trans (hstep ?_).symm)
      simp only [reprogrammed, hst, beq_iff_eq, hoff, if_false]
      cases s.hbPart (zoneOf i) <;> rfl
  | resetHeld | ignore | paused =>
    refine (hself.symm.trans (hstep ?_).symm)
    simp only [reprogrammed, hst]

/-- Every socket of a zone whose assigned program changed, and the rest of the state (R148). -/
theorem hbZoneProgramChange_eq (z : ZoneId) (s : State) :
    hbZoneProgramChange z s = { s with sockets := (hbZoneProgramChange z s).sockets } ∧
    ∀ i, (hbZoneProgramChange z s).sock i = if zoneOf i = z then
      { s.sock i with live := reprogrammed (s.hbPart z) s.nowMs (s.run.state == .active) (s.sock i) } else s.sock i := by
  have hloop : hbZoneProgramChange z s = forEach (zoneSockets z) (fun i => modSock i fun k =>
      { k with live := reprogrammed (s.hbPart (zoneOf i)) s.nowMs (s.run.state == .active) k }) s :=
    forEach_sock_of hbProgramChange_eq (fun _ _ _ => rfl) _ _
  rw [hloop]
  refine ⟨forEach_modSock_frame _ _ s, fun i => ?_⟩
  rw [forEach_zoneSockets_sock]
  split
  · rename_i hz; subst hz; rfl
  · rfl

/-! ## A program assigned at once (R119) -/

/-- The idle word of a choice of program (R101). -/
def wordOf (s : State) : ProgSel → BitVec 16
  | .noProgram => 0
  | .slot k => ((s.program k).map (·.idleWord)).getD 0

/-- The heartbeat part of a choice of program (R138). -/
def partOf (s : State) : ProgSel → Option HbPart
  | .noProgram => none
  | .slot k => (s.program k).bind (·.hb)

section
variable {z : ZoneId} {e : ProgSel} {s : State}

theorem assigned_program (h : (s.zone z).seq.assigned = some e) :
    s.idleWord z = wordOf s e ∧ s.hbPart z = partOf s e := by
  unfold State.idleWord State.hbPart State.zoneProgram State.assignedSlot
  rw [h]
  cases e <;> exact ⟨rfl, rfl⟩

/-- A state that differs from another in its sockets alone. -/
theorem only_sockets {t u : State} {k : Vector Socket 32} (h : t = { u with sockets := k }) : t.zones = u.zones ∧
    t.run = u.run ∧ t.link = u.link ∧ t.notices = u.notices ∧ t.straps = u.straps ∧ t.now = u.now ∧
    t.freeDraws = u.freeDraws ∧ t.pending = u.pending := by
  subst h
  exact ⟨rfl, rfl, rfl, rfl, rfl, rfl, rfl, rfl⟩

/-- The zone after the program became its assigned one at once. -/
theorem assignNow_zone (z : ZoneId) (e : ProgSel) (s : State) : assignNow z e s =
    { modSeq z (fun q => { q with assigned := some e, staged := none }) s with
      sockets := (assignNow z e s).sockets } :=
  (hbZoneProgramChange_eq z (modSeq z (fun q => { q with assigned := some e, staged := none }) s)).1

theorem assignNow_zone_ne {y : ZoneId} (hy : y ≠ z) (e : ProgSel) (s : State) : (assignNow z e s).zone y = s.zone y := by
  obtain ⟨h, -⟩ := only_sockets (assignNow_zone z e s)
  unfold State.zone
  rw [h]
  exact modZone_zone_ne hy _ s

theorem assignNow_seq (z : ZoneId) (e : ProgSel) (s : State) :
    ((assignNow z e s).zone z).seq = { (s.zone z).seq with assigned := some e, staged := none } := by
  unfold assignNow
  rw [(hbZoneProgramChange_touches z _).seq, modSeq_seq_self]

theorem assignNow_sock (z : ZoneId) (e : ProgSel) (s : State) (i : SocketId) : (assignNow z e s).sock i =
    if zoneOf i = z then { s.sock i with live := reprogrammed (partOf s e) s.nowMs (s.run.state == .active) (s.sock i) }
    else s.sock i := by
  have h := (hbZoneProgramChange_eq z (modSeq z (fun q => { q with assigned := some e, staged := none }) s)).2 i
  rw [(assigned_program (s := modSeq z (fun q => { q with assigned := some e, staged := none }) s) (e := e)
    (by rw [modSeq_seq_self])).2] at h
  exact h

/-- What the zone's move under the new program leaves: its record, and what stands of the rest. -/
structure Placed (z : ZoneId) (st : SeqState) (w : BitVec 16) (s t : State) : Prop where
  work : ZoneWork z s t
  sockets : t.sockets = s.sockets
  state : (t.zone z).seq.state = st
  drive : (t.zone z).seq.drive = w
  assigned : (t.zone z).seq.assigned = (s.zone z).seq.assigned
  staged : (t.zone z).seq.staged = (s.zone z).seq.staged
  halt : (t.zone z).seq.halt = (s.zone z).seq.halt
  passNo : (t.zone z).seq.passNo = (s.zone z).seq.passNo

/-- The whole state after a program was assigned at once and the zone moved. -/
theorem Placed.rest {st : SeqState} {w : BitVec 16} {t : State} (h : Placed z st w (assignNow z e s) t) :
    t = { s with sockets := t.sockets, zones := t.zones, store := t.store } := by
  refine h.work.rest.trans ?_
  obtain ⟨-, hrun, hlink, hnotices, hstraps, hnow, hdraws, hpending⟩ := only_sockets (assignNow_zone z e s)
  rw [hrun, hlink, hnotices, hstraps, hnow, hdraws, hpending]
  rfl

theorem enterHeld_placed (z : ZoneId) (s : State) : Placed z .held (s.idleWord z) s (enterHeld z s) := by
  have h := enterHeld_seq z s
  exact ⟨.enterHeld z s, rfl, by rw [h], by rw [h], by rw [h]; rfl, by rw [h]; rfl, by rw [h]; rfl, by rw [h]; rfl⟩

theorem enterStatic_placed (z : ZoneId) (s : State) : Placed z .static 0 s (enterStatic z s) := by
  have h := enterStatic_seq z s
  exact ⟨.enterStatic z s, enterStatic_sockets z s, by rw [h], by rw [h], by rw [h]; rfl, by rw [h]; rfl, by rw [h]; rfl,
    by rw [h]; rfl⟩

theorem enterPriming_placed (ha : (s.zone z).seq.bufA = .empty) (hb : (s.zone z).seq.bufB = .empty) :
    Placed z .priming (s.idleWord z) s (enterPriming z s) := by
  have h : _ = _ := enterPriming_seq_of_empty ha hb
  refine ⟨.enterPriming z s, ?_, by rw [h], by rw [h], by rw [h], by rw [h], by rw [h], by rw [h]⟩
  rw [enterPriming_of_empty ha hb, fetchWanted_sockets]
  rfl

/-- The state that a zone moves to under a program that is taken at once (R119). -/
def placeUnder (held : Bool) (st : SeqState) (e : ProgSel) : SeqState :=
  if held then if st = .static ∧ e = .noProgram then .static else .held
  else if e = .noProgram then .static else .priming

/-- A zone in HALTED, STATIC or HELD takes the program and moves as the table of R119 gives. -/
theorem assignStarted_placed (hst : (s.zone z).seq.state = .halted ∨ (s.zone z).seq.state = .static ∨
      ((s.zone z).seq.state = .held ∧ s.run.state = .held))
    (ha : (s.zone z).seq.bufA = .empty) (hb : (s.zone z).seq.bufB = .empty) :
    Placed z (placeUnder (s.run.state == .held) (s.zone z).seq.state e) (wordOf s e) (assignNow z e s)
      (assignStarted z e s) := by
  have hseq := assignNow_seq z e s
  have hword : (assignNow z e s).idleWord z = wordOf s e := by
    rw [(assigned_program (e := e) (by rw [hseq])).1]
    unfold wordOf
    simp only [(assignNow_touches z e s).program]
  have hheld : Placed z .held (wordOf s e) (assignNow z e s) (enterHeld z (assignNow z e s)) := by
    rw [← hword]; exact enterHeld_placed z _
  have hprime : Placed z .priming (wordOf s e) (assignNow z e s) (enterPriming z (assignNow z e s)) := by
    rw [← hword]; exact enterPriming_placed (by rw [hseq]; exact ha) (by rw [hseq]; exact hb)
  have hstatic : e = .noProgram → Placed z .static (wordOf s e) (assignNow z e s) (enterStatic z (assignNow z e s)) := by
    rintro rfl; exact enterStatic_placed z _
  unfold assignStarted placeUnder
  obtain hst | hst | ⟨hst, hr⟩ := hst
  · rw [hst]
    by_cases hr : s.run.state = .held
    · simp only [hr, beq_self_eq_true, if_true]
      exact hheld
    · simp only [hr, beq_iff_eq, if_false]
      split
      · rename_i he; exact hstatic he
      · exact hprime
  · rw [hst]
    by_cases he : e = .noProgram
    · simp only [he, if_true, and_self, ite_self]
      exact he ▸ hstatic he
    · by_cases hr : s.run.state = .held
      · simp only [hr, he, beq_self_eq_true, if_true, if_false, and_false]
        exact hheld
      · simp only [hr, he, beq_iff_eq, if_false]
        exact hprime
  · rw [hst, hr]
    simp only [beq_self_eq_true, if_true]
    exact hheld

end

/-! ## The request (R118) -/

section
variable {f : Frame} {s : State} {r : RunRecord} {z : ZoneId} {e : ProgSel}

/-- ZONE-PROGRAM for a zone in the run that is not DONE, naming no empty slot, is accepted. -/
theorem opZoneProgram_accepts {u : State} (hrun : u.run.state = .ready ∨ u.started = true) (hr : u.run.record = some r)
    (hz : zoneDeclared r.declared z = true) (hnd : (u.zone z).seq.state ≠ .done)
    (hdef : ∀ k, e = .slot k → (u.program k).isSome = true) :
    opZoneProgram [BitVec.ofNat 8 z.val, e.code] u = done false (assignProgram z e u)
      [progCode ((assignProgram z e u).zone z).seq.assigned, progCode ((assignProgram z e u).zone z).seq.staged] := by
  have harg : zoneArg [BitVec.ofNat 8 z.val, e.code] 0 = some z := zoneArg_of_eq (toNat_ofNat_zone z)
  have hprog : progOf (([BitVec.ofNat 8 z.val, e.code] : List Byte).getD 1 0) = some e := progOf_code e
  have hin : u.zoneInRun z = true := by unfold State.zoneInRun; rw [hr]; exact hz
  have hsel : u.selDefined e = true := by
    cases e with
    | noProgram => rfl
    | slot k => exact hdef k rfl
  have hst : ¬ (u.run.state ≠ .ready ∧ u.started = false) := by
    rintro ⟨h1, h2⟩
    rcases hrun with h | h
    · exact h1 h
    · rw [h2] at h; cases h
  unfold opZoneProgram
  rw [fixedLen_of_length (n := 2) (p := [BitVec.ofNat 8 z.val, e.code]) rfl]
  simp only [if_neg hst, harg, hprog, hin, hnd, hsel, or_false, Bool.true_eq_false, if_false]

theorem opZoneProgram_done {u : State} (hrun : u.started = true) (hd : (u.zone z).seq.state = .done) :
    opZoneProgram [BitVec.ofNat 8 z.val, e.code] u = refuse .wrongState u := by
  have harg : zoneArg [BitVec.ofNat 8 z.val, e.code] 0 = some z := zoneArg_of_eq (toNat_ofNat_zone z)
  have hprog : progOf (([BitVec.ofNat 8 z.val, e.code] : List Byte).getD 1 0) = some e := progOf_code e
  unfold opZoneProgram
  rw [fixedLen_of_length (n := 2) (p := [BitVec.ofNat 8 z.val, e.code]) rfl]
  simp only [hrun, harg, hprog, hd, or_true, and_false, Bool.true_eq_false, if_false, if_true]

end

/-- Settles O36, by the run's and the zone's state. -/
theorem zoneProgramAssigns : Obligations.ZoneProgramAssigns := by
  unfold Obligations.ZoneProgramAssigns
  intro f s r z e ha hp hr hz hdef q part
  have hpart : part = partOf s e := by cases e <;> rfl
  have hop := fun (hrun : s.run.state = .ready ∨ s.started = true) (hnd : (s.zone z).seq.state ≠ .done) =>
    opZoneProgram_accepts (u := received s) (z := z) (e := e) hrun hr hz hnd hdef
  rw [← hp] at hop
  refine ⟨fun hst hnd => ?_, fun hst => ⟨fun hq => ?_, fun hq => ?_, fun hq hbA hbB => ?_⟩⟩
  · have hready : assignProgram z e (received s) = assignReady z e (received s) := if_pos hst
    have hseq : ((assignReady z e (received s)).zone z).seq = { q with assigned := some e } :=
      modSeq_seq_self z (fun q => { q with assigned := some e }) (received s)
    have h := hop (.inl hst) hnd
    rw [hready, hseq] at h
    refine (execFrame_answers ha h rfl).trans ?_
    unfold assignReady modRun
    simp only [show (modSeq z (fun q => { q with assigned := some e }) (received s)).run.record = some r from hr,
      Option.map_some]
    rfl
  · have hstage : assignProgram z e (received s) = modSeq z (fun q => { q with staged := some e }) (received s) := by
      refine (if_neg ?_).trans ?_
      · rw [received_run]; rcases hst with h | h <;> rw [h] <;> decide
      · unfold assignStarted
        rw [received_zone]
        rcases hq with h | h | h | h <;> rw [h]
    have h := hop (.inr ((started_iff s).mpr hst)) (by rcases hq with h | h | h | h <;> rw [h] <;> decide)
    rw [hstage, modSeq_seq_self] at h
    exact execFrame_answers ha h rfl
  · refine execFrame_refuses ha ?_
    rw [hp]
    exact opZoneProgram_done ((started_iff s).mpr hst) hq
  · have hnow : assignProgram z e (received s) = assignStarted z e (received s) := by
      refine if_neg ?_
      rw [received_run]; rcases hst with h | h <;> rw [h] <;> decide
    have h := hop (.inr ((started_iff s).mpr hst)) (by rcases hq with h | h | ⟨h, -⟩ <;> rw [h] <;> decide)
    have hplaced := assignStarted_placed (s := received s) (z := z) (e := e) hq hbA hbB
    have hseq := assignNow_seq z e (received s)
    have hto := assignNow_touches z e (received s)
    have hassigned : ((assignStarted z e (received s)).zone z).seq.assigned = some e := by
      rw [hplaced.assigned, hseq]
    have hstaged : ((assignStarted z e (received s)).zone z).seq.staged = none := by
      rw [hplaced.staged, hseq]
    rw [hnow, hassigned, hstaged] at h
    have hlink : (assignStarted z e (received s)).link = (received s).link := by
      rw [hplaced.work.link, hto.link]
    have hsock : ∀ i, (assignStarted z e (received s)).sock i = (assignNow z e (received s)).sock i := fun i => by
      unfold State.sock; rw [hplaced.sockets]
    refine ⟨_, execFrame_answers ha h hlink, ?_, hassigned, hstaged, ?_, ?_, ?_, ?_, fun y hy => ?_, fun i hi => ?_,
      fun i hi => ?_, ?_, ?_, ?_, ?_⟩
    · rw [hplaced.rest]
      rfl
    · exact hplaced.halt.trans (by rw [hseq]; rfl)
    · exact hplaced.passNo.trans (by rw [hseq]; rfl)
    · refine hplaced.state.trans ?_
      unfold placeUnder
      simp only [beq_iff_eq]
      rfl
    · refine hplaced.drive.trans ?_
      cases e <;> rfl
    · exact (hplaced.work.other y hy).trans (assignNow_zone_ne hy e (received s))
    · refine (hsock i).trans ?_
      rw [assignNow_sock, if_neg hi]
      rfl
    · refine (hsock i).trans ?_
      rw [assignNow_sock, if_pos hi, hpart]
      unfold reprogrammed
      simp only [beq_iff_eq]
      rfl
    · exact hplaced.work.mem.trans hto.mem
    · exact hplaced.work.pages.trans hto.pages
    · exact hplaced.work.programs.trans hto.programs
    · exact hplaced.work.staging.trans hto.staging

end Sys2Proof.Proofs.Sequencing

/-! The hold of a run: its zones and its heartbeats (R115, R147), and RUN-PAUSE (R12, R13). -/

namespace Sys2Proof.Proofs.Sequencing

open Sys2Proof.Machine Sys2Proof.Safety Sys2Proof.Proofs.Frames Sys2Proof.Proofs.Requests Sys2Proof.Proofs.PatternStore
  Sys2Proof.Proofs.Records Sys2Proof.Proofs.Settings Sys2Proof.Proofs.Reports

/-! ## A zone under a hold (R115) -/

/-- A zone's record after a hold, `w` the idle word of its program: a pass is cut and counted void. -/
def heldZone (w : BitVec 16) (k : Zone) : Zone :=
  match k.seq.state with
  | .playing | .stalled => { k with
      seq := { k.seq with
        state := .held, bufA := .empty, bufB := .empty, next := none, gapTimer := none, drive := w,
        void := some (k.seq.void.getD .hold), voidCount := min 4294967295 (k.seq.voidCount + 1) }
      chk := { k.chk with opened := false } }
  | .priming | .gap => { k with
      seq := { k.seq with state := .held, bufA := .empty, bufB := .empty, next := none, gapTimer := none, drive := w } }
  | .idle | .static | .held | .halted | .done => k

/-- The lanes after the hold was told to a zone: a pass that it cuts sends its PASS-VOID notice. -/
def holdTold (s : State) (q : NoticeQueue) (z : ZoneId) : NoticeQueue :=
  if (s.zone z).seq.state.inPass then
    routineAfter ⟨.zone z, s.run.clock, .passVoid (s.zone z).seq.passNo ((s.zone z).seq.void.getD .hold)⟩ q else q

/-- A socket record whose checked flag is cleared where the pass of its zone is cut. -/
def uncheckedIf (cut : Bool) (k : Socket) : Socket :=
  { k with pass := if cut then { k.pass with checked := false } else k.pass }

theorem uncheckedIf_false (k : Socket) : uncheckedIf false k = k := rfl

theorem closePass_eq (z : ZoneId) (s : State) :
    closePass z s = { modChk z (fun c => { c with opened := false }) s with sockets := (closePass z s).sockets } ∧
    ∀ i, (closePass z s).sock i = if zoneOf i = z then uncheckedIf true (s.sock i) else s.sock i :=
  ⟨forEach_modSock_frame (fun _ k => { k with pass := { k.pass with checked := false } }) _ _,
    forEach_zoneSockets_sock (fun _ k => { k with pass := { k.pass with checked := false } }) z _⟩

/-- The idle word and the heartbeat part of a zone follow its assigned program and the program slots alone. -/
theorem program_congr {z : ZoneId} {s t : State} (ha : (t.zone z).seq.assigned = (s.zone z).seq.assigned)
    (hp : t.store.programs = s.store.programs) : t.idleWord z = s.idleWord z ∧ t.hbPart z = s.hbPart z := by
  unfold State.idleWord State.hbPart State.zoneProgram State.assignedSlot State.program
  rw [ha, hp]
  exact ⟨rfl, rfl⟩

/-- A zone's record after the hold cut its pass. -/
def cutZone (k : Zone) : Zone := { k with
  seq := { k.seq with void := some (k.seq.void.getD .hold), voidCount := min 4294967295 (k.seq.voidCount + 1) }
  chk := { k.chk with opened := false } }

/-- A pass cut by a hold. -/
theorem cutByHold_eq (z : ZoneId) (s : State) : cutByHold z s = { s with
      sockets := (cutByHold z s).sockets
      zones := s.zones.set z (cutZone (s.zone z))
      notices := routineAfter ⟨.zone z, s.run.clock, .passVoid (s.zone z).seq.passNo ((s.zone z).seq.void.getD .hold)⟩
        s.notices } ∧
    ∀ i, (cutByHold z s).sock i = if zoneOf i = z then uncheckedIf true (s.sock i) else s.sock i := by
  let u := modSeq z (fun q => { q.countVoid with void := some (q.void.getD .hold) }) s
  have hseq : (u.zone z).seq = { (s.zone z).seq.countVoid with void := some ((s.zone z).seq.void.getD .hold) } :=
    modSeq_seq_self z _ s
  obtain ⟨hclose, hsock⟩ := closePass_eq z (passVoidNotice z u)
  refine ⟨hclose.trans ?_, hsock⟩
  have hmod : modChk z (fun c => { c with opened := false }) (passVoidNotice z u) = { s with
      zones := s.zones.set z (cutZone (s.zone z))
      notices := (passVoidNotice z u).notices } := by
    have hz : modChk z (fun c => { c with opened := false }) u = modZone z cutZone s := modZone_modZone z _ _ s
    have hu : modChk z (fun c => { c with opened := false }) (passVoidNotice z u) =
        { modChk z (fun c => { c with opened := false }) u with notices := (passVoidNotice z u).notices } := rfl
    rw [hu, hz]
    rfl
  have hn : (passVoidNotice z u).notices = routineAfter
      ⟨.zone z, s.run.clock, .passVoid (s.zone z).seq.passNo ((s.zone z).seq.void.getD .hold)⟩ s.notices := by
    unfold passVoidNotice
    rw [sendRoutine_eq, hseq]
    rfl
  rw [hmod, hn]
  rfl

/-- A hold told to a zone (R115). -/
theorem zoneHold_eq (z : ZoneId) (s : State) : zoneHold z s = { s with
      sockets := (zoneHold z s).sockets
      zones := s.zones.set z (heldZone (s.idleWord z) (s.zone z))
      notices := holdTold s s.notices z } ∧
    ∀ i, (zoneHold z s).sock i = uncheckedIf (decide (zoneOf i = z) && (s.zone z).seq.state.inPass) (s.sock i) := by
  have hsame : s.zones.set z (s.zone z) = s.zones := by unfold State.zone; simp
  have hcut : (s.zone z).seq.state.inPass = true → heldZone (s.idleWord z) (s.zone z) = { cutZone (s.zone z) with
        seq := { (cutZone (s.zone z)).seq.emptied with state := .held, gapTimer := none, drive := s.idleWord z } } →
      enterHeld z (cutByHold z s) = { s with
        sockets := (enterHeld z (cutByHold z s)).sockets
        zones := s.zones.set z (heldZone (s.idleWord z) (s.zone z))
        notices := holdTold s s.notices z } ∧
      ∀ i, (enterHeld z (cutByHold z s)).sock i =
        uncheckedIf (decide (zoneOf i = z) && (s.zone z).seq.state.inPass) (s.sock i) := by
    intro hp hheld
    obtain ⟨h, hsock⟩ := cutByHold_eq z s
    have hzone : (cutByHold z s).zone z = cutZone (s.zone z) := by
      rw [h]
      unfold State.zone
      simp
    have hword : (cutByHold z s).idleWord z = s.idleWord z :=
      (program_congr (by rw [hzone]; rfl) (by rw [h])).1
    refine ⟨?_, fun i => ?_⟩
    · unfold enterHeld modSeq modZone
      rw [hzone, hword, hheld, h]
      unfold holdTold
      rw [if_pos hp]
      simp
    · rw [hp]
      refine (hsock i).trans ?_
      by_cases hi : zoneOf i = z
      · rw [if_pos hi]; simp [hi]
      · rw [if_neg hi]; simp [hi, uncheckedIf_false]
  have hstay : (s.zone z).seq.state.inPass = false → heldZone (s.idleWord z) (s.zone z) = s.zone z →
      s = { s with zones := s.zones.set z (heldZone (s.idleWord z) (s.zone z)), notices := holdTold s s.notices z } ∧
      ∀ i, s.sock i = uncheckedIf (decide (zoneOf i = z) && (s.zone z).seq.state.inPass) (s.sock i) := by
    intro hp hheld
    refine ⟨?_, fun i => by rw [hp, Bool.and_false, uncheckedIf_false]⟩
    unfold holdTold
    rw [hheld, hsame, hp]
    rfl
  have hempty : (s.zone z).seq.state.inPass = false → heldZone (s.idleWord z) (s.zone z) = { s.zone z with
        seq := { (s.zone z).seq.emptied with state := .held, gapTimer := none, drive := s.idleWord z } } →
      enterHeld z s = { s with zones := s.zones.set z (heldZone (s.idleWord z) (s.zone z))
                               notices := holdTold s s.notices z } ∧
      ∀ i, (enterHeld z s).sock i =
        uncheckedIf (decide (zoneOf i = z) && (s.zone z).seq.state.inPass) (s.sock i) := by
    intro hp hheld
    refine ⟨?_, fun i => by rw [hp, Bool.and_false, uncheckedIf_false]; rfl⟩
    unfold holdTold
    rw [hheld, hp]
    rfl
  unfold zoneHold
  cases hst : (s.zone z).seq.state with
  | playing | stalled =>
    simp only [hst] at hcut
    exact hcut rfl (by unfold heldZone; rw [hst]; rfl)
  | priming | gap =>
    simp only [hst] at hempty
    exact hempty rfl (by unfold heldZone; rw [hst]; rfl)
  | idle | static | held | halted | done =>
    simp only [hst] at hstay
    exact hstay rfl (by unfold heldZone; rw [hst])

/-- The hold told to the zones of a list, one after the other. -/
theorem forEach_zoneHold : ∀ (l : List ZoneId), l.Nodup → ∀ s, forEach l zoneHold s = { s with
      sockets := (forEach l zoneHold s).sockets
      zones := (forEach l zoneHold s).zones
      notices := l.foldl (holdTold s) s.notices } ∧
    (∀ z, (forEach l zoneHold s).zone z = if z ∈ l then heldZone (s.idleWord z) (s.zone z) else s.zone z) ∧
    ∀ i, (forEach l zoneHold s).sock i =
      uncheckedIf (decide (zoneOf i ∈ l) && (s.zone (zoneOf i)).seq.state.inPass) (s.sock i) := by
  intro l
  induction l with
  | nil => intro _ s; exact ⟨rfl, fun z => by simp, fun i => by simp [uncheckedIf_false]⟩
  | cons a l ih =>
    intro hl s
    obtain ⟨ha, hl⟩ := List.nodup_cons.mp hl
    obtain ⟨hstep, hsock⟩ := zoneHold_eq a s
    obtain ⟨hrest, hzones, hsocks⟩ := ih hl (zoneHold a s)
    have hself : (zoneHold a s).zone a = heldZone (s.idleWord a) (s.zone a) := by
      rw [hstep]; unfold State.zone; simp
    have hother : ∀ z ≠ a, (zoneHold a s).zone z = s.zone z := fun z hz => by
      rw [hstep]; unfold State.zone; simp [Fin.val_ne_of_ne hz.symm]
    have hword : ∀ z ≠ a, (zoneHold a s).idleWord z = s.idleWord z := fun z hz =>
      (program_congr (by rw [hother z hz]) (by rw [hstep])).1
    rw [forEach_cons]
    refine ⟨?_, fun z => ?_, fun i => ?_⟩
    · have hfold : l.foldl (holdTold (zoneHold a s)) (zoneHold a s).notices = (a :: l).foldl (holdTold s) s.notices := by
        have hn : (zoneHold a s).notices = holdTold s s.notices a := by rw [hstep]
        rw [List.foldl_cons, hn]
        refine List.foldl_ext _ _ _ fun q z hz => ?_
        unfold holdTold
        rw [hother z (by rintro rfl; exact ha hz), show (zoneHold a s).run = s.run by rw [hstep]]
      rw [← hfold]
      refine hrest.trans ?_
      generalize forEach l zoneHold (zoneHold a s) = u
      generalize List.foldl (holdTold (zoneHold a s)) (zoneHold a s).notices l = q
      rw [hstep]
    · rw [hzones]
      by_cases hz : z = a
      · subst hz; simp [ha, hself]
      · rw [hother z hz, hword z hz]; simp [hz]
    · rw [hsocks, hsock]
      by_cases hz : zoneOf i = a
      · simp [hz, ha, uncheckedIf_false]
      · rw [hother _ hz]; simp [hz, uncheckedIf_false]

/-! ## The heartbeats under a hold (R147) -/

/-- A liveness part after a hold: supervision pauses, and a cycle cut in RESET-HELD is owed. -/
def pausedLive (l : Liveness) : Liveness :=
  match l.state with
  | .resetHeld => { l with state := .paused, timer := none, owed := true }
  | .ignore | .waitFirst | .watch => { l with state := .paused, timer := none }
  | .idle | .paused => l

theorem hbHold_eq (i : SocketId) (s : State) : hbHold i s = modSock i (fun k => { k with live := pausedLive k.live }) s := by
  unfold hbHold
  cases hst : (s.sock i).live.state with
  | resetHeld =>
    refine (modLive_modLive i _ _ s).trans (modSock_congr ?_)
    unfold pausedLive
    rw [hst]
  | ignore | waitFirst | watch =>
    simp only [stopHb, modLive]
    refine modSock_congr ?_
    unfold pausedLive
    rw [hst]
  | idle | paused =>
    refine (modSock_id ?_).symm
    unfold pausedLive
    rw [hst]

/-- A run that became HELD from ACTIVE, as its zones and heartbeats take it (R13, R115, R147). -/
theorem holdBlocks_eq (s : State) : holdBlocks s = { s with
      sockets := (holdBlocks s).sockets
      zones := (holdBlocks s).zones
      notices := allZones.foldl (holdTold s) s.notices } ∧
    (∀ z, (holdBlocks s).zone z = heldZone (s.idleWord z) (s.zone z)) ∧
    ∀ i, (holdBlocks s).sock i = { uncheckedIf (s.zone (zoneOf i)).seq.state.inPass (s.sock i) with
      live := pausedLive (s.sock i).live } := by
  obtain ⟨hrest, hzones, hsocks⟩ := forEach_zoneHold allZones allZones_nodup s
  have hloop : holdBlocks s = forEach allSockets (fun i => modSock i fun k => { k with live := pausedLive k.live })
      (forEach allZones zoneHold s) := forEach_sock_of (F := fun _ _ k => { k with live := pausedLive k.live })
    hbHold_eq (fun _ _ _ => rfl) _ _
  have hframe := forEach_modSock_frame (fun _ k => { k with live := pausedLive k.live }) allSockets
    (forEach allZones zoneHold s)
  rw [← hloop] at hframe
  refine ⟨?_, fun z => ?_, fun i => ?_⟩
  · obtain ⟨hz, -⟩ := only_sockets hframe
    refine hframe.trans ?_
    rw [hz]
    generalize (holdBlocks s).sockets = k
    generalize forEach allZones zoneHold s = u at hrest
    rw [hrest]
  · unfold State.zone
    rw [(only_sockets hframe).1]
    exact (hzones z).trans (if_pos (mem_allZones z))
  · rw [hloop, forEach_modSock (fun _ k => { k with live := pausedLive k.live }) _ _ allSockets_nodup,
      if_pos (mem_allSockets i), hsocks]
    simp [uncheckedIf]

/-! ## RUN-PAUSE (R12, R13) -/

/-- The notices of a hold, by the zones whose pass it cuts. -/
theorem holdTold_fold (s : State) : allZones.foldl (holdTold s) s.notices =
    ((List.finRange 4).filter fun z => (s.zone z).seq.state.inPass).foldl (fun q z => routineAfter
      ⟨.zone z, s.run.clock, .passVoid (s.zone z).seq.passNo ((s.zone z).seq.void.getD .hold)⟩ q) s.notices := by
  rw [List.foldl_filter]
  rfl

theorem opRunPause_held {s : State} (h : s.run.state = .held) : opRunPause [] s = done false
    (if s.run.holds.host then s
     else runStateNotice false (modRun (fun r => { r with holds := { r.holds with host := true } }) s)) [] := by
  unfold opRunPause
  rw [fixedLen_of_length (n := 0) (p := []) rfl, h]
  exact (apply_ite (fun t => done false t []) _ _ _).symm

theorem opRunPause_refuses {s : State} (ha : s.run.state ≠ .active) (hh : s.run.state ≠ .held) :
    opRunPause [] s = refuse .wrongState s := by
  unfold opRunPause
  rw [fixedLen_of_length (n := 0) (p := []) rfl]
  cases hst : s.run.state with
  | active => exact absurd hst ha
  | held => exact absurd hst hh
  | idle | ready | finished | aborted => rfl

theorem opRunPause_active {s : State} (h : s.run.state = .active) : opRunPause [] s = done false
    (runStateNotice false (holdBlocks (heldAs .held { s.run.holds with host := true } s))) [] := by
  unfold opRunPause
  rw [fixedLen_of_length (n := 0) (p := []) rfl, h]
  rfl

/-- Settles O32, by the run state. -/
theorem runPauseHoldsTheRun : Obligations.RunPauseHoldsTheRun := by
  unfold Obligations.RunPauseHoldsTheRun
  intro f s htaken hp
  refine ⟨fun hst => ?_, fun hna hnh => ?_, fun hst => ?_⟩
  · have hop := (congrArg (opRunPause · (received s)) hp).trans (opRunPause_held (s := received s) hst)
    by_cases hhost : s.run.holds.host = true
    · rw [if_pos (show (received s).run.holds.host = true from hhost)] at hop
      rw [if_pos hhost]
      refine (execFrame_taken htaken (by decide) hop rfl).trans ?_
      have hrun : ({ s.run with holds := { s.run.holds with host := true } } : Run) = s.run := by
        rw [← hhost]
      rw [hrun]
      rfl
    · rw [if_neg (show ¬(received s).run.holds.host = true from hhost), runStateNotice_routine_eq] at hop
      rw [if_neg hhost]
      refine (execFrame_taken htaken (by decide) hop rfl).trans ?_
      simp only [modRun, received_run, hst]
      rfl
  · exact execFrame_taken_refuses htaken (by decide) (by rw [hp]; exact opRunPause_refuses hna hnh)
  · intro cut
    have hop := (congrArg (opRunPause · (received s)) hp).trans (opRunPause_active (s := received s) hst)
    rw [runStateNotice_routine_eq] at hop
    obtain ⟨hrest, hzones, hsocks⟩ :=
      holdBlocks_eq (heldAs .held { (received s).run.holds with host := true } (received s))
    generalize holdBlocks (heldAs .held { (received s).run.holds with host := true } (received s)) = u at *
    have hlink : u.link = (received s).link := by rw [hrest]; rfl
    refine ⟨_, execFrame_taken htaken (by decide) hop hlink, ?_, fun i => ?_, fun z => ?_⟩
    · rw [← holdTold_fold, hrest]
      rfl
    · exact hsocks i
    · refine (hzones z).trans ?_
      show heldZone (s.idleWord z) (s.zone z) = _
      unfold heldZone
      cases (s.zone z).seq.state <;> rfl

end Sys2Proof.Proofs.Sequencing

/-! The watch over the sensors (R50 to R52). -/

namespace Sys2Proof.Proofs.Frames

open Sys2Proof.Machine Sys2Proof.Safety Sys2Proof.Proofs.Requests

/-! ## Blocks that stand -/

section
variable {l : List Piece} {s t : State}

theorem Touches.run (h : Touches l s t) (h1 : Piece.runState.isIn l = false := by rfl)
    (h2 : Piece.record.isIn l = false := by rfl) (h3 : Piece.clock.isIn l = false := by rfl)
    (h4 : Piece.permit.isIn l = false := by rfl) : t.run = s.run := by
  have e1 := h.runState h1
  have e2 := h.holds h1
  have e3 := h.acctTimer h1
  have e4 := h.record h2
  have e5 := h.clock h3
  obtain ⟨e6, e7, e8, e9⟩ := h.permitPart h4
  cases hs : s.run
  cases ht : t.run
  simp_all

theorem Touches.store (h : Touches l s t) (h1 : Piece.mem.isIn l = false := by rfl)
    (h2 : Piece.pages.isIn l = false := by rfl) (h3 : Piece.programs.isIn l = false := by rfl)
    (h4 : Piece.staging.isIn l = false := by rfl) (h5 : Piece.port.isIn l = false := by rfl) : t.store = s.store := by
  have e1 := h.mem h1
  have e2 := h.pages h2
  have e3 := h.programs h3
  have e4 := h.staging h4
  obtain ⟨e5, e6, e7, e8, e9⟩ := h.portPart h5
  cases hs : s.store
  cases ht : t.store
  simp_all

theorem Touches.notices (h : Touches l s t) (h1 : Piece.urgent.isIn l = false := by rfl)
    (h2 : Piece.routine.isIn l = false := by rfl) : t.notices = s.notices := by
  obtain ⟨e1, e2⟩ := h.urgent h1
  obtain ⟨e3, e4⟩ := h.routine h2
  cases hs : s.notices
  cases ht : t.notices
  simp_all

/-- A socket with a cause in its set is down (R30). -/
theorem railDown_of_cause {i : SocketId} {c : Cause} (ht : RailLaws t) (hc : (t.sock i).rail.inhibit.has c = true) :
    RailDown t i := by
  obtain ⟨-, -, h3⟩ := ht
  refine h3 i ?_
  cases c <;> simp_all [Inhibit.has, Inhibit.isEmpty]

end

/-! ## Changes of a set that open no rail -/

/-- What a change of an inhibit set touches that opens no rail. -/
abbrev quietRail : List Piece := closed [.railState, .inhibit, .timers, .queue]

section
variable {f : Inhibit → Inhibit} {i : SocketId} {s : State}

theorem railDown_live (h : RailDown s i) : (s.sock i).rail.state.live = false := by
  rcases h with h | h <;> rw [h] <;> rfl

/-- A change of a set that adds no cause, or whose rail is down, opens no rail. -/
theorem changeInhibitNoGrant_quietly
    (h : (s.sock i).rail.inhibit.adds (f (s.sock i).rail.inhibit) = false ∨ RailDown s i) :
    Touches quietRail s (changeInhibitNoGrant f i s) := by
  have h1 : Touches quietRail s (withInhibit (f (s.sock i).rail.inhibit) i s) :=
    (setInhibit_touches i (fun _ => f (s.sock i).rail.inhibit) s).mono
  have hdemand : Touches quietRail s (demand i (withInhibit (f (s.sock i).rail.inhibit) i s)) := by
    unfold demand
    refine ite_touches (ite_touches (h1.trans ?_) (h1.trans ?_)) h1
    · exact (joinQueue_touches i _).mono
    · exact (setRailState_touches i _ _).mono
  unfold changeInhibitNoGrant
  refine ite_touches_of (fun ha => ?_) fun _ => ite_touches hdemand h1
  rcases h with h | h
  · rw [h] at ha; cases ha
  · rw [if_neg (by simp [railDown_live h])]
    exact h1

theorem changeInhibit_quietly
    (h : (s.sock i).rail.inhibit.adds (f (s.sock i).rail.inhibit) = false ∨ RailDown s i) :
    Touches quietRail s (changeInhibit f i s) :=
  (changeInhibitNoGrant_quietly h).trans (grantSlots_touches _ _).mono

theorem addCause_quietly {c : Cause} (h : RailDown s i) : Touches quietRail s (addCause c i s) :=
  changeInhibit_quietly (.inr h)

theorem put_false_adds (c : Cause) (x : Inhibit) : x.adds (x.put c false) = false := by
  cases c <;> simp [Inhibit.adds, Inhibit.put]

theorem removeCause_quietly {c : Cause} : Touches quietRail s (removeCause c i s) :=
  changeInhibit_quietly (.inl (put_false_adds c _))

theorem addCause_elsewhere (c : Cause) (i : SocketId) (s : State) : Elsewhere granting i s (addCause c i s) :=
  changeInhibit_elsewhere i s _

theorem removeCause_elsewhere (c : Cause) (i : SocketId) (s : State) : Elsewhere granting i s (removeCause c i s) :=
  changeInhibit_elsewhere i s _

theorem recorded_elsewhere (l : List Piece) (i : SocketId) (r : FailRec) (s : State) : Elsewhere l i s (recorded i r s) := by
  rw [recorded_eq]
  exact modSock_elsewhere l i (fun k => { k with acct := k.acct.record r }) s

theorem modTherm_modTherm (i : SocketId) (f g : Thermal → Thermal) (s : State) :
    modTherm i f (modTherm i g s) = modTherm i (fun t => f (g t)) s := modSock_modSock i _ _ s

end

end Sys2Proof.Proofs.Frames

namespace Sys2Proof.Proofs.Readings

open Sys2Proof.Machine Sys2Proof.Safety Sys2Proof.Proofs.Frames Sys2Proof.Proofs.Requests

/-! ## Bad readings (R51, R52) -/

/-- A thermal part after a bad reading, before the fault test. -/
def badRead (t : Thermal) : Thermal := { t with badRun := min 255 (t.badRun + 1), goodRun := 0, answerTimer := none }

theorem badReading_eq (i : SocketId) (s : State) :
    badReading i (modTherm i (fun t => { t with answerTimer := none }) s) = sensorFaultTest i (modTherm i badRead s) := by
  unfold badReading
  rw [modTherm_modTherm]
  rfl

section
variable {s : State} {i : SocketId}

theorem sensorFaultTest_passes (h : (s.sock i).therm.badRun = 0 ∨ (s.sock i).therm.state = .off ∨
      (s.sock i).therm.state = .sensorFault) : sensorFaultTest i (modTherm i badRead s) = modTherm i badRead s := by
  unfold sensorFaultTest
  rw [modTherm_therm_self]
  refine if_neg ?_
  rintro ⟨hst, hrun⟩
  rcases h with h | h | h
  · simp [badRead, h] at hrun
  · simp [badRead, h, ThermalState.control] at hst
  · simp [badRead, h, ThermalState.control] at hst

theorem sensorFaultTest_fails (hrun : 1 ≤ (s.sock i).therm.badRun) (hoff : (s.sock i).therm.state ≠ .off)
    (hfault : (s.sock i).therm.state ≠ .sensorFault) : sensorFaultTest i (modTherm i badRead s) =
      failRecord i .sensorFault (.lastReading (if (s.sock i).therm.goodSince then (s.sock i).therm.reading else none))
        (downCause .sensorFault .sensor i (modTherm i badRead s)) := by
  unfold sensorFaultTest
  rw [modTherm_therm_self]
  refine (if_pos ⟨?_, ?_⟩).trans rfl
  · show ((s.sock i).therm.state).control = true ∨ (s.sock i).therm.state = _ ∨ (s.sock i).therm.state = _
    cases hst : (s.sock i).therm.state with
    | off => exact absurd hst hoff
    | sensorFault => exact absurd hst hfault
    | approach | inband | outband => exact .inl rfl
    | held => exact .inr (.inl rfl)
    | tripped => exact .inr (.inr rfl)
  · show 2 ≤ min 255 ((s.sock i).therm.badRun + 1)
    omega

/-- A record of the board class: told and logged, nothing else (R154). -/
theorem failRecord_board (d : Detail) : failRecord i .sensorFault d s =
    if taking s i = true then recorded i (recordOf s i .sensorFault (s.passStamp (zoneOf i)) .count d) s else s := by
  unfold failRecord
  split
  · rename_i h
    exact recordWith_board h d _
  · rename_i h
    exact recordWith_untaken (by simpa using h) _ _ _ _

/-- What a record of the board class touches. -/
theorem failRecord_board_touches (d : Detail) :
    Touches [.acct, .urgent, .law .limit, .law .accounts] s (failRecord i .sensorFault d s) := by
  rw [failRecord_board]
  exact ite_touches (recorded_touches i _ s) (Touches.refl _ s)

end

/-- What a sensor fault touches (R52). -/
theorem sensorFault_touches {s : State} {i : SocketId} (d : Detail) (hoff : (s.sock i).therm.state ≠ .off) :
    Touches ([.acct, .urgent, .law .limit, .law .accounts, .law .trip, .therm] ++ railWork) (modTherm i badRead s)
      (failRecord i .sensorFault d (downCause .sensorFault .sensor i (modTherm i badRead s))) :=
  (downCause_touches .sensor (.inr rfl) (by rw [modTherm_therm_self]; exact hoff)).comp (failRecord_board_touches d)

/-- The second bad reading in a row (R52). -/
theorem sensor_fault {s : State} {i : SocketId} (hrun : 1 ≤ (s.sock i).therm.badRun)
    (hoff : (s.sock i).therm.state ≠ .off) (hfault : (s.sock i).therm.state ≠ .sensorFault) :
    let k := s.sock i
    let t := sensorFaultTest i (modTherm i badRead s)
    (t.sock i).therm = { badRead k.therm with state := .sensorFault, duty := 0, grant := 0, sat := .none, integral := 0 } ∧
    (t.sock i).rail.inhibit = { k.rail.inhibit with sensor := true } ∧ (RailLaws s → RailDown t i) ∧
    (t.sock i).life = k.life ∧
    (t.sock i).acct = (if (s.run.state = .active ∨ s.run.state = .held) ∧ k.life = .stressing then
        { k.acct with
          total := min 65535 (k.acct.total + 1)
          log := k.acct.log.take 5 ++ [recordOf s i .sensorFault (s.passStamp (zoneOf i)) .count
            (.lastReading (if k.therm.goodSince then k.therm.reading else none))] }
      else k.acct) ∧
    (∀ j, j ≠ i → (t.sock j).life = (s.sock j).life ∧ (t.sock j).therm = (s.sock j).therm ∧
      (t.sock j).live = (s.sock j).live ∧ (t.sock j).acct = (s.sock j).acct) ∧
    (∀ z, (t.zone z).seq = (s.zone z).seq) ∧ t.run = s.run ∧ t.store = s.store ∧ t.link = s.link ∧
    t.now = s.now ∧ t.straps = s.straps ∧ t.freeDraws = s.freeDraws ∧ t.pending = s.pending := by
  intro k t
  have ht : t = _ := sensorFaultTest_fails hrun hoff hfault
  generalize hd : (Detail.lastReading (if (s.sock i).therm.goodSince then (s.sock i).therm.reading else none)) = d at ht
  have h1 := modTherm_touches i badRead s
  have h2 := modTherm_touches i (fun t => { t.cut with state := .sensorFault, integral := 0 }) (modTherm i badRead s)
  have h3 := addCause_touches .sensor i (heaterDown .sensorFault i (modTherm i badRead s))
  have h4 : Touches _ (downCause .sensorFault .sensor i (modTherm i badRead s)) t := ht ▸ failRecord_board_touches d
  have h12 : Touches (closed [.therm]) s (heaterDown .sensorFault i (modTherm i badRead s)) := h1.trans h2
  have h123 : Touches (closed [.therm] ++ railWork) s (downCause .sensorFault .sensor i (modTherm i badRead s)) :=
    h12.comp h3
  have hall : Touches ([.acct, .urgent] ++ closed [.therm, .acct] ++ railWork) s t := h123.comp h4
  have htherm : ∀ j, (t.sock j).therm = if j = i then
      { badRead k.therm with state := .sensorFault, duty := 0, grant := 0, sat := .none, integral := 0 }
      else (s.sock j).therm := fun j => by
    rw [h4.therm j, show (downCause _ _ i _).sock j = (addCause .sensor i _).sock j from rfl, h3.therm j]
    unfold heaterDown
    rw [modTherm_modTherm, modTherm_therm]
    rfl
  have hinh : (t.sock i).rail.inhibit = { k.rail.inhibit with sensor := true } := by
    rw [h4.inhibit i]
    unfold downCause
    rw [addCause_inhibit, if_pos rfl, h12.inhibit i]
    rfl
  have hacct : ∀ j, (t.sock j).acct = if j = i ∧ taking s i = true then
      k.acct.record (recordOf s i .sensorFault (s.passStamp (zoneOf i)) .count d) else (s.sock j).acct := fun j => by
    rw [ht, failRecord_board, Heartbeats.taking_of_touches h123, Heartbeats.recordOf_of_touches h123,
      Heartbeats.passStamp_of_touches h123]
    by_cases htake : taking s i = true
    · rw [if_pos htake, recorded_acct, h123.acct i, h123.acct j]
      simp [htake, k]
    · rw [if_neg htake, h123.acct j, if_neg fun h => htake h.2]
  refine ⟨by rw [htherm, if_pos rfl], hinh, fun hs => ?_, hall.life i, ?_, fun j hj => ⟨hall.life j, ?_, ?_, ?_⟩,
    fun z => hall.seq z, hall.run, hall.store, hall.link, hall.now, hall.straps, hall.draws, hall.pending⟩
  · have hr : RailLaws t := h4.law .rails rfl (h3.law .rails rfl (h12.law .rails rfl hs))
    exact railDown_of_cause (c := .sensor) hr (by rw [hinh]; rfl)
  · rw [hacct]
    by_cases htake : taking s i = true
    · rw [if_pos ⟨rfl, htake⟩, if_pos (taking_iff.mp htake), record_board rfl, ← hd]
    · rw [if_neg fun h => htake h.2, if_neg fun h => htake (taking_iff.mpr h)]
  · rw [htherm, if_neg hj]
  · have h : (t.sock j).live = ((downCause .sensorFault .sensor i (modTherm i badRead s)).sock j).live := h4.live j
    exact h.trans (((addCause_elsewhere .sensor i _).live hj).trans (h12.live j))
  · rw [hacct, if_neg fun h => hj h.1]

/-- Settles O50. -/
theorem sensorsAreWatched : Obligations.SensorsAreWatched := by
  unfold Obligations.SensorsAreWatched
  intro s i k
  refine ⟨rfl, fun hnone => ⟨?_, fun x => ?_⟩, ?_⟩
  · show execSensorTimeout i s = _
    unfold execSensorTimeout
    rw [show (s.sock i).therm.answerTimer = none from hnone]
  · show execSensorAnswer i x s = _
    unfold execSensorAnswer
    rw [show (s.sock i).therm.answerTimer = none from hnone]
  · intro c e htimer hc now bad
    have hexec : exec c s = .next (sensorFaultTest i (modTherm i badRead { s with now := now })) := by
      rw [← badReading_eq]
      rcases hc with rfl | ⟨x, hx, rfl⟩
      · have hnow : now = max s.now e := if_pos rfl
        show execSensorTimeout i s = _
        unfold execSensorTimeout
        rw [show (s.sock i).therm.answerTimer = some e from htimer, hnow]
        rfl
      · have hnow : now = s.now := if_neg (by simp)
        show execSensorAnswer i x s = _
        unfold execSensorAnswer
        rw [show (s.sock i).therm.answerTimer = some e from htimer, hnow]
        simp only
        rw [if_neg (by omega)]
    refine ⟨fun hpass => ?_, fun hrun hoff hfault =>
      ⟨_, hexec, sensor_fault (s := { s with now := now }) hrun hoff hfault⟩⟩
    rw [hexec, sensorFaultTest_passes (s := { s with now := now }) hpass]
    rfl

end Sys2Proof.Proofs.Readings

/-! The heater step (R56 to R64, R72). -/

namespace Sys2Proof.Proofs.Readings

open Sys2Proof.Machine Sys2Proof.Safety Sys2Proof.Proofs.Frames Sys2Proof.Proofs.Requests Sys2Proof.Proofs.Sequencing

/-! ## A good reading as it is stored (R51) -/

/-- A thermal part after a good reading was stored. -/
def goodRead (x : Int) (t : Thermal) : Thermal :=
  { t with reading := some x, goodSince := true, goodRun := min 255 (t.goodRun + 1), badRun := 0, answerTimer := none }

section
variable {s : State} {i : SocketId} {e : Nat} {x : Int} {p : ThermalProfile}

theorem sensorAnswer_good (h : (s.sock i).therm.answerTimer = some e) (hlo : -400 ≤ x) (hhi : x ≤ 2000) :
    exec (.sensorAnswer i x) s = .next (goodReading i x (modTherm i (fun t => { t with answerTimer := none }) s)) := by
  show execSensorAnswer i x s = _
  unfold execSensorAnswer
  rw [h]
  exact congrArg _ (if_pos ⟨hlo, hhi⟩)

theorem storeReading_eq (x : Int) (i : SocketId) (s : State) :
    storeReading i x (modTherm i (fun t => { t with answerTimer := none }) s) = modTherm i (goodRead x) s :=
  modTherm_modTherm i _ _ s

theorem sensorAnswer_handled (h : (s.sock i).therm.answerTimer = some e) (hlo : -400 ≤ x) (hhi : x ≤ 2000)
    (hp : (s.zone (zoneOf i)).thermProf = some p) :
    exec (.sensorAnswer i x) s = .next (handleReading p i x (modTherm i (goodRead x) s)) := by
  rw [sensorAnswer_good h hlo hhi, goodReading_set (s := modTherm i (fun t => { t with answerTimer := none }) s) hp,
    storeReading_eq]

theorem handleReading_control (h : (s.sock i).therm.state = .approach ∨ (s.sock i).therm.state = .inband ∨
      (s.sock i).therm.state = .outband) : handleReading p i x s =
        if p.limit ≤ x then thermalTrip i x s else heaterStep p i x s := by
  unfold handleReading
  rcases h with h | h | h <;> rw [h]

theorem handleReading_held (h : (s.sock i).therm.state = .held) : handleReading p i x s =
    if p.limit ≤ x then thermalTrip i x s else s := by
  unfold handleReading
  rw [h]

theorem handleReading_cool (h : (s.sock i).therm.state = .tripped ∨ (s.sock i).therm.state = .off) :
    handleReading p i x s = coolDown p i x s := by
  unfold handleReading
  rcases h with h | h <;> rw [h]

theorem handleReading_fault (h : (s.sock i).therm.state = .sensorFault) :
    handleReading p i x s = recoveryTest i x (faultTrip p i x s) := by
  unfold handleReading
  rw [h]

/-! ## Tracking (R56, R57) -/

/-- The state in which a step's tracking starts: a target off Teff sends the loop back to APPROACH. -/
def trackFrom (target : Int) (t : Thermal) : ThermalState := if t.teff = target then t.state else .approach

/-- Teff after the step's move toward the target. -/
def trackTeff (p : ThermalProfile) (target : Int) (t : Thermal) : Int :=
  if trackFrom target t ≠ .approach then t.teff
  else if t.teff < target then t.teff + min (p.rampRate : Int) (target - t.teff)
  else t.teff - min (p.rampRate : Int) (t.teff - target)

/-- The band after the step, by the reading's distance from the target. -/
def trackBand (p : ThermalProfile) (target x : Int) (t : Thermal) : ThermalState :=
  match trackFrom target t with
  | .inband => if p.outer < (x - target).natAbs then .outband else .inband
  | .outband => if (x - target).natAbs ≤ p.inner then .inband else .outband
  | _ => if trackTeff p target t = target ∧ (x - target).natAbs ≤ p.inner then .inband else .approach

theorem track_eq (p : ThermalProfile) (x : Int) {t : Thermal}
    (h : t.state = .approach ∨ t.state = .inband ∨ t.state = .outband) : t.track p x =
      { t with state := trackBand p (targetOf p t.trim) x t, teff := trackTeff p (targetOf p t.trim) t } := by
  obtain ⟨st, rd, gs, teff, itg, sat, duty, grant, trim, rating, bad, good, fi, at'⟩ := t
  simp only at h
  simp only [Thermal.track, trackBand, trackTeff, trackFrom, moveTeff]
  generalize targetOf p trim = target
  by_cases ht : teff = target
  · subst ht
    rcases h with rfl | rfl | rfl <;> simp <;> split_ifs <;> rfl
  · rcases h with rfl | rfl | rfl <;> simp [ht] <;> split_ifs <;> rfl

theorem entersBand_iff (p : ThermalProfile) (x : Int) {t : Thermal}
    (h : t.state = .approach ∨ t.state = .inband ∨ t.state = .outband) : t.entersBand p x = true ↔
      trackBand p (targetOf p t.trim) x t = .inband ∧ trackFrom (targetOf p t.trim) t ≠ .inband := by
  unfold Thermal.entersBand
  rw [track_eq p x h]
  unfold trackFrom
  by_cases ht : t.teff = targetOf p t.trim
  · simp [ht]
  · simp [ht]

/-! ## The headroom (R72) -/

theorem headroom_eq (s : State) (i : SocketId) : s.headroom i =
    ((s.zone (zoneOf i)).budget : Int) - s.dutSum (zoneOf i) - (s.grantSum (zoneOf i) - (s.sock i).therm.grant) := by
  have h := grantSum_split i s
  show ((s.zone (zoneOf i)).budget : Int) - s.dutSum (zoneOf i) - _ = _
  omega

/-- The headroom of a step follows the budget, the powers, and the grants of the other sockets. -/
theorem headroom_congr {s t : State} (hb : (t.zone (zoneOf i)).budget = (s.zone (zoneOf i)).budget)
    (hp : ∀ j, (t.sock j).rail.power = (s.sock j).rail.power) (hg : ∀ j ≠ i, (t.sock j).therm.grant = (s.sock j).therm.grant) :
    t.headroom i = s.headroom i := by
  have hothers : (((zoneSockets (zoneOf i)).filter (· != i)).map fun j => (t.sock j).therm.grant) =
      ((zoneSockets (zoneOf i)).filter (· != i)).map fun j => (s.sock j).therm.grant :=
    List.map_congr_left fun j hj => hg j (by simpa using (List.mem_filter.mp hj).2)
  have hsum : t.dutSum (zoneOf i) = s.dutSum (zoneOf i) := by unfold State.dutSum; simp only [hp]
  unfold State.headroom
  simp only [hb, hsum, hothers]

/-! ## The step's tracking, in the state (R57, R59) -/

section
variable {T : Thermal}

/-- What the tracking of a step leaves of the whole state. -/
theorem tracked_leaves (p : ThermalProfile) (i : SocketId) (x : Int) (s : State) :
    Touches (closed [.therm] ++ quietRail) s (tracked p i x s) := by
  have h1 := modTherm_touches i (Thermal.track p x) s
  unfold tracked
  refine ite_touches ?_ h1.mono
  exact h1.comp ((modTherm_touches i _ _).comp removeCause_quietly (n := closed [.therm] ++ quietRail))

theorem tracked_therm (p : ThermalProfile) (i : SocketId) (x : Int) (s : State) (j : SocketId) :
    ((tracked p i x s).sock j).therm = if j = i then { (s.sock i).therm.track p x with
      firstInband := ((s.sock i).therm.track p x).firstInband || (s.sock i).therm.entersBand p x } else (s.sock j).therm := by
  unfold tracked
  split
  · rename_i he
    rw [(removeCold_touches i _).therm j, modTherm_modTherm, modTherm_therm, he, Bool.or_true]
  · rename_i he
    rw [modTherm_therm, Bool.eq_false_iff.mpr he, Bool.or_false]

theorem tracked_inhibit (p : ThermalProfile) (i : SocketId) (x : Int) (s : State) :
    ((tracked p i x s).sock i).rail.inhibit = if (s.sock i).therm.entersBand p x = true
      then { (s.sock i).rail.inhibit with cold := false } else (s.sock i).rail.inhibit := by
  unfold tracked
  split
  · rw [removeCause_inhibit, if_pos rfl, modTherm_modTherm, (modTherm_touches i _ s).inhibit i]
    rfl
  · exact (modTherm_touches i _ s).inhibit i

end

end

/-- Settles O52. -/
theorem heaterStepComputes : Obligations.HeaterStepComputes := by
  unfold Obligations.HeaterStepComputes
  intro s i e x p htimer hlo hhi hp hlim hst
  have hst' : (goodRead x (s.sock i).therm).state = .approach ∨ (goodRead x (s.sock i).therm).state = .inband ∨
    (goodRead x (s.sock i).therm).state = .outband := hst
  intro k z target st teff diff band enters err inc sum raw room cap duty
  have hu : (modTherm i (goodRead x) s).sock i = { k with therm := goodRead x k.therm } := modSock_sock_self ..
  have hexec : exec (.sensorAnswer i x) s =
      .next (heated p i x (tracked p i x (modTherm i (goodRead x) s))) := by
    rw [sensorAnswer_handled htimer hlo hhi hp, handleReading_control (by rw [hu]; exact hst'), if_neg (by omega)]
    rfl
  have hleave := (modTherm_touches i (goodRead x) s).comp (tracked_leaves p i x (modTherm i (goodRead x) s))
    (n := closed [.therm] ++ quietRail)
  have htherm := tracked_therm p i x (modTherm i (goodRead x) s)
  have hinh := tracked_inhibit p i x (modTherm i (goodRead x) s)
  have hthis : tracked p i x (modTherm i (goodRead x) s) =
      if (goodRead x k.therm).entersBand p x = true then tracked p i x (modTherm i (goodRead x) s)
      else modTherm i (fun t => (goodRead x t).track p x) s := by
    split
    · rfl
    · rename_i he
      unfold tracked
      rw [hu, if_neg he, modTherm_modTherm]
  rw [hu] at htherm hinh
  have htrack : (goodRead x k.therm).track p x = { goodRead x k.therm with state := band, teff := teff } :=
    track_eq p x hst'
  have henters : (goodRead x k.therm).entersBand p x = true ↔ enters := entersBand_iff p x hst'
  have hout := modTherm_touches i
    (Thermal.heat p x ((tracked p i x (modTherm i (goodRead x) s)).sock i).rail.power
      ((tracked p i x (modTherm i (goodRead x) s)).headroom i)) (tracked p i x (modTherm i (goodRead x) s))
  have hall : Touches (closed [.therm] ++ quietRail) s (heated p i x (tracked p i x (modTherm i (goodRead x) s))) :=
    hleave.comp hout
  have hroom : (tracked p i x (modTherm i (goodRead x) s)).headroom i = room := by
    refine (headroom_congr (hleave.budget _) (fun j => hleave.power j) fun j hj => ?_).trans (headroom_eq s i)
    rw [htherm, if_neg hj, modTherm_therm, if_neg hj]
  have hpower := hleave.power i
  generalize tracked p i x (modTherm i (goodRead x) s) = v at *
  have hself : ((heated p i x v).sock i).therm = Thermal.heat p x k.rail.power room
      { (goodRead x k.therm).track p x with firstInband := k.therm.firstInband || decide enters } := by
    rw [modTherm_therm, if_pos rfl, hpower, hroom, htherm, if_pos rfl, Bool.eq_iff_iff.mpr (henters.trans decide_eq_true_iff.symm),
      htrack]
    rfl
  refine ⟨_, hexec, ?_, ?_, fun hno => ?_, fun j => ⟨hall.life j, hall.bin j, hall.live j, hall.pass j, hall.acct j⟩,
    fun j hj => ?_, fun y => ⟨hall.seq y, hall.budget y⟩, hall.run, hall.store, hall.link, hall.notices, hall.straps,
    hall.now, hall.draws, hall.pending⟩
  · rw [hself, htrack]
    rfl
  · rw [hout.inhibit i, hinh]
    by_cases he : enters
    · rw [if_pos (henters.mpr he), if_pos he]
    · rw [if_neg fun h => he (henters.mp h), if_neg he]
  · have hv := hthis.trans (if_neg fun h => hno (henters.mp h))
    rw [hself, decide_eq_false hno, Bool.or_false]
    show modTherm i (Thermal.heat p x (v.sock i).rail.power (v.headroom i)) v = _
    rw [hpower, hroom, hv, modTherm_modTherm, htrack]
    refine (modSock_congr (g := fun k' => { k' with
      therm := Thermal.heat p x (s.sock i).rail.power room { goodRead x k.therm with state := band, teff := teff } }) ?_).trans rfl
    exact congrArg (fun h => { s.sock i with therm := Thermal.heat p x (s.sock i).rail.power room h }) htrack
  · rw [modTherm_therm, if_neg hj, htherm, if_neg hj, modTherm_therm, if_neg hj]

end Sys2Proof.Proofs.Readings

/-! A record that counts, and what it does to its socket (R154 to R157); good readings (R51, R53, R65 to R67). -/

namespace Sys2Proof.Proofs.Frames

open Sys2Proof.Machine Sys2Proof.Safety Sys2Proof.Proofs.Requests

/-! ## A socket that retires (R157) -/

section
variable (i : SocketId) (d : Option Deciding) (s : State)

theorem finalEffects_therm (j : SocketId) : ((finalEffects i s).sock j).therm =
    if j = i then heaterOff (s.sock i).therm else (s.sock j).therm := by
  rw [(finalEffects_after i s).therm j]
  unfold finalCut
  rw [thermOff_therm, (addCause_touches .final i s).therm j, (addCause_touches .final i s).therm i]

theorem finalEffects_inhibit (j : SocketId) : ((finalEffects i s).sock j).rail.inhibit =
    if j = i then warm ((s.sock i).rail.inhibit.put .final true) else (s.sock j).rail.inhibit := by
  rw [(finalEffects_after i s).inhibit j]
  unfold finalCut
  rw [thermOff_inhibit, addCause_inhibit, addCause_inhibit, if_pos rfl]
  split
  · rfl
  · rfl

/-- A retired socket's heater is OFF (R157). -/
theorem retire_therm : ((retire i d s).sock i).therm = heaterOff (s.sock i).therm := by
  have h : ((sendUrgent (.socket i) (.retired (d.map (·.kind)))
      (finalEffects i (modSock i (retiredSock d) s))).sock i).therm = heaterOff (s.sock i).therm := by
    rw [(sendUrgent_touches _ _ _).therm i, finalEffects_therm, if_pos rfl, modSock_sock_self]
    rfl
  rw [retire_eq]
  unfold finishTest
  split
  · rw [endRun_therm, h]
    rfl
  · exact h

theorem ended_thermal (i : SocketId) (s : State) (x : Inhibit) : (warm (endInhibit s i x)).thermal = x.thermal := rfl

/-- A retirement leaves THERMAL as it is. -/
theorem retire_thermal : ((retire i d s).sock i).rail.inhibit.thermal = (s.sock i).rail.inhibit.thermal := by
  have h : ((sendUrgent (.socket i) (.retired (d.map (·.kind)))
      (finalEffects i (modSock i (retiredSock d) s))).sock i).rail.inhibit.thermal = (s.sock i).rail.inhibit.thermal := by
    rw [(sendUrgent_touches _ _ _).inhibit i, finalEffects_inhibit, if_pos rfl, modSock_sock_self]
    rfl
  rw [retire_eq]
  unfold finishTest
  split
  · rw [endRun_inhibit, ended_thermal, h]
  · exact h

end

/-! ## Records that count -/

/-- The record about to arrive retires its socket (R156). -/
def lastRecord (s : State) (i : SocketId) (k : FailKind) : Bool :=
  taking s i && (s.dispTaken k == .retire || nextIsLast s i)

/-- The record of kind `k` and detail `d` that would arrive now from a block other than the checker (R152). -/
def recordNow (s : State) (i : SocketId) (k : FailKind) (d : Detail) : FailRec :=
  recordOf s i k (s.passStamp (zoneOf i)) (s.dispTaken k) d

section
variable {s : State} {i : SocketId} {k : FailKind}

theorem failRecord_last (hk : k ≠ .sensorFault) (h : lastRecord s i k = true) (d : Detail) : failRecord i k d s =
    retire i (some ⟨k, min 6 ((s.sock i).acct.log.length + 1)⟩) (recorded i (recordNow s i k d) s) := by
  obtain ⟨ht, hl⟩ := Bool.and_eq_true_iff.mp h
  unfold failRecord
  rw [recordWith_taken ht hk, if_pos (by simpa using hl)]
  rfl

theorem failRecord_taken (hk : k ≠ .sensorFault) (h : lastRecord s i k = false) (ht : taking s i = true) (d : Detail) :
    failRecord i k d s = recorded i (recordNow s i k d) s := by
  unfold lastRecord at h
  rw [ht, Bool.true_and] at h
  unfold failRecord
  rw [recordWith_taken ht hk, if_neg (by simpa using h)]
  rfl

theorem failRecord_untaken (ht : taking s i = false) (d : Detail) : failRecord i k d s = s := recordWith_untaken ht _ _ _ _

theorem taking_of_last (h : lastRecord s i k = true) : taking s i = true := (Bool.and_eq_true_iff.mp h).1

/-- The lifecycle and the accounts of the socket after its record. -/
theorem failRecord_self (hk : k ≠ .sensorFault) (d : Detail) :
    (taking s i = false → ((failRecord i k d s).sock i).life = (s.sock i).life ∧
      ((failRecord i k d s).sock i).acct = (s.sock i).acct) ∧
    (taking s i = true →
      ((failRecord i k d s).sock i).life = (if lastRecord s i k then .retired else .stressing) ∧
      ((failRecord i k d s).sock i).acct = (if lastRecord s i k then
          { counted (s.sock i).acct (recordNow s i k d) with
            deciding := some ⟨k, min 6 ((s.sock i).acct.log.length + 1)⟩, byHost := false }
        else counted (s.sock i).acct (recordNow s i k d))) := by
  refine ⟨fun ht => by rw [failRecord_untaken ht]; exact ⟨rfl, rfl⟩, fun ht => ?_⟩
  by_cases hl : lastRecord s i k = true
  · rw [failRecord_last hk hl, if_pos hl, if_pos hl]
    exact ⟨retire_self.1, retire_recorded_acct hk _⟩
  · rw [failRecord_taken hk (by simpa using hl) ht, if_neg hl, if_neg hl, (recorded_touches i _ s).life i, recorded_acct,
      if_pos rfl, record_counted hk]
    exact ⟨(taking_iff.mp ht).2, rfl⟩

/-- The heater after the record: OFF where it retired the socket. -/
theorem failRecord_therm (hk : k ≠ .sensorFault) (d : Detail) : ((failRecord i k d s).sock i).therm =
    if lastRecord s i k then heaterOff (s.sock i).therm else (s.sock i).therm := by
  by_cases hl : lastRecord s i k = true
  · rw [failRecord_last hk hl, if_pos hl, retire_therm, (recorded_touches i _ s).therm i]
  · rw [if_neg hl]
    by_cases ht : taking s i = true
    · rw [failRecord_taken hk (by simpa using hl) ht]
      exact (recorded_touches i _ s).therm i
    · rw [failRecord_untaken (by simpa using ht)]

theorem failRecord_thermal (hk : k ≠ .sensorFault) (d : Detail) :
    ((failRecord i k d s).sock i).rail.inhibit.thermal = (s.sock i).rail.inhibit.thermal := by
  by_cases hl : lastRecord s i k = true
  · rw [failRecord_last hk hl, retire_thermal, (recorded_touches i _ s).inhibit i]
  · by_cases ht : taking s i = true
    · rw [failRecord_taken hk (by simpa using hl) ht, (recorded_touches i _ s).inhibit i]
    · rw [failRecord_untaken (by simpa using ht)]

theorem failRecord_else (d : Detail) {j : SocketId} (hj : j ≠ i) : ((failRecord i k d s).sock j).life = (s.sock j).life ∧
    ((failRecord i k d s).sock j).acct = (s.sock j).acct := recordWith_else k d _ _ hj

/-- A record that does not retire its socket touches its accounts alone, and is told. -/
theorem failRecord_counts (hk : k ≠ .sensorFault) (d : Detail) (hl : lastRecord s i k = false) :
    Touches [.acct, .urgent, .law .limit, .law .accounts] s (failRecord i k d s) ∧
    (failRecord i k d s).notices = if taking s i then
      urgentAfter ⟨.socket i, s.run.clock, .fail k (min 6 ((s.sock i).acct.log.length + 1))⟩ s.notices else s.notices := by
  by_cases ht : taking s i = true
  · rw [failRecord_taken hk hl ht, if_pos ht]
    exact ⟨recorded_touches i _ s, by rw [recorded_eq]; rfl⟩
  · rw [failRecord_untaken (by simpa using ht), if_neg ht]
    exact ⟨Touches.refl _ s, rfl⟩

/-! ### Where nothing that a record reads has changed -/

theorem lastRecord_of_touches {l : List Piece} {t : State} (h : Touches l s t)
    (h1 : Piece.runState.isIn l = false := by rfl) (h2 : Piece.life.isIn l = false := by rfl)
    (h3 : Piece.record.isIn l = false := by rfl) (h4 : Piece.acct.isIn l = false := by rfl) :
    lastRecord t i k = lastRecord s i k := by
  unfold lastRecord State.dispTaken State.disposition
  rw [Heartbeats.taking_of_touches h h1 h2, Heartbeats.nextIsLast_of_touches h h3 h4, h.record h3]

theorem recordNow_of_touches {l : List Piece} {t : State} (h : Touches l s t) (d : Detail)
    (h1 : Piece.clock.isIn l = false := by rfl) (h2 : Piece.acct.isIn l = false := by rfl)
    (h3 : Piece.record.isIn l = false := by rfl) (h4 : Piece.seq.isIn l = false := by rfl) :
    recordNow t i k d = recordNow s i k d := by
  unfold recordNow State.dispTaken State.disposition
  rw [Heartbeats.recordOf_of_touches h _ _ _ h1 h2, Heartbeats.passStamp_of_touches h _ h4, h.record h3]

end

end Sys2Proof.Proofs.Frames

/-! Good readings (R51, R53, R65 to R67). -/

namespace Sys2Proof.Proofs.Readings

open Sys2Proof.Machine Sys2Proof.Safety Sys2Proof.Proofs.Frames Sys2Proof.Proofs.Requests

/-! ## Cool-down and recovery (R53, R66) -/

/-- A thermal part back under control, or in HELD under a PERMIT hold. -/
def backIn (held : Bool) (x : Int) (t : Thermal) : Thermal :=
  if held then { t with state := .held } else { t with state := .approach, teff := x }

theorem backToControl_eq (x : Int) (i : SocketId) (s : State) :
    backToControl x i s = modTherm i (backIn s.permitHold x) s := by
  unfold backToControl backIn
  cases s.permitHold <;> rfl

/-- What a cool-down or a recovery touches. -/
abbrev coolWork : List Piece := .routine :: (closed [.therm] ++ quietRail)

/-- What a trip touches. -/
abbrev tripWork : List Piece := closed [.therm] ++ retireWork

section
variable {s : State} {i : SocketId} {x : Int} {p : ThermalProfile} {f : Thermal → Thermal}

theorem goodRead_sock (x : Int) (i : SocketId) (s : State) :
    (modTherm i (goodRead x) s).sock i = { s.sock i with therm := goodRead x (s.sock i).therm } := modSock_sock_self ..

/-- The thermal part changed, and a cause let go. -/
theorem let_go (c : Cause) : Touches coolWork s (removeCause c i (modTherm i f s)) ∧
    (removeCause c i (modTherm i f s)).notices = s.notices ∧
    ((removeCause c i (modTherm i f s)).sock i).therm = f (s.sock i).therm ∧
    ((removeCause c i (modTherm i f s)).sock i).rail.inhibit = (s.sock i).rail.inhibit.put c false := by
  have h1 := modTherm_touches i f s
  have h2 : Touches quietRail (modTherm i f s) (removeCause c i (modTherm i f s)) := removeCause_quietly
  refine ⟨h1.comp h2, h2.notices.trans h1.notices, ?_, ?_⟩
  · rw [h2.therm i, modTherm_therm, if_pos rfl]
  · rw [removeCause_inhibit, if_pos rfl, h1.inhibit i]

theorem coolDown_stays (h : p.limit - 100 < x) : coolDown p i x s = s := if_neg (by omega)

theorem coolDown_tripped (h : x ≤ p.limit - 100) (hst : (s.sock i).therm.state = .tripped) :
    coolDown p i x s = removeCause .thermal i (modTherm i (backIn s.permitHold x) s) := by
  unfold coolDown
  rw [if_pos h, if_pos hst, backToControl_eq]

theorem coolDown_off (h : x ≤ p.limit - 100) (hst : (s.sock i).therm.state = .off) :
    coolDown p i x s = removeCause .thermal i s := by
  unfold coolDown
  rw [if_pos h, if_neg (by rw [hst]; decide)]

theorem faultTrip_passes (h : x < p.limit ∨ (s.sock i).rail.inhibit.thermal = true) : faultTrip p i x s = s := by
  refine if_neg ?_
  rintro ⟨h1, h2⟩
  rcases h with h | h
  · omega
  · rw [h] at h2; cases h2

theorem faultTrip_trips (h : p.limit ≤ x) (ht : (s.sock i).rail.inhibit.thermal = false) : faultTrip p i x s =
    failRecord i .thermalTrip (.reading x) (addCause .thermal i s) := if_pos ⟨h, ht⟩

theorem recoveryTest_waits (h : (s.sock i).therm.state ≠ .sensorFault ∨ (s.sock i).therm.goodRun ≠ 4) :
    recoveryTest i x s = s := by
  rw [recoveryTest_eq]
  refine if_neg ?_
  rintro ⟨h1, h2⟩
  exact h.elim (absurd h1) (absurd h2)

/-- A socket that ends its SENSOR-FAULT, as a change of its thermal part. -/
theorem recovered_eq (i : SocketId) (x : Int) (s : State) : recovered i x s = modTherm i (fun t =>
    if (s.sock i).rail.inhibit.thermal then { t with state := .tripped } else backIn s.permitHold x t) s := by
  unfold recovered
  split
  · rfl
  · exact backToControl_eq x i s

/-- The fourth good reading in a row ends a SENSOR-FAULT (R53). -/
theorem recoveryTest_ends (hst : (s.sock i).therm.state = .sensorFault) (hrun : (s.sock i).therm.goodRun = 4) :
    Touches coolWork s (recoveryTest i x s) ∧
    (recoveryTest i x s).notices = routineAfter ⟨.socket i, s.run.clock, .sensorOk x⟩ s.notices ∧
    ((recoveryTest i x s).sock i).therm = (if (s.sock i).rail.inhibit.thermal then { (s.sock i).therm with state := .tripped }
      else backIn s.permitHold x (s.sock i).therm) ∧
    ((recoveryTest i x s).sock i).rail.inhibit = { (s.sock i).rail.inhibit with sensor := false } := by
  rw [recoveryTest_eq, if_pos ⟨hst, hrun⟩, recovered_eq]
  generalize hf : (fun t : Thermal =>
    if (s.sock i).rail.inhibit.thermal then { t with state := .tripped } else backIn s.permitHold x t) = f
  have h1 := modTherm_touches i f s
  have h2 := sendRoutine_touches (.socket i) (.sensorOk x) (modTherm i f s)
  have h3 : Touches quietRail _ (removeCause .sensor i (sendRoutine (.socket i) (.sensorOk x) (modTherm i f s))) :=
    removeCause_quietly
  refine ⟨h1.comp (h2.comp h3 (n := coolWork)), ?_, ?_, ?_⟩
  · rw [h3.notices, Reports.sendRoutine_eq]
    rfl
  · rw [h3.therm i, h2.therm i, modTherm_therm, if_pos rfl, ← hf]
  · rw [removeCause_inhibit, if_pos rfl, h2.inhibit i, h1.inhibit i]
    rfl

/-! ## Trips (R65, R67) -/

theorem downCause_therm (st : ThermalState) (c : Cause) (s : State) (j : SocketId) :
    ((downCause st c i s).sock j).therm =
      if j = i then { (s.sock i).therm.cut with state := st, integral := 0 } else (s.sock j).therm := by
  unfold downCause
  rw [(addCause_touches c i _).therm j]
  exact modTherm_therm i _ s j

end

/-- The other sockets' lifecycles and accounts, and the blocks that no reading reaches. -/
def Aside (i : SocketId) (s t : State) : Prop :=
  (∀ j, j ≠ i → (t.sock j).life = (s.sock j).life ∧ (t.sock j).acct = (s.sock j).acct) ∧
  t.store.mem = s.store.mem ∧ t.store.pages = s.store.pages ∧ t.store.programs = s.store.programs ∧
  t.link = s.link ∧ t.now = s.now ∧ t.straps = s.straps ∧ t.freeDraws = s.freeDraws ∧ t.pending = s.pending

/-- The socket's lifecycle and accounts after a THERMAL-TRIP record of the reading (R65, R156). -/
def TripCounted (i : SocketId) (x : Int) (s t : State) : Prop :=
  let fail := recordNow s i .thermalTrip (.reading x)
  (taking s i = false → (t.sock i).life = (s.sock i).life ∧ (t.sock i).acct = (s.sock i).acct) ∧
  (taking s i = true → (t.sock i).life = (if lastRecord s i .thermalTrip then .retired else .stressing) ∧
    (t.sock i).acct = (if lastRecord s i .thermalTrip then
        { counted (s.sock i).acct fail with
          deciding := some ⟨.thermalTrip, min 6 ((s.sock i).acct.log.length + 1)⟩, byHost := false }
      else counted (s.sock i).acct fail))

section
variable {s t u : State} {i : SocketId} {x : Int} {p : ThermalProfile}

theorem Aside.of_cool (h : Touches coolWork s t) : Aside i s t :=
  ⟨fun j _ => ⟨h.life j, h.acct j⟩, h.mem, h.pages, h.programs, h.link, h.now, h.straps, h.draws, h.pending⟩

theorem Aside.of_trip (h : Touches tripWork s t)
    (helse : ∀ j ≠ i, (t.sock j).life = (s.sock j).life ∧ (t.sock j).acct = (s.sock j).acct) : Aside i s t :=
  ⟨helse, h.mem, h.pages, h.programs, h.link, h.now, h.straps, h.draws, h.pending⟩

/-- A THERMAL-TRIP record after the rails and heaters have moved. -/
theorem trip_record (h : Touches (closed [.therm] ++ railWork) s u) :
    Touches tripWork s (failRecord i .thermalTrip (.reading x) u) ∧
    Aside i s (failRecord i .thermalTrip (.reading x) u) ∧ TripCounted i x s (failRecord i .thermalTrip (.reading x) u) ∧
    ((failRecord i .thermalTrip (.reading x) u).sock i).therm =
      (if lastRecord s i .thermalTrip then heaterOff (u.sock i).therm else (u.sock i).therm) ∧
    ((failRecord i .thermalTrip (.reading x) u).sock i).rail.inhibit.thermal = (u.sock i).rail.inhibit.thermal := by
  have hall : Touches tripWork s (failRecord i .thermalTrip (.reading x) u) := h.comp (failRecord_touches i _ _ u)
  have hlast : lastRecord u i .thermalTrip = lastRecord s i .thermalTrip := lastRecord_of_touches h
  have htaking : taking u i = taking s i := Heartbeats.taking_of_touches h
  obtain ⟨h1, h2⟩ := failRecord_self (s := u) (i := i) (k := .thermalTrip) (by decide) (.reading x)
  rw [htaking, h.life i, h.acct i] at h1
  rw [hlast, htaking, recordNow_of_touches h, h.acct i] at h2
  refine ⟨hall, .of_trip hall fun j hj => ?_, ⟨h1, h2⟩, ?_, failRecord_thermal (by decide) _⟩
  · obtain ⟨h3, h4⟩ := failRecord_else (s := u) (k := .thermalTrip) (.reading x) hj
    exact ⟨h3.trans (h.life j), h4.trans (h.acct j)⟩
  · rw [failRecord_therm (by decide), hlast]

theorem trip_rails (hu : RailLaws s → RailLaws u) (hc : (u.sock i).rail.inhibit.thermal = true) (hs : RailLaws s) :
    RailDown (failRecord i .thermalTrip (.reading x) u) i :=
  railDown_of_cause (c := .thermal) ((failRecord_touches i _ _ u).law .rails rfl (hu hs))
    ((failRecord_thermal (by decide) _).trans hc)

end

/-- Settles O51, by the thermal state that the reading finds. -/
theorem goodReadingsAreHandled : Obligations.GoodReadingsAreHandled := by
  unfold Obligations.GoodReadingsAreHandled
  intro s i e x htimer hlo hhi k z good stored back frame
  have hgood : goodRead x k.therm = good := rfl
  have hstored : modTherm i (goodRead x) s = stored := rfl
  have hback : backIn s.permitHold x good = back := by
    unfold backIn State.permitHold
    simp only [Bool.and_eq_true, beq_iff_eq]
    rfl
  refine ⟨fun hp => ?_, fun p hp => ?_⟩
  · rw [sensorAnswer_good htimer hlo hhi, goodReading_unset (s := modTherm i (fun t => { t with answerTimer := none }) s) hp,
      storeReading_eq, hstored]
  · have hfinal : lastRecord s i .thermalTrip =
        (taking s i && (s.disposition .thermalTrip == .retire || nextIsLast s i)) := rfl
    have hexec := sensorAnswer_handled htimer hlo hhi hp
    have hu := goodRead_sock x i s
    have hu0 := modTherm_touches i (goodRead x) s
    have hst : ((modTherm i (goodRead x) s).sock i).therm.state = k.therm.state := by rw [hu]; rfl
    have hin : ((modTherm i (goodRead x) s).sock i).rail.inhibit = k.rail.inhibit := by rw [hu]
    have hrun : ((modTherm i (goodRead x) s).sock i).therm.goodRun = 4 ↔ k.therm.goodRun = 3 := by
      rw [hu]
      show min 255 (k.therm.goodRun + 1) = 4 ↔ _
      omega
    refine ⟨fun h hx => ?_, fun h hx => ?_, fun h hx => ?_, fun h hx => ?_, fun h hx hn => ?_, fun h hx hn => ?_,
      fun h hx => ?_, fun h hx hth => ?_⟩
    · rw [hexec, handleReading_held (hst.trans h), if_neg (by omega), hstored]
    · rw [hexec, handleReading_cool (h.imp hst.trans hst.trans), coolDown_stays hx, hstored]
    · rw [handleReading_cool (.inl (hst.trans h)), coolDown_tripped hx (hst.trans h)] at hexec
      obtain ⟨h1, h2, h3, h4⟩ := let_go (s := modTherm i (goodRead x) s) (i := i)
        (f := backIn (modTherm i (goodRead x) s).permitHold x) .thermal
      have hall := hu0.comp h1 (n := coolWork)
      refine ⟨_, hexec, ?_, ?_, hall.life i, hall.acct i, hall.run, h2, Aside.of_cool hall⟩
      · rw [h3, hu]; exact hback
      · rw [h4, hin]; rfl
    · rw [handleReading_cool (.inr (hst.trans h)), coolDown_off hx (hst.trans h)] at hexec
      obtain ⟨h1, h2, h3, h4⟩ := let_go (s := s) (i := i) (f := goodRead x) .thermal
      exact ⟨_, hexec, h3, h4, h1.life i, h1.acct i, h1.run, h2, Aside.of_cool h1⟩
    · rw [hexec, handleReading_fault (hst.trans h), faultTrip_passes (hx.imp_right fun g => by rw [hin]; exact g),
        recoveryTest_waits (.inr fun g => hn (hrun.mp g)), hstored]
    · rw [handleReading_fault (hst.trans h), faultTrip_passes (hx.imp_right fun g => by rw [hin]; exact g)] at hexec
      obtain ⟨h1, h2, h3, h4⟩ := recoveryTest_ends (x := x) (hst.trans h) (hrun.mpr hn)
      have hall := hu0.comp h1 (n := coolWork)
      refine ⟨_, hexec, ?_, ?_, hall.life i, hall.acct i, hall.run, h2, Aside.of_cool hall⟩
      · rw [h3, hin, hu, ← hback]; rfl
      · rw [h4, hin]
    · have htrip : handleReading p i x (modTherm i (goodRead x) s) = thermalTrip i x (modTherm i (goodRead x) s) := by
        by_cases hh : k.therm.state = .held
        · rw [handleReading_held (hst.trans hh), if_pos hx]
        · rw [handleReading_control (by rw [hst]; tauto), if_pos hx]
      rw [htrip, thermalTrip_eq] at hexec
      have h2 := modTherm_touches i (fun t => { t.cut with state := .tripped, integral := 0 }) (modTherm i (goodRead x) s)
      have h3 := addCause_touches .thermal i (heaterDown .tripped i (modTherm i (goodRead x) s))
      have hu2 : Touches (closed [.therm] ++ railWork) s (downCause .tripped .thermal i (modTherm i (goodRead x) s)) :=
        hu0.comp (h2.comp h3 (n := closed [.therm] ++ railWork))
      have hcause : ((downCause .tripped .thermal i (modTherm i (goodRead x) s)).sock i).rail.inhibit.thermal = true := by
        unfold downCause
        rw [addCause_inhibit, if_pos rfl]
        rfl
      obtain ⟨-, haside, ⟨hc1, hc2⟩, htherm, hthermal⟩ := trip_record (i := i) (x := x) hu2
      refine ⟨_, hexec, ?_, hthermal.trans hcause, trip_rails (hu2.law .rails rfl) hcause, hc1, hc2, haside⟩
      rw [htherm, downCause_therm, if_pos rfl, hu, hgood, ← hfinal]
      cases lastRecord s i .thermalTrip <;> rfl
    · rw [handleReading_fault (hst.trans h), faultTrip_trips hx (by rw [hin]; exact hth)] at hexec
      have h2 := addCause_touches .thermal i (modTherm i (goodRead x) s)
      have hu2 : Touches (closed [.therm] ++ railWork) s (addCause .thermal i (modTherm i (goodRead x) s)) := hu0.comp h2
      have hinh : ((addCause .thermal i (modTherm i (goodRead x) s)).sock i).rail.inhibit =
          { k.rail.inhibit with thermal := true } := by
        rw [addCause_inhibit, if_pos rfl, hin]; rfl
      have hquiet : RailDown s i → (addCause .thermal i (modTherm i (goodRead x) s)).notices = s.notices := fun hd =>
        (addCause_quietly (s := modTherm i (goodRead x) s) (by unfold RailDown at hd ⊢; rw [hu0.railState i]; exact hd)).notices
      have htherm2 : ((addCause .thermal i (modTherm i (goodRead x) s)).sock i).therm = good := by
        rw [h2.therm i, hu]; exact hgood
      generalize addCause .thermal i (modTherm i (goodRead x) s) = v at *
      have hlast : lastRecord v i .thermalTrip = lastRecord s i .thermalTrip := lastRecord_of_touches hu2
      obtain ⟨hall, haside, ⟨hc1, hc2⟩, htherm, hthermal⟩ := trip_record (i := i) (x := x) hu2
      have hlaws : RailLaws s → RailLaws (failRecord i .thermalTrip (.reading x) v) := fun hs =>
        (failRecord_touches i _ _ v).law .rails rfl (hu2.law .rails rfl hs)
      have hcounts := failRecord_counts (s := v) (i := i) (k := .thermalTrip) (by decide) (.reading x)
      generalize failRecord i .thermalTrip (.reading x) v = w at *
      rw [htherm2] at htherm
      rw [hinh] at hthermal
      have hrest := recoveryTest_touches i x w
      have hdown : RailLaws s → (((recoveryTest i x w).sock i).rail.inhibit.thermal = true) →
          RailDown (recoveryTest i x w) i := fun hs h => railDown_of_cause (c := .thermal) (hrest.law .rails rfl (hlaws hs)) h
      by_cases hl : lastRecord s i .thermalTrip = true
      · rw [if_pos hl] at htherm
        rw [recoveryTest_waits (.inl (by rw [htherm]; exact fun h => by cases h))] at hdown hexec
        refine ⟨_, hexec, ?_⟩
        intro disp fail slot final fourth
        have hf : final = true := hl
        refine ⟨by rw [if_pos hf]; exact htherm, hthermal, fun hs => hdown hs hthermal, fun h => ?_, fun h => ?_, hc1, hc2,
          haside⟩
        · rw [hf] at h; cases h
        · rw [hf] at h; cases h
      · rw [if_neg hl] at htherm
        obtain ⟨hcw, hnw⟩ := hcounts (by rw [hlast]; simpa using hl)
        have hstw : (w.sock i).therm.state = .sensorFault := by rw [htherm]; exact h
        have hrunw : (w.sock i).therm.goodRun = 4 ↔ k.therm.goodRun = 3 := by
          rw [htherm]
          show min 255 (k.therm.goodRun + 1) = 4 ↔ _
          omega
        have hinw : (w.sock i).rail.inhibit = { k.rail.inhibit with thermal := true } := (hcw.inhibit i).trans hinh
        have hrunall : w.run = s.run := hcw.run.trans hu2.run
        have htold : RailDown s i → w.notices = if taking s i then urgentAfter
            ⟨.socket i, s.run.clock, .fail .thermalTrip (min 6 (k.acct.log.length + 1))⟩ s.notices else s.notices := by
          intro hd
          rw [hnw, Heartbeats.taking_of_touches hu2, hu2.clock, hu2.acct i, hquiet hd]
        by_cases hfour : k.therm.goodRun = 3
        · obtain ⟨h1, h2, h3, h4⟩ := recoveryTest_ends (x := x) hstw (hrunw.mpr hfour)
          refine ⟨_, hexec, ?_⟩
          intro disp fail slot final fourth
          have hf : final = false := Bool.eq_false_iff.mpr hl
          have hfalse : ¬ final = true := by rw [hf]; decide
          rw [hinw] at h3 h4
          have htt : ((recoveryTest i x w).sock i).rail.inhibit.thermal = true := by rw [h4]
          refine ⟨?_, htt, fun hs => hdown hs htt, fun _ => ⟨h1.run.trans hrunall, ?_⟩, fun _ hd => ?_, ?_, ?_, ?_⟩
          · rw [if_neg hfalse, if_pos hfour, h3, htherm]; rfl
          · rw [h4, if_pos hfour]
          · intro told
            rw [if_pos hfour, h2, htold hd, hrunall]
          · rw [h1.life i, h1.acct i]; exact hc1
          · rw [h1.life i, h1.acct i]; exact hc2
          · obtain ⟨hj, hb⟩ := haside
            exact ⟨fun j hne => ⟨(h1.life j).trans (hj j hne).1, (h1.acct j).trans (hj j hne).2⟩, by
              rw [h1.mem, h1.pages, h1.programs, h1.link, h1.now, h1.straps, h1.draws, h1.pending]; exact hb⟩
        · rw [recoveryTest_waits (.inr fun g => hfour (hrunw.mp g))] at hdown hexec
          refine ⟨_, hexec, ?_⟩
          intro disp fail slot final fourth
          have hf : final = false := Bool.eq_false_iff.mpr hl
          have hfalse : ¬ final = true := by rw [hf]; decide
          refine ⟨?_, hthermal, fun hs => hdown hs hthermal, fun _ => ⟨hrunall, ?_⟩, fun _ hd => ?_, hc1, hc2, haside⟩
          · rw [if_neg hfalse, if_neg hfour, htherm]
          · rw [hinw, if_neg hfour]
          · intro told
            rw [if_neg hfour, htold hd]

end Sys2Proof.Proofs.Readings

/-! The rails' samples (R26 to R28, R35, R139). -/

namespace Sys2Proof.Proofs.Frames

open Sys2Proof.Machine Sys2Proof.Safety

section
variable {l : List Piece} {s t : State}

/-- A rail none of whose pieces is touched. -/
theorem Touches.rail (h : Touches l s t) (i : SocketId) (h1 : Piece.railState.isIn l = false := by rfl)
    (h2 : Piece.inhibit.isIn l = false := by rfl) (h3 : Piece.timers.isIn l = false := by rfl)
    (h4 : Piece.power.isIn l = false := by rfl) (h5 : Piece.sample.isIn l = false := by rfl)
    (h6 : Piece.trips.isIn l = false := by rfl) : (t.sock i).rail = (s.sock i).rail := by
  have e1 := h.railState i h1
  have e2 := h.inhibit i h2
  obtain ⟨e3, e4, e5, e6⟩ := h.timers i h3
  have e7 := h.power i h4
  obtain ⟨e8, e9, e10⟩ := h.sample i h5
  have e11 := h.trips i h6
  cases hs : (s.sock i).rail
  cases ht : (t.sock i).rail
  simp_all

/-- A zone none of whose pieces is touched. -/
theorem Touches.zone (h : Touches l s t) (z : ZoneId) (h1 : Piece.railProf.isIn l = false := by rfl)
    (h2 : Piece.queue.isIn l = false := by rfl) (h3 : Piece.thermProf.isIn l = false := by rfl)
    (h4 : Piece.budget.isIn l = false := by rfl) (h5 : Piece.armed.isIn l = false := by rfl)
    (h6 : Piece.seq.isIn l = false := by rfl) (h7 : Piece.chk.isIn l = false := by rfl) : t.zone z = s.zone z := by
  have e1 := h.railProf z h1
  have e2 := h.queue z h2
  have e3 := h.thermProf z h3
  have e4 := h.budget z h4
  have e5 := h.armed z h5
  have e6 := h.seq z h6
  have e7 := h.chk z h7
  cases hs : s.zone z
  cases ht : t.zone z
  simp_all

/-- The heartbeat part and the reset time of a zone's program. -/
theorem Touches.tReset (h : Touches l s t) (z : ZoneId) (h1 : Piece.seq.isIn l = false := by rfl)
    (h2 : Piece.programs.isIn l = false := by rfl) : t.tReset z = s.tReset z := by
  unfold State.tReset
  rw [(Sequencing.program_congr (by rw [h.seq z h1]) (h.programs h2)).2]

end

end Sys2Proof.Proofs.Frames

namespace Sys2Proof.Proofs.RailEvents

open Sys2Proof.Machine Sys2Proof.Safety Sys2Proof.Proofs.Frames Sys2Proof.Proofs.Requests Sys2Proof.Proofs.Settings
  Sys2Proof.Proofs.Sequencing

/-! ## Grants leave those that do not wait -/

section
variable {z : ZoneId} {s : State}

theorem grantOne_apart {j : SocketId} (hj : j ∉ (s.zone z).rampQueue) : (grantOne z s).sock j = s.sock j ∧
    j ∉ ((grantOne z s).zone z).rampQueue := by
  obtain ⟨h, -⟩ | ⟨i, rest, p, hq, -, -, h⟩ := grantOne_cases z s
  · rw [h]; exact ⟨rfl, hj⟩
  · rw [hq, List.mem_cons, not_or] at hj
    rw [h, modRail_sock, if_neg hj.1, modRail_zone, modZone_zone_self]
    exact ⟨rfl, hj.2⟩

/-- A socket that does not wait in the queue is no party to the grants. -/
theorem grantSlots_apart {j : SocketId} (hj : j ∉ (s.zone z).rampQueue) : (grantSlots z s).sock j = s.sock j := by
  obtain ⟨h1, h2⟩ := grantOne_apart hj
  exact (grantOne_apart h2).1.trans h1

theorem grantOne_zone_ne {y : ZoneId} (hy : y ≠ z) : (grantOne z s).zone y = s.zone y := by
  obtain ⟨h, -⟩ | ⟨i, rest, p, -, -, -, h⟩ := grantOne_cases z s
  · rw [h]
  · rw [h, modRail_zone, modZone_zone_ne hy]

theorem grantSlots_zone_ne {y : ZoneId} (hy : y ≠ z) : (grantSlots z s).zone y = s.zone y :=
  (grantOne_zone_ne hy).trans (grantOne_zone_ne hy)

/-- From a state that keeps law 2, neither the sockets of other zones nor one that is not QUEUED. -/
theorem grantSlots_sock (hs : Law2 s) {j : SocketId} (hj : zoneOf j ≠ z ∨ (s.sock j).rail.state ≠ .queued) :
    (grantSlots z s).sock j = s.sock j := by
  refine grantSlots_apart fun hmem => ?_
  obtain ⟨h1, h2⟩ := ((hs z).2 j).mp hmem
  exact hj.elim (absurd h1) (absurd h2)

end

/-! ## Power figures -/

section
variable {i : SocketId} {s : State}

theorem budgetTest_sock (z : ZoneId) (s : State) (j : SocketId) : (budgetTest z s).sock j = s.sock j := by
  unfold State.sock
  rw [budgetTest_eq]

theorem setPower_zone_ne (v : Nat) {y : ZoneId} (hy : y ≠ zoneOf i) : (setPower i v s).zone y = s.zone y := by
  unfold setPower
  split
  · rfl
  · rw [budgetTest_eq]
    unfold State.zone
    simp [modRail, modSock, Fin.val_ne_of_ne hy.symm]

theorem setPower_sock_ne (v : Nat) {j : SocketId} (hj : j ≠ i) : (setPower i v s).sock j = s.sock j := by
  unfold setPower
  split
  · rfl
  · rw [budgetTest_sock]
    exact modSock_sock_ne hj _ s

/-- The rail after its power figure was set. -/
theorem setPower_rail (v : Nat) : ((setPower i v s).sock i).rail = { (s.sock i).rail with power := v } := by
  unfold setPower
  split
  · rename_i h; rw [← h]
  · rw [budgetTest_sock]
    exact modRail_rail_self i (fun r => { r with power := v }) s

/-! ## A sample stored (R26, R27) -/

/-- A rail after a sample was stored: the averaging window keeps the most recent `w`. -/
def sampled (w c v : Nat) (r : Rail) : Rail :=
  { r with lastCurrent := c, voltage := v, window := (r.window ++ [c]).drop (r.window.length + 1 - w) }

theorem takeSample_eq (w c v : Nat) (r : Rail) : r.takeSample w c v = sampled w c v r := by
  unfold Rail.takeSample sampled lastN
  rw [List.length_append]
  rfl

theorem railSample_eq (mA mV : Nat) : exec (.railSample i mA mV) s =
    match (s.sock i).rail.state, (s.zone (zoneOf i)).railProf with
    | .ramp2, some p => .next (if p.vbus ≤ min 6000 mV + p.vok then
        enterOn p i (min 20000 mA) (modRail i (sampled (s.windowLen (zoneOf i)) (min 20000 mA) (min 6000 mV)) s)
        else modRail i (sampled (s.windowLen (zoneOf i)) (min 20000 mA) (min 6000 mV)) s)
    | .on, some p => .next (sampleOn p i (min 20000 mA)
        (modRail i (sampled (s.windowLen (zoneOf i)) (min 20000 mA) (min 6000 mV)) s))
    | _, _ => .next (modRail i (sampled (s.windowLen (zoneOf i)) (min 20000 mA) (min 6000 mV)) s) := by
  have h : Rail.takeSample (s.windowLen (zoneOf i)) (min 20000 mA) (min 6000 mV) =
      sampled (s.windowLen (zoneOf i)) (min 20000 mA) (min 6000 mV) := funext (takeSample_eq _ _ _)
  rw [← h]
  rfl

/-! ## The supervision of a rail that entered ON (R139) -/

theorem hbRailOn_live : ((hbRailOn i s).sock i).live =
    if (s.sock i).life = .stressing ∧ s.run.state = .active then
      { (s.sock i).live with state := .resetHeld, timer := some (s.nowMs + s.tReset (zoneOf i)), owed := false }
    else if (s.sock i).life = .stressing ∧ s.run.state = .held then
      { (s.sock i).live with state := .paused, timer := none, owed := true }
    else (s.sock i).live := by
  unfold hbRailOn
  split
  · unfold powerUpCycle enterResetHeld startHb setOwed
    rw [(dropPass_touches i _).live i, modLive_modLive, modLive_sock, if_pos rfl]
    rfl
  · split
    · unfold setOwed stopHb
      rw [modLive_modLive, modLive_sock, if_pos rfl]
    · rfl

theorem hbRailOn_elsewhere {j : SocketId} (hj : j ≠ i) : (hbRailOn i s).sock j = s.sock j := by
  unfold hbRailOn
  split
  · unfold powerUpCycle enterResetHeld startHb setOwed
    rw [modLive_modLive]
    exact (modSock_sock_ne hj _ _).trans (modSock_sock_ne hj _ _)
  · split
    · unfold setOwed stopHb
      rw [modLive_modLive]
      exact modSock_sock_ne hj _ _
    · rfl

/-! ## A rail enters ON (R35) -/

section
variable {p : RailProfile} {c v : Nat}

/-- The rail that enters ON under a profile at a sample, the power figure among it. -/
def onRail (p : RailProfile) (now : Nat) (c : Nat) (r : Rail) : Rail := { r with
  state := .on, window := [c], power := min 600 (r.voltage * c / 100000), rampTimer := none, phase1Timer := none,
  stableTimer := some (now + p.stableS * 50000000) }

theorem afterMs_stable (p : RailProfile) (s : State) : afterMs (1000 * p.stableS) s = s.now + p.stableS * 50000000 := by
  show s.now + 1000 * p.stableS * 50000 = _
  omega

/-- What an entry to ON leaves. -/
theorem enterOn_leaves (hr : RailLaws s) (hst : (s.sock i).rail.state = .ramp2) :
    ((enterOn p i c s).sock i).rail = onRail p s.now c (s.sock i).rail ∧
    ((enterOn p i c s).sock i).live = ((hbRailOn i s).sock i).live ∧
    (∀ j, zoneOf j ≠ zoneOf i → (enterOn p i c s).sock j = s.sock j) ∧
    (∀ y, y ≠ zoneOf i → (enterOn p i c s).zone y = s.zone y) := by
  let t := modRail i (railOn c (afterMs (1000 * p.stableS) s)) s
  have hrail : (t.sock i).rail = railOn c (afterMs (1000 * p.stableS) s) (s.sock i).rail := modRail_rail_self i _ s
  have hpow : (t.sock i).rail.powerNow = min 600 ((s.sock i).rail.voltage * c / 100000) := by
    rw [hrail]
    simp [Rail.powerNow, Rail.average, railOn]
  have heq := enterOn_eq p i c s
  simp only at heq
  have h1 := setPower_touches i (t.sock i).rail.powerNow t
  have h2 := hbRailOn_touches i (setPower i (t.sock i).rail.powerNow t)
  have h12 := h1.comp h2 (n := [.power, .armed, .routine, .live, .checked])
  have hlaws : RailLaws t := modRail_rails (f := railOn c (afterMs (1000 * p.stableS) s)) rfl
    (fun h => absurd h (by simp [railOn, RailState.ramping])) ⟨by simp [railOn], by rw [hst]; simp⟩ (by rw [hst]; simp) hr
  obtain ⟨-, hlaw2, -⟩ := h12.law .rails rfl hlaws
  refine ⟨?_, ?_, fun j hj => ?_, fun y hy => ?_⟩
  · rw [heq, grantSlots_sock hlaw2 (.inr ?_)]
    · rw [h2.rail i, setPower_rail, hpow, hrail]
      unfold onRail railOn
      rw [afterMs_stable]
    · rw [h12.railState i, hrail]
      simp [railOn]
  · have hu : Touches _ s (setPower i (t.sock i).rail.powerNow t) :=
      (railOn_touches i c _ s).comp h1 (n := closed [.railState, .timers, .sample] ++ [.power, .armed, .routine])
    rw [heq, (grantSlots_touches _ _).live i, hbRailOn_live, hbRailOn_live, hu.life i, hu.runState, hu.live i,
      hu.tReset, State.nowMs, hu.now]
    rfl
  · have hji : j ≠ i := by rintro rfl; exact hj rfl
    rw [heq, grantSlots_sock hlaw2 (.inl hj), hbRailOn_elsewhere hji, setPower_sock_ne _ hji]
    exact modSock_sock_ne hji _ s
  · rw [heq, grantSlots_zone_ne hy, h2.zone y, setPower_zone_ne _ hy]
    rfl

end

end

section
variable {i : SocketId} {s : State} {p : RailProfile} {w c v : Nat}

theorem average_eq (r : Rail) : r.average = r.window.sum / r.window.length := by
  unfold Rail.average
  split
  · rename_i h; rw [h, Nat.div_zero]
  · rfl

theorem sampled_touches (i : SocketId) (w c v : Nat) (s : State) : Touches (closed [.sample]) s (modRail i (sampled w c v) s) :=
  modSock_touches fun p hp => by
    cases p with
    | sample => exact absurd hp (by decide)
    | _ => simp [SockSame, sampled]

theorem zone_of_set {t : State} {zs : Vector Zone 4} {z : ZoneId} {x : Zone} (h : t.zones = zs.set z x) : t.zone z = x := by
  unfold State.zone
  rw [h]
  simp

/-- The over-budget test of a zone under a sum `d`: the armed flag after it, and the lanes. -/
def armedAfter (k : Zone) (d : Nat) : Bool :=
  if k.armed then decide (d ≤ k.budget) else decide (d ≤ k.budget * 95 / 100)

def overNotices (z : ZoneId) (clock : Nat) (k : Zone) (d : Nat) (q : NoticeQueue) : NoticeQueue :=
  if k.armed = true ∧ k.budget < d then routineAfter ⟨.zone z, clock, .budgetOver d k.budget⟩ q else q

theorem setPower_same (h : (s.sock i).rail.power = v) : setPower i v s = s := if_pos h

/-- A power figure that changed: the over-budget tests are made (R28, R75, R76). -/
theorem setPower_changed (h : (s.sock i).rail.power ≠ v) : setPower i v s =
    { modRail i (fun r => { r with power := v }) s with
      zones := s.zones.set (zoneOf i) { s.zone (zoneOf i) with
        armed := armedAfter (s.zone (zoneOf i)) ((setPower i v s).dutSum (zoneOf i)) }
      notices := overNotices (zoneOf i) s.run.clock (s.zone (zoneOf i)) ((setPower i v s).dutSum (zoneOf i)) s.notices } := by
  have ht : setPower i v s = budgetTest (zoneOf i) (modRail i (fun r => { r with power := v }) s) := if_neg h
  have hdut : (setPower i v s).dutSum (zoneOf i) =
      (modRail i (fun r => { r with power := v }) s).dutSum (zoneOf i) := by
    unfold State.dutSum
    simp only [ht, budgetTest_sock]
  rw [hdut, ht]
  exact budgetTest_eq _ _

/-- A sample in ON that trips nothing (R28, R37, R38). -/
theorem sampleOn_quiet (hfast : c < p.iFast) (hav : ¬ ((s.sock i).rail.window.length = p.win ∧
      p.iAvg ≤ (s.sock i).rail.window.sum / (s.sock i).rail.window.length)) :
    sampleOn p i c s = setPower i (s.sock i).rail.powerNow s := by
  unfold sampleOn
  simp only
  rw [if_neg (by omega), setPower_rail, average_eq, if_neg hav]

end

/-- Settles O47, by the rail's state. -/
theorem railSamplesAreTaken : Obligations.RailSamplesAreTaken := by
  unfold Obligations.RailSamplesAreTaken
  intro s i mA mV c v r z prof w win stored quiet
  have hw : s.windowLen (zoneOf i) = w := rfl
  have heq := railSample_eq (i := i) (s := s) mA mV
  rw [hw] at heq
  have hquiet : modRail i (sampled w c v) s = quiet := rfl
  have hu := sampled_touches i w c v s
  have hrail : ((modRail i (sampled w c v) s).sock i).rail = stored := modRail_rail_self i _ s
  refine ⟨fun h2 hon => ?_, fun p hp hst hv => ?_, fun p hp hst hv hr => ?_, ?_⟩
  · rw [heq, ← hquiet]
    cases hst : (s.sock i).rail.state with
    | ramp2 => exact absurd hst h2
    | on => exact absurd hst hon
    | off | queued | ramp1 | rest => rfl
  · rw [heq, hst, show (s.zone (zoneOf i)).railProf = some p from hp, ← hquiet]
    exact congrArg _ (if_neg (by omega))
  · rw [hst, show (s.zone (zoneOf i)).railProf = some p from hp] at heq
    have hrun := heq.trans (congrArg Host.Outcome.next (if_pos hv))
    have hst' : ((modRail i (sampled w c v) s).sock i).rail.state = .ramp2 := (hu.railState i).trans hst
    obtain ⟨h1, h2, h3, h4⟩ := enterOn_leaves (p := p) (c := c) (hu.law .rails rfl hr) hst'
    have ht := enterOn_touches (p := p) c hst'
    have hall := hu.comp ht (n := closed [.sample] ++
      [.railState, .timers, .queue, .power, .armed, .routine, .live, .checked])
    refine ⟨_, hrun, ?_, ?_, fun j => ⟨hall.life j, hall.bin j, hall.therm j, hall.acct j⟩, fun j hj => ?_, fun y hy => ?_,
      hall.seq z, hall.run, hall.store, hall.link, (hall.urgent).1, hall.straps, hall.now, hall.draws, hall.pending⟩
    · rw [h1, hrail]
      rfl
    · rw [h2, hbRailOn_live, hu.life i, hu.runState, hu.live i, hu.tReset, State.nowMs, hu.now]
      rfl
    · rw [h3 j hj]
      exact modSock_sock_ne (by rintro rfl; exact hj rfl) _ s
    · rw [h4 y hy]
      rfl
  · intro p hp hst hfast avg power hav
    rw [hst, show (s.zone (zoneOf i)).railProf = some p from hp] at heq
    have hpow : ((modRail i (sampled w c v) s).sock i).rail.powerNow = power := by
      unfold Rail.powerNow
      rw [hrail, average_eq]
    have hq := sampleOn_quiet (s := modRail i (sampled w c v) s) (i := i) (p := p) (c := c) hfast (by rw [hrail]; exact hav)
    rw [hpow] at hq
    have hrun := heq.trans (congrArg Host.Outcome.next hq)
    have hpw : ((modRail i (sampled w c v) s).sock i).rail.power = r.power := hu.power i
    by_cases hchange : power = r.power
    · have hsame := setPower_same (hpw.trans hchange.symm)
      rw [hsame] at hrun
      refine ⟨_, hrun, ?_, (if_pos hchange).symm⟩
      rw [if_neg (by rintro ⟨h, -⟩; exact h hchange), hchange]
      show modRail i (sampled w c v) s = _
      have hzone : s.zones.set z { s.zone z with armed := ((modRail i (sampled w c v) s).zone z).armed } = s.zones :=
        Vector.set_getElem_self _
      rw [hzone]
      rfl
    · have hch := setPower_changed (v := power) (s := modRail i (sampled w c v) s) (i := i) fun h => hchange (h.symm.trans hpw)
      rw [modRail_modRail] at hch
      generalize setPower i power (modRail i (sampled w c v) s) = t at hch hrun
      have hrest : ∀ d, t.dutSum z = d → (t.zone z).armed = armedAfter (s.zone z) d ∧ t = { s with
          sockets := s.sockets.set i { s.sock i with rail := { stored with power := power } }
          zones := s.zones.set z { s.zone z with armed := armedAfter (s.zone z) d }
          notices := overNotices z s.run.clock (s.zone z) d s.notices } := by
        intro d hd
        rw [hd] at hch
        refine ⟨?_, hch⟩
        exact congrArg Zone.armed (zone_of_set (z := zoneOf i) (congrArg State.zones hch))
      obtain ⟨harm, hall⟩ := hrest _ rfl
      refine ⟨t, hrun, ?_, by rw [if_neg hchange]; exact harm⟩
      have hn : overNotices z s.run.clock (s.zone z) (t.dutSum z) s.notices =
          if power ≠ r.power ∧ (s.zone z).armed = true ∧ (s.zone z).budget < t.dutSum z then
            routineAfter ⟨.zone z, s.run.clock, .budgetOver (t.dutSum z) (s.zone z).budget⟩ s.notices else s.notices :=
        if_congr (and_iff_right hchange).symm rfl rfl
      rw [harm, ← hn]
      exact hall

end Sys2Proof.Proofs.RailEvents

/-! How the rails and the ramp queues follow the inhibit sets (R29, R30, R32 to R34): the demand that a change makes, the
slots that are granted, and what no other block touches. -/

namespace Sys2Proof.Proofs.RailsFollow

open Sys2Proof.Machine Sys2Proof.Safety Sys2Proof.Proofs.Requests Sys2Proof.Proofs.Frames

/-! ## A zone's ramp queue between two states -/

/-- The pieces that the rails' rules read. -/
abbrev railPieces : List Piece := [.railState, .inhibit, .timers, .queue, .power, .railProf, .now]

/-- The socket was granted its slot now: its ramp begins (R34). -/
def Ramping (z : ZoneId) (u : State) (i : SocketId) : Prop :=
  ∃ p, (u.zone z).railProf = some p ∧ (u.sock i).rail.rampTimer = some (u.now + p.rampMs * 50000) ∧
    if p.i1 = 0 then (u.sock i).rail.state = .ramp2
    else (u.sock i).rail.state = .ramp1 ∧ (u.sock i).rail.phase1Timer = some (u.now + p.t1 * 50000)

/-- The socket has no cause in its set. -/
abbrev free (u : State) (i : SocketId) : Bool := (u.sock i).rail.inhibit.isEmpty

/-- How far a zone's queue has moved since `s`, where the sockets of `J` may have joined: those with a cause have left it,
those of `joined` came to its tail in ascending number, and those of `taken` left its head with a slot. -/
def LineMoves (J : SocketId → Prop) (s u : State) (z : ZoneId) : Prop :=
  ∃ joined taken : List SocketId, joined.Pairwise (· < ·) ∧
    (∀ i ∈ joined, zoneOf i = z ∧ (s.sock i).rail.state ≠ .queued ∧ RailRises u i ∧ J i) ∧
    (∀ i, zoneOf i = z → Joins s u i → i ∈ joined) ∧
    (s.zone z).rampQueue.filter (free u) ++ joined = taken ++ (u.zone z).rampQueue ∧ ∀ i ∈ taken, Ramping z u i

/-- What keeps a socket in its place of a zone's queue between `u` and `v`. -/
structure Keeps (J : SocketId → Prop) (z : ZoneId) (s u v : State) (i : SocketId) : Prop where
  free : (s.sock i).rail.state = .queued → free v i = free u i
  joins : Joins s v i → Joins s u i
  rises : J i → RailRises u i → RailRises v i
  ramping : (s.sock i).rail.state = .queued ∨ J i → Ramping z u i → Ramping z v i

section
variable {J : SocketId → Prop} {s u v : State} {z : ZoneId} {j : SocketId}

/-- The members of a zone's queue are its QUEUED sockets (R32). -/
theorem mem_queue (hs : Law2 s) {i : SocketId} (hi : i ∈ (s.zone z).rampQueue) :
    zoneOf i = z ∧ (s.sock i).rail.state = .queued := ((hs z).2 i).mp hi

theorem filter_free (hs : Law2 s) (h : ∀ i, zoneOf i = z → (s.sock i).rail.state = .queued → free v i = free u i) :
    (s.zone z).rampQueue.filter (free v) = (s.zone z).rampQueue.filter (free u) :=
  List.filter_congr fun i hi => h i (mem_queue hs hi).1 (mem_queue hs hi).2

/-- A socket that was taken from the queue is one of the zone's, and waited in it or joined it. -/
theorem taken_of_line (hs : Law2 s) {joined taken rest : List SocketId}
    (hj : ∀ i ∈ joined, zoneOf i = z ∧ (s.sock i).rail.state ≠ .queued ∧ RailRises u i ∧ J i)
    (hline : (s.zone z).rampQueue.filter (free u) ++ joined = taken ++ rest) {i : SocketId} (hi : i ∈ taken) :
    zoneOf i = z ∧ ((s.sock i).rail.state = .queued ∨ J i) := by
  have hmem : i ∈ (s.zone z).rampQueue.filter (free u) ++ joined := hline ▸ List.mem_append_left _ hi
  rcases List.mem_append.mp hmem with h | h
  · obtain ⟨hz, hq⟩ := mem_queue hs (List.mem_of_mem_filter h)
    exact ⟨hz, .inl hq⟩
  · obtain ⟨hz, -, -, hJ⟩ := hj i h
    exact ⟨hz, .inr hJ⟩

/-- A queue none of whose sockets changes its place. -/
theorem LineMoves.keep (h : LineMoves J s u z) (hs : Law2 s) (hk : ∀ i, zoneOf i = z → Keeps J z s u v i)
    (hq : (v.zone z).rampQueue = (u.zone z).rampQueue) : LineMoves J s v z := by
  obtain ⟨joined, taken, hpair, hjoined, hall, hline, htaken⟩ := h
  refine ⟨joined, taken, hpair, fun i hi => ?_, fun i hz hi => hall i hz ((hk i hz).joins hi), ?_, fun i hi => ?_⟩
  · obtain ⟨hz, hne, hr, hJ⟩ := hjoined i hi
    exact ⟨hz, hne, (hk i hz).rises hJ hr, hJ⟩
  · rw [filter_free hs fun i hz => (hk i hz).free, hq, hline]
  · obtain ⟨hz, hw⟩ := taken_of_line hs hjoined hline hi
    exact (hk i hz).ramping hw (htaken i hi)

/-- A socket that got a cause leaves the queue from any place (R30). -/
theorem LineMoves.leave (h : LineMoves J s u z) (hs : Law2 s) (hk : ∀ i ≠ j, zoneOf i = z → Keeps J z s u v i)
    (hfree : free v j = false) (hdown : ¬ RailRises v j)
    (hq : (v.zone z).rampQueue = (u.zone z).rampQueue.filter (· != j)) : LineMoves J s v z := by
  obtain ⟨joined, taken, hpair, hjoined, hall, hline, htaken⟩ := h
  refine ⟨joined.filter (· != j), taken.filter (· != j), hpair.filter _, fun i hi => ?_, fun i hz hi => ?_, ?_,
    fun i hi => ?_⟩
  · obtain ⟨hi, hij⟩ := List.mem_filter.mp hi
    obtain ⟨hz, hne, hr, hJ⟩ := hjoined i hi
    exact ⟨hz, hne, (hk i (by simpa using hij) hz).rises hJ hr, hJ⟩
  · have hij : i ≠ j := by rintro rfl; exact hdown hi.1
    exact List.mem_filter.mpr ⟨hall i hz ((hk i hij hz).joins hi), by simpa using hij⟩
  · have hf : (s.zone z).rampQueue.filter (free v) = ((s.zone z).rampQueue.filter (free u)).filter (· != j) := by
      rw [List.filter_filter]
      refine List.filter_congr fun i hi => ?_
      by_cases hij : i = j
      · subst hij; simp [hfree]
      · rw [(hk i hij (mem_queue hs hi).1).free (mem_queue hs hi).2]; simp [hij]
    rw [hf, hq, ← List.filter_append, ← List.filter_append, hline]
  · obtain ⟨hi, hij⟩ := List.mem_filter.mp hi
    obtain ⟨hz, hw⟩ := taken_of_line hs hjoined hline hi
    exact (hk i (by simpa using hij) hz).ramping hw (htaken i hi)

/-- A socket that demands joins the tail of the queue (R29, R32). -/
theorem LineMoves.join (h : LineMoves J s u (zoneOf j)) (hs : Law2 s)
    (hk : ∀ i ≠ j, zoneOf i = zoneOf j → Keeps J (zoneOf j) s u v i) (hne : (s.sock j).rail.state ≠ .queued)
    (hlast : ∀ i, J i → i < j) (hrise : RailRises v j)
    (hq : (v.zone (zoneOf j)).rampQueue = (u.zone (zoneOf j)).rampQueue ++ [j]) :
    LineMoves (fun i => J i ∨ i = j) s v (zoneOf j) := by
  obtain ⟨joined, taken, hpair, hjoined, hall, hline, htaken⟩ := h
  have hj : j ∉ joined := fun h => absurd (hlast j (hjoined j h).2.2.2) (lt_irrefl j)
  refine ⟨joined ++ [j], taken, ?_, fun i hi => ?_, fun i hz hi => ?_, ?_, fun i hi => ?_⟩
  · refine List.pairwise_append.mpr ⟨hpair, List.pairwise_singleton _ _, fun a ha b hb => ?_⟩
    rw [List.mem_singleton.mp hb]
    exact hlast a (hjoined a ha).2.2.2
  · rcases List.mem_append.mp hi with hi | hi
    · obtain ⟨hz, hn, hr, hJ⟩ := hjoined i hi
      exact ⟨hz, hn, (hk i (fun h => hj (h ▸ hi)) hz).rises hJ hr, .inl hJ⟩
    · obtain rfl := List.mem_singleton.mp hi
      exact ⟨rfl, hne, hrise, .inr rfl⟩
  · by_cases hij : i = j
    · simp [hij]
    · exact List.mem_append_left _ (hall i hz ((hk i hij hz).joins hi))
  · rw [hq, filter_free hs fun i hz hqd => (hk i (by rintro rfl; exact hne hqd) hz).free hqd, ← List.append_assoc, hline,
      List.append_assoc]
  · obtain ⟨hz, hw⟩ := taken_of_line hs hjoined hline hi
    have hij : i ≠ j := by
      rintro rfl
      exact hw.elim hne fun hJ => lt_irrefl i (hlast i hJ)
    exact (hk i hij hz).ramping hw (htaken i hi)

/-- The head of the queue is granted a slot (R33, R34). -/
theorem LineMoves.grant (h : LineMoves J s u z) (hs : Law2 s) (hk : ∀ i ≠ j, zoneOf i = z → Keeps J z s u v i)
    (hfree : free v j = free u j) (hjoins : Joins s v j → Joins s u j) (hr : Ramping z v j)
    (hq : (u.zone z).rampQueue = j :: (v.zone z).rampQueue) : LineMoves J s v z := by
  obtain ⟨joined, taken, hpair, hjoined, hall, hline, htaken⟩ := h
  have hrise : RailRises v j := by
    obtain ⟨p, -, -, hst⟩ := hr
    by_cases h0 : p.i1 = 0
    · rw [if_pos h0] at hst; exact .inr (.inr hst)
    · rw [if_neg h0] at hst; exact .inr (.inl hst.1)
  refine ⟨joined, taken ++ [j], hpair, fun i hi => ?_, fun i hz hi => ?_, ?_, fun i hi => ?_⟩
  · obtain ⟨hz, hne, hri, hJ⟩ := hjoined i hi
    by_cases hij : i = j
    · subst hij; exact ⟨hz, hne, hrise, hJ⟩
    · exact ⟨hz, hne, (hk i hij hz).rises hJ hri, hJ⟩
  · by_cases hij : i = j
    · subst hij; exact hall i hz (hjoins hi)
    · exact hall i hz ((hk i hij hz).joins hi)
  · rw [filter_free hs fun i hz hqd => ?_, hline, hq, List.append_assoc, List.singleton_append]
    by_cases hij : i = j
    · subst hij; exact hfree
    · exact (hk i hij hz).free hqd
  · by_cases hij : i = j
    · subst hij; exact hr
    · have hi : i ∈ taken := by simpa [hij] using hi
      obtain ⟨hz, hw⟩ := taken_of_line hs hjoined hline hi
      exact (hk i hij hz).ramping hw (htaken i hi)

/-- A queue that has moved so far moves as its rule says: of those that joined, a rail that ramps on is none (R32). -/
theorem LineMoves.queueMoves (h : LineMoves J s u z) (hs : Law2 s) (hu : Law2 u) : QueueMoves z s u := by
  classical
  obtain ⟨joined, taken, hpair, hjoined, hall, hline, htaken⟩ := h
  have hqueue : ∀ i ∈ (s.zone z).rampQueue, decide ((s.sock i).rail.state = .queued ∨ Joins s u i) = true :=
    fun i hi => decide_eq_true (.inl (mem_queue hs hi).2)
  have hwait : ∀ i ∈ (u.zone z).rampQueue, decide ((s.sock i).rail.state = .queued ∨ Joins s u i) = true := by
    intro i hi
    have hqd := (mem_queue hu hi).2
    refine decide_eq_true ?_
    by_cases hsq : (s.sock i).rail.state = .queued
    · exact .inl hsq
    · exact .inr ⟨.inl hqd, hsq, fun _ => .inl hqd⟩
  refine ⟨joined.filter fun i => decide (Joins s u i), hpair.filter _, fun i => ?_, ?_⟩
  · rw [List.mem_filter, decide_eq_true_eq]
    exact ⟨fun ⟨h1, h2⟩ => ⟨(hjoined i h1).1, h2⟩, fun ⟨h1, h2⟩ => ⟨hall i h1 h2, h2⟩⟩
  · intro line
    have hline' : line = taken.filter (fun i => decide ((s.sock i).rail.state = .queued ∨ Joins s u i)) ++
        (u.zone z).rampQueue := by
      have h1 := congrArg (List.filter fun i => decide ((s.sock i).rail.state = .queued ∨ Joins s u i)) hline
      rw [List.filter_append, List.filter_append, List.filter_eq_self.mpr hwait,
        List.filter_eq_self.mpr fun i hi => hqueue i (List.mem_of_mem_filter hi)] at h1
      rw [← h1]
      show (s.zone z).rampQueue.filter (free u) ++ joined.filter _ = _
      congr 1
      refine List.filter_congr fun i hi => ?_
      simp [(hjoined i hi).2.1]
    refine ⟨(taken.filter fun i => decide ((s.sock i).rail.state = .queued ∨ Joins s u i)).length, ?_, fun i hi p hp => ?_⟩
    · rw [hline', List.drop_left]
    · rw [hline', List.take_left] at hi
      obtain ⟨p', hp', hr⟩ := htaken i (List.mem_of_mem_filter hi)
      obtain rfl : p' = p := Option.some_inj.mp (hp'.symm.trans hp)
      exact hr

end

section
variable {J : SocketId → Prop} {s u v : State} {z : ZoneId} {j : SocketId}

theorem LineMoves.mono {K : SocketId → Prop} (h : LineMoves J s u z) (hJ : ∀ i, J i → K i) : LineMoves K s u z := by
  obtain ⟨joined, taken, hpair, hjoined, hall, hline, htaken⟩ := h
  refine ⟨joined, taken, hpair, fun i hi => ?_, hall, hline, htaken⟩
  obtain ⟨hz, hne, hr, hi⟩ := hjoined i hi
  exact ⟨hz, hne, hr, hJ i hi⟩

/-! ## The rails and the queues together -/

/-- The rail of the socket reads the same to the rails' rules. -/
structure SameRail (i : SocketId) (u v : State) : Prop where
  state : (v.sock i).rail.state = (u.sock i).rail.state
  inhibit : (v.sock i).rail.inhibit = (u.sock i).rail.inhibit
  offTimer : (v.sock i).rail.offTimer = (u.sock i).rail.offTimer
  rampTimer : (v.sock i).rail.rampTimer = (u.sock i).rail.rampTimer
  phase1Timer : (v.sock i).rail.phase1Timer = (u.sock i).rail.phase1Timer
  power : (v.sock i).rail.power = (u.sock i).rail.power

/-- Time and the rail profiles stand. -/
structure SameTime (u v : State) : Prop where
  railProf : ∀ z, (v.zone z).railProf = (u.zone z).railProf
  now : v.now = u.now

theorem SameRail.of_rail {i : SocketId} (h : (v.sock i).rail = (u.sock i).rail) : SameRail i u v := by
  constructor <;> rw [h]

theorem SameRail.trans {i : SocketId} {w : State} (h : SameRail i u v) (g : SameRail i v w) : SameRail i u w :=
  ⟨g.state.trans h.state, g.inhibit.trans h.inhibit, g.offTimer.trans h.offTimer, g.rampTimer.trans h.rampTimer,
    g.phase1Timer.trans h.phase1Timer, g.power.trans h.power⟩

theorem SameTime.trans {w : State} (h : SameTime u v) (g : SameTime v w) : SameTime u w :=
  ⟨fun z => (g.railProf z).trans (h.railProf z), g.now.trans h.now⟩

theorem sameRail_of_stand (h : Stand railPieces u v) (i : SocketId) : SameRail i u v :=
  ⟨(h .railState rfl).sock i, (h .inhibit rfl).sock i, ((h .timers rfl).sock i).1, ((h .timers rfl).sock i).2.2.2,
    ((h .timers rfl).sock i).2.2.1, (h .power rfl).sock i⟩

theorem sameTime_of_stand (h : Stand railPieces u v) : SameTime u v :=
  ⟨(h .railProf rfl).zone, (h .now rfl).board⟩

theorem SameRail.keeps {i : SocketId} (h : SameRail i u v) (ht : SameTime u v) : Keeps J z s u v i where
  free _ := by unfold RailsFollow.free; rw [h.inhibit]
  joins := by unfold Joins RailRises; rw [h.state, h.rampTimer]; exact id
  rises _ := by unfold RailRises; rw [h.state]; exact id
  ramping _ := by unfold Ramping; rw [h.state, h.rampTimer, h.phase1Timer, ht.railProf, ht.now]; exact id

/-- What a rail's rule reads of it is its state, its timers, its figure and whether its set is empty. -/
theorem follows_congr {i : SocketId} (hstate : (v.sock i).rail.state = (u.sock i).rail.state)
    (hfree : free v i = free u i) (hoff : (v.sock i).rail.offTimer = (u.sock i).rail.offTimer)
    (hramp : (v.sock i).rail.rampTimer = (u.sock i).rail.rampTimer)
    (hpower : (u.sock i).rail.power = 0 → (v.sock i).rail.power = 0) (ht : SameTime u v) (h : RailFollowsSet i s u) :
    RailFollowsSet i s v := by
  simp only [free] at hfree
  simp only [RailFollowsSet, RailRises, OffTimeStarted, hstate, hoff, hramp, ht.railProf, ht.now, hfree] at h ⊢
  obtain ⟨c1, c2, c3, c4, c5, c6⟩ := h
  refine ⟨c1, c2, c3, c4, fun hu he => ?_, c6⟩
  obtain ⟨h1, h2, h3⟩ := c5 hu he
  exact ⟨h1, fun hon => hpower (h2 hon), h3⟩

theorem SameRail.follows {i : SocketId} (h : SameRail i u v) (ht : SameTime u v) (hs : RailFollowsSet i s u) :
    RailFollowsSet i s v :=
  follows_congr h.state (by unfold free; rw [h.inhibit]) h.offTimer h.rampTimer (fun h0 => h.power.trans h0) ht hs

/-- How far the rails and the queues have come since `s`: those of `X` have a rail event of their own, and those of `J`
may have joined a queue. -/
structure Follows (X J : SocketId → Prop) (s u : State) : Prop where
  inv : RailInv s
  apart : ∀ i, X i → (s.sock i).rail.state ≠ .queued
  laws : RailLaws u
  up : ∀ i, free u i = true → (u.sock i).rail.state ≠ .off
  rails : ∀ i, ¬ X i → RailFollowsSet i s u
  line : ∀ z, LineMoves J s u z

end

section
variable {X J : SocketId → Prop} {s u v : State} {i j : SocketId}

theorem Follows.law2 (h : Follows X J s u) : Law2 s := h.inv.1.2.1

/-- An upper rail has no cause in its set (R30). -/
theorem free_of_up (h : RailLaws u) (hu : (u.sock i).rail.state ≠ .off) (hr : (u.sock i).rail.state ≠ .rest) :
    free u i = true := by
  by_contra hc
  exact (h.2.2 i (by simpa using hc)).elim hu hr

theorem Follows.mono {K : SocketId → Prop} (h : Follows X J s u) (hJ : ∀ i, J i → K i) : Follows X K s u :=
  ⟨h.inv, h.apart, h.laws, h.up, h.rails, fun z => (h.line z).mono hJ⟩

/-- Between `u` and `v` the rails of the other sockets, the queues of the other zones, time and the profiles stand. -/
structure Alone (j : SocketId) (u v : State) : Prop where
  rail : ∀ i ≠ j, SameRail i u v
  time : SameTime u v
  queue : ∀ z ≠ zoneOf j, (v.zone z).rampQueue = (u.zone z).rampQueue
  laws : RailLaws v

theorem Alone.keeps (h : Alone j u v) {z : ZoneId} (hi : i ≠ j) : Keeps J z s u v i := (h.rail i hi).keeps h.time

/-- A change at one socket, by what becomes of its rail and of its zone's queue. -/
theorem Follows.own {K : SocketId → Prop} (h : Follows X J s u) (ha : Alone j u v) (hJ : ∀ i, J i → K i)
    (hup : free v j = true → (v.sock j).rail.state ≠ .off) (hrail : ¬ X j → RailFollowsSet j s v)
    (hline : LineMoves K s v (zoneOf j)) : Follows X K s v where
  inv := h.inv
  apart := h.apart
  laws := ha.laws
  up i := by
    by_cases hij : i = j
    · subst hij; exact hup
    · have hsame := ha.rail i hij
      unfold free
      rw [hsame.inhibit, hsame.state]
      exact h.up i
  rails i hi := by
    by_cases hij : i = j
    · subst hij; exact hrail hi
    · exact (ha.rail i hij).follows ha.time (h.rails i hi)
  line z := by
    by_cases hz : z = zoneOf j
    · subst hz; exact hline
    · exact ((h.line z).keep h.law2 (fun i hi => ha.keeps (by rintro rfl; exact hz hi.symm)) (ha.queue z hz)).mono hJ

/-- What no rail is touched by. -/
theorem Follows.frame (h : Follows X J s u) (hv : Stand railPieces u v) : Follows X J s v where
  inv := h.inv
  apart := h.apart
  laws := railLaws_of_stand hv.mono h.laws
  up i := by
    have hsame := sameRail_of_stand hv i
    unfold free
    rw [hsame.inhibit, hsame.state]
    exact h.up i
  rails i hi := (sameRail_of_stand hv i).follows (sameTime_of_stand hv) (h.rails i hi)
  line z := (h.line z).keep h.law2 (fun i _ => (sameRail_of_stand hv i).keeps (sameTime_of_stand hv))
    ((hv .queue rfl).zone z)

theorem Follows.touch {l : List Piece} (h : Follows X J s u) (hv : Touches l u v)
    (hd : disjoint railPieces l = true := by rfl) : Follows X J s v := h.frame (hv.stand hd)

/-! ## A grant -/

theorem Follows.grantOne (h : Follows X J s u) (z : ZoneId) : Follows X J s (grantOne z u) := by
  obtain ⟨he, -⟩ | ⟨i, rest, p, hq, hp, hlt, he⟩ := grantOne_cases z u
  · rw [he]; exact h
  · obtain ⟨hz, hst⟩ := mem_queue h.laws.2.1 (by rw [hq]; exact List.mem_cons_self : i ∈ (u.zone z).rampQueue)
    subst hz
    have he' : Machine.grantOne (zoneOf i) u = granted i rest p u := he
    rw [he']
    have hrail := granted_rail (i := i) (rest := rest) (p := p) (s := u)
    have hinh : free (granted i rest p u) i = free u i := by unfold free; rw [hrail, ramped_inhibit]
    have hup : (u.sock i).rail.state ≠ .off ∧ (u.sock i).rail.state ≠ .rest := by rw [hst]; simp
    have hfree := free_of_up h.laws hup.1 hup.2
    have hrise : ((granted i rest p u).sock i).rail.state = .ramp1 ∨ ((granted i rest p u).sock i).rail.state = .ramp2 := by
      rw [hrail]; exact ramped_ramping p u _
    have hqu : (u.zone (zoneOf i)).rampQueue = i :: ((granted i rest p u).zone (zoneOf i)).rampQueue := by
      rw [granted_queue, hq]
    have ha : Alone i u (granted i rest p u) := ⟨fun k hk => .of_rail (granted_else.rail k hk), ⟨granted_railProf, rfl⟩,
      fun y hy => granted_else.queue y hy, granted_rails h.laws hq hlt⟩
    refine h.own ha (fun _ => id) (fun _ => by rcases hrise with h | h <;> rw [h] <;> simp) (fun hX => ?_)
      ((h.line _).grant h.law2 (fun k hk _ => ha.keeps hk) hinh
        (fun hj => ⟨.inl hst, hj.2.1, fun _ => .inl hst⟩) ⟨p, (granted_railProf _).trans hp, ?_, ?_⟩ hqu)
    · obtain ⟨-, c2, -, c4, -, c6⟩ := h.rails i hX
      obtain ⟨-, c6on, c6ramp⟩ := c6 hfree
      have hfv : ((granted i rest p u).sock i).rail.inhibit.isEmpty = true := hinh.trans hfree
      refine ⟨fun _ _ _ => .inr hrise, fun h1 _ h3 => absurd ((c2 h1 hfree h3).1.symm.trans hst) (by simp),
        fun _ he => absurd (hfv.symm.trans he) (by simp), fun hr => absurd ((c4 hr).1.symm.trans hst) (by simp),
        fun _ he => absurd (hfv.symm.trans he) (by simp), fun _ => ⟨fun _ => .inr hrise,
          fun hon => absurd ((c6on hon).symm.trans hst) (by simp), fun hr => ?_⟩⟩
      rcases (c6ramp hr).1 with h | h <;> rw [hst] at h <;> exact absurd h (by simp)
    · rw [hrail]; unfold ramped; split <;> rfl
    · rw [hrail]
      unfold ramped
      split
      · rfl
      · exact ⟨rfl, rfl⟩

theorem Follows.grantSlots (h : Follows X J s u) (z : ZoneId) : Follows X J s (grantSlots z u) :=
  (h.grantOne z).grantOne z

/-! ## A change of one set -/

/-- A rail that opens from ON has the power figure 0, and one that opens from elsewhere has the figure it had (R28). -/
theorem openRail_power (d : RailState) (i : SocketId) (u : State) :
    ((openRail d i u).sock i).rail.power = if (u.sock i).rail.state = .on then 0 else (u.sock i).rail.power := by
  have h : openRail d i u = if (u.sock i).rail.state = .on then
      dropPass i (hbToIdle i (setPower i 0 (railOpened d i u))) else railOpened d i u := rfl
  rw [h]
  split
  · rw [(dropPass_touches i _).power i, (hbToIdle_touches i _).power i, RailEvents.setPower_rail]
  · rw [railOpened_rail_self]

/-- A rail that is down with a cause is down before, and waits in no queue. -/
theorem Follows.down (h : Follows X J s u) (hs : free s i = false) : RailDown s i := h.inv.1.2.2 i hs

theorem Follows.not_queued (h : Follows X J s u) (hs : ¬ X i → free s i = false) : (s.sock i).rail.state ≠ .queued := by
  by_cases hX : X i
  · exact h.apart i hX
  · intro hc
    rcases h.down (hs hX) with hd | hd <;> rw [hc] at hd <;> exact absurd hd (by simp)

/-- An upper rail opens for a cause that joins its empty set (R30). -/
theorem Follows.opens (h : Follows X J s u) (ha : Alone j u v) (hl : (u.sock j).rail.state.live = true)
    (hfall : ¬ X j → free s j = true) (hne : free v j = false) (hst : (v.sock j).rail.state = .off)
    (hoff : (v.sock j).rail.offTimer = u.offTimerNow j) (hpow : (u.sock j).rail.state = .on → (v.sock j).rail.power = 0)
    (hq : (v.zone (zoneOf j)).rampQueue = (u.zone (zoneOf j)).rampQueue.filter (· != j)) : Follows X J s v := by
  have hus : (u.sock j).rail.state ≠ .off ∧ (u.sock j).rail.state ≠ .rest := by
    constructor <;> intro hc <;> rw [hc] at hl <;> exact absurd hl (by decide)
  have hnf : ∀ {p : Prop}, free v j = true → p := fun hc => absurd (hne.symm.trans hc) (by simp)
  refine h.own ha (fun _ => id) hnf (fun hX => ?_)
    ((h.line _).leave h.law2 (fun i hi _ => ha.keeps hi) hne (by unfold RailRises; rw [hst]; simp) hq)
  obtain ⟨-, -, -, c4, -, c6⟩ := h.rails j hX
  obtain ⟨-, c6on, -⟩ := c6 (free_of_up h.laws hus.1 hus.2)
  refine ⟨fun _ hc _ => hnf hc, fun _ hc => hnf hc, fun hs _ => absurd hs ((h.inv.2.1 j).2.2 (hfall hX)),
    fun hs => absurd (c4 hs).1 hus.2, fun _ _ => ⟨hst, fun hon => hpow (c6on hon), ?_⟩, fun hc => hnf hc⟩
  unfold OffTimeStarted
  rw [hoff, ha.time.railProf, ha.time.now]
  unfold State.offTimerNow
  cases (u.zone (zoneOf j)).railProf <;> rfl

/-- A rail whose set is left empty joins the queue from OFF, or from REST at the end of its off-time (R29, R42). -/
theorem Follows.queues (h : Follows X J s u) (ha : Alone j u v)
    (hs : ¬ X j → free s j = false ∧ free u j = false ∧ (u.sock j).rail.state = .off ∧ (u.sock j).rail.offTimer = none)
    (hlast : ∀ i, J i → i < j) (he : free v j = true) (hst : (v.sock j).rail.state = .queued)
    (hq : (v.zone (zoneOf j)).rampQueue = (u.zone (zoneOf j)).rampQueue ++ [j]) :
    Follows X (fun i => J i ∨ i = j) s v := by
  refine h.own ha (fun _ => .inl) (fun _ => by rw [hst]; simp) (fun hX => ?_)
    ((h.line _).join h.law2 (fun i hi _ => ha.keeps hi) (h.not_queued fun hX => (hs hX).1) hlast (.inl hst) hq)
  obtain ⟨hfs, hfu, ho, htm⟩ := hs hX
  obtain ⟨-, -, c3, c4, -, -⟩ := h.rails j hX
  have hd := h.down hfs
  refine ⟨fun _ _ _ => .inl hst, fun hso _ htm' => ?_, fun _ hc => absurd (he.symm.trans hc) (by simp),
    fun hsr => absurd ((c4 hsr).1.symm.trans ho) (by simp), fun hsu => absurd hd hsu,
    fun _ => ⟨fun _ => .inl hst, fun hc => ?_, fun hc => ?_⟩⟩
  · rw [← (c3 hso hfu).2, htm] at htm'; exact absurd htm' (by simp)
  · rcases hd with hd | hd <;> rw [hc] at hd <;> exact absurd hd (by simp)
  · rcases hd with hd | hd <;> rw [hd] at hc <;> exact absurd hc (by simp)

/-- A rail in no slot and no queue, before and after, keeps its zone's queue. -/
theorem Follows.apart_line (h : Follows X J s u) (ha : Alone j u v) (hnq : (s.sock j).rail.state ≠ .queued)
    (hu : J j → ¬ RailRises u j) (hv : ¬ RailRises v j)
    (hq : (v.zone (zoneOf j)).rampQueue = (u.zone (zoneOf j)).rampQueue) : LineMoves J s v (zoneOf j) := by
  refine (h.line _).keep h.law2 (fun i hz => ?_) hq
  by_cases hij : i = j
  · subst hij
    refine ⟨fun hc => absurd hc hnq, fun hc => absurd hc.1 hv, fun hJ hc => absurd hc (hu hJ), fun hJ hc => ?_⟩
    obtain ⟨p, -, -, hr⟩ := hc
    refine absurd ?_ (hu (hJ.resolve_left hnq))
    by_cases h0 : p.i1 = 0
    · rw [if_pos h0] at hr; exact .inr (.inr hr)
    · rw [if_neg h0] at hr; exact .inr (.inl hr.1)
  · exact ha.keeps hij

/-- A rail whose set is left empty rests out its off-time (R29). -/
theorem Follows.rests (h : Follows X J s u) (ha : Alone j u v)
    (hs : ¬ X j → free s j = false) (hfu : free u j = false) (ho : (u.sock j).rail.state = .off)
    (htm : (u.sock j).rail.offTimer.isSome = true) (he : free v j = true) (hst : (v.sock j).rail.state = .rest)
    (hoff : (v.sock j).rail.offTimer = (u.sock j).rail.offTimer)
    (hq : (v.zone (zoneOf j)).rampQueue = (u.zone (zoneOf j)).rampQueue) : Follows X J s v := by
  have hnq := h.not_queued hs
  refine h.own ha (fun _ => id) (fun _ => by rw [hst]; simp) (fun hX => ?_)
    (h.apart_line ha hnq (fun _ => by unfold RailRises; rw [ho]; simp) (by unfold RailRises; rw [hst]; simp) hq)
  obtain ⟨-, -, c3, c4, -, -⟩ := h.rails j hX
  have hd := h.down (hs hX)
  refine ⟨fun hso _ htm' => ?_, fun hso _ _ => ⟨hst, hoff.trans (c3 hso hfu).2⟩,
    fun _ hc => absurd (he.symm.trans hc) (by simp), fun hsr => absurd ((c4 hsr).1.symm.trans ho) (by simp),
    fun hsu => absurd hd hsu, fun _ => ⟨fun hc => absurd hc hnq, fun hc => ?_, fun hc => ?_⟩⟩
  · rw [← (c3 hso hfu).2] at htm'; rw [htm'] at htm; exact absurd htm (by simp)
  · rcases hd with hd | hd <;> rw [hc] at hd <;> exact absurd hd (by simp)
  · rcases hd with hd | hd <;> rw [hd] at hc <;> exact absurd hc (by simp)

/-- A rail in REST was there before, where its set is not empty or was so before (R42). -/
theorem Follows.rest_before (h : Follows X J s u) (hX : ¬ X j) (hrest : (u.sock j).rail.state = .rest)
    (hfree : free u j = true → free s j = true) : (s.sock j).rail.state = .rest := by
  obtain ⟨-, -, c3, -, c5, c6⟩ := h.rails j hX
  by_contra hne
  cases hf : free u j with
  | false =>
    by_cases ho : (s.sock j).rail.state = .off
    · exact absurd ((c3 ho hf).1.symm.trans hrest) (by simp)
    · exact absurd ((c5 (not_or.mpr ⟨ho, hne⟩) hf).1.symm.trans hrest) (by simp)
  | true =>
    obtain ⟨c6q, c6on, c6r⟩ := c6 hf
    have hnr : ¬ RailRises u j := by unfold RailRises; rw [hrest]; simp
    cases hs : (s.sock j).rail.state with
    | queued => exact hnr (c6q hs)
    | on => exact absurd ((c6on hs).symm.trans hrest) (by simp)
    | ramp1 => exact hnr (.inr (c6r (.inl hs)).1)
    | ramp2 => exact hnr (.inr (c6r (.inr hs)).1)
    | rest => exact hne hs
    | off => exact (h.inv.2.1 j).2.2 (hfree hf) hs

/-- A rail that its set's change leaves where it is: in REST where the set is emptied or no more empty. -/
theorem Follows.stays (h : Follows X J s u) (ha : Alone j u v)
    (hfree : free v j = free u j ∨ (u.sock j).rail.state = .rest ∧ (s.sock j).rail.state ≠ .queued ∧
      (¬ X j → (s.sock j).rail.state = .rest))
    (hst : (v.sock j).rail.state = (u.sock j).rail.state) (hoff : (v.sock j).rail.offTimer = (u.sock j).rail.offTimer)
    (hramp : (v.sock j).rail.rampTimer = (u.sock j).rail.rampTimer)
    (hph : (v.sock j).rail.phase1Timer = (u.sock j).rail.phase1Timer)
    (hpow : (u.sock j).rail.power = 0 → (v.sock j).rail.power = 0)
    (hq : (v.zone (zoneOf j)).rampQueue = (u.zone (zoneOf j)).rampQueue) : Follows X J s v := by
  rcases hfree with hfree | ⟨hrest, hnq, hsr⟩
  · refine h.own ha (fun _ => id) (by rw [hfree, hst]; exact h.up j)
      (fun hX => follows_congr hst hfree hoff hramp hpow ha.time (h.rails j hX)) ((h.line _).keep h.law2 (fun i hz => ?_) hq)
    by_cases hij : i = j
    · subst hij
      refine ⟨fun _ => hfree, ?_, fun _ => ?_, fun _ => ?_⟩
      · unfold Joins RailRises; rw [hst, hramp]; exact id
      · unfold RailRises; rw [hst]; exact id
      · unfold Ramping; rw [hst, hramp, hph, ha.time.railProf, ha.time.now]; exact id
    · exact ha.keeps hij
  · have hvr := hst.trans hrest
    refine h.own ha (fun _ => id) (fun _ => by rw [hvr]; simp) (fun hX => ?_)
      (h.apart_line ha hnq (fun _ => by unfold RailRises; rw [hrest]; simp) (by unfold RailRises; rw [hvr]; simp) hq)
    have hsr := hsr hX
    obtain ⟨-, -, -, c4, -, -⟩ := h.rails j hX
    refine ⟨fun ho => absurd (hsr.symm.trans ho) (by simp), fun ho => absurd (hsr.symm.trans ho) (by simp),
      fun ho => absurd (hsr.symm.trans ho) (by simp), fun _ => ⟨hvr, hoff.trans (c4 hsr).2⟩,
      fun hup => absurd (.inr hsr) hup, fun _ => ⟨fun hc => absurd hc hnq, fun hc => absurd (hsr.symm.trans hc) (by simp),
        fun hc => ?_⟩⟩
    rcases hc with hc | hc <;> exact absurd (hsr.symm.trans hc) (by simp)

/-- A change of its set moves its own rail alone, and a rail that it opens from ON has the power figure 0. -/
theorem change_moves (f : Inhibit → Inhibit) (j : SocketId) (u : State) :
    ∃ w, InhibitMoves f j u w ∧ Touches openAfter w (changeInhibitNoGrant f j u) ∧
      (∀ i ≠ j, SameRail i u (changeInhibitNoGrant f j u)) ∧ SameTime u (changeInhibitNoGrant f j u) ∧
      (∀ z ≠ zoneOf j, ((changeInhibitNoGrant f j u).zone z).rampQueue = (u.zone z).rampQueue) ∧
      ((u.sock j).rail.state = .on → (f (u.sock j).rail.inhibit).isEmpty = false →
        (u.sock j).rail.inhibit.isEmpty = true → ((changeInhibitNoGrant f j u).sock j).rail.power = 0) ∧
      ((u.sock j).rail.power = 0 → ((changeInhibitNoGrant f j u).sock j).rail.power = 0) := by
  obtain ⟨w, helse, hmoves, hafter, hplain⟩ := changeInhibitNoGrant_core f j u
  have hels := changeInhibitNoGrant_elsewhere j u f
  refine ⟨w, hmoves, hafter, fun i hi => ?_, ⟨fun z => (hafter.railProf z).trans (hplain.railProf z),
    hafter.now.trans hplain.now⟩, fun z hz => (hafter.queue z).trans (helse.queue z hz), fun hon hne he => ?_,
    fun h0 => ?_⟩
  · obtain ⟨h1, -, h3, h4⟩ := hels .timers rfl i hi
    exact ⟨hels.railState hi, hels.inhibit hi, h1, h4, h3, hels.power hi⟩
  · obtain ⟨-, -, h⟩ | ⟨hoff, -⟩ | ⟨hoff, -⟩ | ⟨hdown, -⟩ := changeInhibitNoGrant_cases f j u
    · rw [h]
      rw [openRail_power, if_pos (by rw [modRail_rail_self]; exact hon)]
    · exact absurd (hoff.symm.trans hon) (by simp)
    · exact absurd (hoff.symm.trans hon) (by simp)
    · rcases hdown hne with h | h | h
      · exact absurd (he.symm.trans h) (by simp)
      · exact absurd (hon.symm.trans h) (by simp)
      · exact absurd (hon.symm.trans h) (by simp)
  · obtain ⟨-, -, h⟩ | ⟨-, -, -, h⟩ | ⟨-, -, -, h⟩ | ⟨-, -, h⟩ := changeInhibitNoGrant_cases f j u
    · rw [h, openRail_power, modRail_rail_self]
      split
      · rfl
      · exact h0
    · rw [h, joinQueue_rail, modRail_rail_self]; exact h0
    · rw [h, modRail_rail_self, modRail_rail_self]; exact h0
    · rw [h, modRail_rail_self]; exact h0

/-- A change of one set: its socket demands where the set is left empty, and opens where a cause joins an empty one. -/
theorem Follows.change (h : Follows X J s u) (f : Inhibit → Inhibit) (j : SocketId)
    (hrise : free u j = false → (f (u.sock j).rail.inhibit).isEmpty = true →
      (¬ X j → free s j = false) ∧ ∀ i, J i → i < j)
    (hfall : ¬ X j → free u j = true → (f (u.sock j).rail.inhibit).isEmpty = false → free s j = true) :
    Follows X (fun i => J i ∨ i = j ∧ free u j = false ∧ (f (u.sock j).rail.inhibit).isEmpty = true) s
      (changeInhibitNoGrant f j u) := by
  obtain ⟨w, hmoves, hafter, hother, ht, hqueue, hpow, hpow0⟩ := change_moves f j u
  have ha : Alone j u (changeInhibitNoGrant f j u) := ⟨hother, ht, hqueue, changeInhibitNoGrant_rails f j u h.laws⟩
  have hfree : free (changeInhibitNoGrant f j u) j = (f (u.sock j).rail.inhibit).isEmpty := by
    unfold free; rw [changeInhibitNoGrant_inhibit, if_pos rfl]
  have hst := hafter.railState j
  obtain ⟨hoff, -, hph, hramp⟩ := hafter.timers j
  have hqj := hafter.queue (zoneOf j)
  have hoffset : (u.sock j).rail.state = .off → free u j = false := fun ho => by
    by_contra hc
    exact h.up j (by simpa using hc) ho
  obtain ⟨hl, hne, hq, hr⟩ | ⟨ho, htm, he, hq, hr⟩ | ⟨ho, htm, he, hq, hr⟩ | ⟨hdn, hem, hq, hr⟩ := hmoves
  all_goals rw [hr] at hst hoff hph hramp
  · have hfu := free_of_up h.laws (i := j) (by rintro hc; rw [hc] at hl; exact absurd hl (by decide))
      (by rintro hc; rw [hc] at hl; exact absurd hl (by decide))
    exact (h.opens ha hl (fun hX => hfall hX hfu hne) (hfree.trans hne) hst hoff (fun hon => hpow hon hne hfu)
      (hqj.trans hq)).mono fun _ => .inl
  · obtain ⟨hs, hlast⟩ := hrise (hoffset ho) he
    exact (h.queues ha (fun hX => ⟨hs hX, hoffset ho, ho, htm⟩) hlast (hfree.trans he) hst (hqj.trans hq)).mono
      fun i => Or.imp id fun hij => ⟨hij, hoffset ho, he⟩
  · exact (h.rests ha (hrise (hoffset ho) he).1 (hoffset ho) ho htm (hfree.trans he) hst hoff (hqj.trans hq)).mono
      fun _ => .inl
  · refine (h.stays ha ?_ hst hoff hramp hph hpow0 (hqj.trans hq)).mono fun _ => .inl
    rw [hfree]
    by_cases hsame : (f (u.sock j).rail.inhibit).isEmpty = free u j
    · exact .inl hsame
    · right
      cases hf : free u j with
      | false =>
        have he : (f (u.sock j).rail.inhibit).isEmpty = true := by simpa [hf] using hsame
        have hs := (hrise hf he).1
        have hrest := (h.laws.2.2 j hf).resolve_left ((hem he).resolve_left fun hc => absurd (hf.symm.trans hc) (by simp))
        exact ⟨hrest, h.not_queued hs, fun hX => h.rest_before hX hrest fun hc => absurd (hf.symm.trans hc) (by simp)⟩
      | true =>
        have hne : (f (u.sock j).rail.inhibit).isEmpty = false := by simpa [hf] using hsame
        have hrest := ((hdn hne).resolve_left fun hc => absurd (hf.symm.trans hc) (by simp)).resolve_left (h.up j hf)
        have hsr : ¬ X j → (s.sock j).rail.state = .rest := fun hX => h.rest_before hX hrest fun _ => hfall hX hf hne
        refine ⟨hrest, ?_, hsr⟩
        by_cases hX : X j
        · exact h.apart j hX
        · rw [hsr hX]; simp

/-! ## Beginning, events of a rail's own, and loops -/

/-- A state whose queues and sets stand, and whose rails have moved from RAMP-1 to RAMP-2 at most. -/
theorem follows_start (hs : RailInv s) (hX : ∀ i, X i → (s.sock i).rail.state ≠ .queued) (hv : RailLaws v)
    (hfree : ∀ i, free v i = free s i) (hstate : ∀ i, (v.sock i).rail.state = (s.sock i).rail.state ∨
      (s.sock i).rail.state = .ramp1 ∧ (v.sock i).rail.state = .ramp2)
    (hoff : ∀ i, (v.sock i).rail.offTimer = (s.sock i).rail.offTimer)
    (hramp : ∀ i, (v.sock i).rail.rampTimer = (s.sock i).rail.rampTimer)
    (hq : ∀ z, (v.zone z).rampQueue = (s.zone z).rampQueue) : Follows X (fun _ => False) s v := by
  obtain ⟨⟨h1, h2, h3⟩, hrails, h4⟩ := hs
  have hup : ∀ i, free s i = true → (s.sock i).rail.state ≠ .off := fun i => (hrails i).2.2
  have hsame : ∀ i, (s.sock i).rail.state ≠ .ramp1 → (v.sock i).rail.state = (s.sock i).rail.state := fun i hi =>
    (hstate i).resolve_right fun h => hi h.1
  refine ⟨⟨⟨h1, h2, h3⟩, hrails, h4⟩, hX, hv, fun i hf => ?_, fun i _ => ?_, fun z => ?_⟩
  · rcases hstate i with h | ⟨-, h⟩ <;> rw [h]
    · exact hup i ((hfree i).symm.trans hf)
    · simp
  · refine ⟨fun ho hf => absurd ho (hup i ((hfree i).symm.trans hf)), fun ho hf => absurd ho (hup i ((hfree i).symm.trans hf)),
      fun ho _ => ⟨(hsame i (by rw [ho]; simp)).trans ho, hoff i⟩, fun hr => ⟨(hsame i (by rw [hr]; simp)).trans hr, hoff i⟩,
      fun hu hf => absurd (h3 i ((hfree i).symm.trans hf)) hu, fun _ => ⟨fun hr => ?_, fun hr => ?_, fun hr => ?_⟩⟩
    · exact .inl ((hsame i (by rw [hr]; simp)).trans hr)
    · exact (hsame i (by rw [hr]; simp)).trans hr
    · refine ⟨?_, hramp i⟩
      rcases hstate i with h | ⟨-, h⟩ <;> rw [h]
      · exact hr
      · exact .inr rfl
  · refine ⟨[], [], List.Pairwise.nil, fun i hi => absurd hi (by simp), fun i _ hi => ?_, ?_, fun i hi => absurd hi (by simp)⟩
    · obtain ⟨hrise, hne, hr⟩ := hi
      exfalso
      rcases hstate i with h | ⟨h1, h⟩
      · unfold RailRises at hrise
        rw [h] at hrise
        rcases hr (hrise.resolve_left hne) with h' | h'
        · exact hne (h.symm.trans h')
        · exact h' (hramp i)
      · rcases hr (.inl h1) with h' | h'
        · exact absurd (h.symm.trans h') (by simp)
        · exact h' (hramp i)
    · rw [hq, List.append_nil, List.nil_append, List.filter_eq_self]
      intro i hi
      rw [hfree]
      have hqd := (mem_queue h2 hi).2
      exact free_of_up ⟨h1, h2, h3⟩ (by rw [hqd]; simp) (by rw [hqd]; simp)

theorem follows_refl (hs : RailInv s) : Follows (fun _ => False) (fun _ => False) s s :=
  follows_start hs (fun _ h => h.elim) hs.1 (fun _ => rfl) (fun _ => .inl rfl) (fun _ => rfl) (fun _ => rfl) fun _ => rfl

/-- A rail with an event of its own leaves its slot. -/
theorem Follows.aside (h : Follows X J s u) (hX : X j) (hJ : ¬ J j) (ha : Alone j u v)
    (hup : free v j = true → (v.sock j).rail.state ≠ .off) (hv : ¬ RailRises v j)
    (hq : (v.zone (zoneOf j)).rampQueue = (u.zone (zoneOf j)).rampQueue) : Follows X J s v :=
  h.own ha (fun _ => id) hup (fun hn => absurd hX hn)
    (h.apart_line ha (h.apart j hX) (fun h => absurd h hJ) hv hq)

/-- What a change of a set asks: a set is emptied only where it was not empty before, and a cause joins an empty one only
where it was empty before. -/
def Fits (X : SocketId → Prop) (s : State) (j : SocketId) (old new : Bool) : Prop :=
  ¬ X j → (old = false → new = true → free s j = false) ∧ (old = true → new = false → free s j = true)

/-- The changes of several sets, in ascending number. -/
theorem Follows.changes (f : SocketId → Inhibit → Inhibit) : ∀ (l : List SocketId), l.Pairwise (· < ·) →
    ∀ (J : SocketId → Prop) (u : State), Follows X J s u → (∀ i, J i → ∀ k ∈ l, i < k) →
    (∀ k ∈ l, Fits X s k (free u k) (f k (u.sock k).rail.inhibit).isEmpty) →
    ∃ K, Follows X K s (forEach l (fun i => changeInhibitNoGrant (f i) i) u) := by
  intro l
  induction l with
  | nil => intro _ J u h _ _; exact ⟨J, h⟩
  | cons a l ih =>
    intro hl J u h hJ hfit
    obtain ⟨ha, hl⟩ := List.pairwise_cons.mp hl
    have hfa := hfit a List.mem_cons_self
    have hstep := h.change (f a) a (fun h1 h2 => ⟨fun hX => (hfa hX).1 h1 h2, fun i hi => hJ i hi a List.mem_cons_self⟩)
      (fun hX h1 h2 => (hfa hX).2 h1 h2)
    refine ih hl _ _ hstep (fun i hi k hk => ?_) fun k hk => ?_
    · rcases hi with hi | ⟨rfl, -⟩
      · exact hJ i hi k (List.mem_cons_of_mem a hk)
      · exact ha k hk
    · have hka : k ≠ a := fun h => lt_irrefl a (h ▸ ha k hk)
      unfold free
      rw [changeInhibitNoGrant_inhibit, if_neg hka]
      exact hfit k (List.mem_cons_of_mem a hk)

theorem Follows.changeInhibits (h : Follows X (fun _ => False) s u) {l : List SocketId} {f : SocketId → Inhibit → Inhibit}
    (hl : l.Pairwise (· < ·)) (hfit : ∀ k ∈ l, Fits X s k (free u k) (f k (u.sock k).rail.inhibit).isEmpty) :
    ∃ K, Follows X K s (changeInhibits l f u) := by
  obtain ⟨K, hK⟩ := h.changes f l hl _ _ (fun _ h => h.elim) hfit
  exact ⟨K, forEach_keeps (P := Follows X K s) (fun z _ _ ht => ht.grantSlots z) _ hK⟩

theorem Follows.changeInhibit (h : Follows X (fun _ => False) s u) {f : Inhibit → Inhibit} {j : SocketId}
    (hfit : Fits X s j (free u j) (f (u.sock j).rail.inhibit).isEmpty) :
    ∃ K, Follows X K s (changeInhibit f j u) :=
  ⟨_, (h.change f j (fun h1 h2 => ⟨fun hX => (hfit hX).1 h1 h2, fun _ h => h.elim⟩)
    fun hX h1 h2 => (hfit hX).2 h1 h2).grantSlots _⟩

/-- What has followed so far is what the rules state. -/
theorem Follows.stated (h : Follows X J s u) :
    (∀ i, ¬ X i → RailFollowsSet i s u) ∧ ∀ z, QueueMoves z s u :=
  ⟨h.rails, fun z => (h.line z).queueMoves h.law2 h.laws.2.1⟩

theorem allSockets_pairwise : allSockets.Pairwise (· < ·) := List.pairwise_lt_finRange 32

end

end Sys2Proof.Proofs.RailsFollow

/-! What is kept wherever causes join sets and none is taken that a set needs: said once of the retirements, the records
and the verdicts, which change the sets of other sockets as they go. -/

namespace Sys2Proof.Proofs.RailsFollow

open Sys2Proof.Machine Sys2Proof.Safety Sys2Proof.Proofs.Requests Sys2Proof.Proofs.Frames

/-- A property of the rails that stands through grants, through all that touches no rail, and through the changes of a set
that `S` lets pass. -/
structure SinkRule (S : SocketId → Inhibit → Inhibit → Prop) (P : State → Prop) : Prop where
  frame : ∀ {u v : State}, P u → Stand (.record :: railPieces) u v → P v
  change : ∀ {u : State} (f : Inhibit → Inhibit) (j : SocketId), P u →
    S j (u.sock j).rail.inhibit (f (u.sock j).rail.inhibit) → P (changeInhibitNoGrant f j u)
  grant : ∀ {u : State} (z : ZoneId), P u → P (grantSlots z u)

/-- The changes that the end of a run makes of every set pass: RUN joins it and PERMIT leaves it, and then COLD and
SENSOR do (R16, R54). -/
def Ending (S : SocketId → Inhibit → Inhibit → Prop) (u : State) : Prop := ∀ j,
  S j (u.sock j).rail.inhibit (endInhibit u j (u.sock j).rail.inhibit) ∧
    S j (endInhibit u j (u.sock j).rail.inhibit) (warm (endInhibit u j (u.sock j).rail.inhibit))

/-- The changes that a final socket's set goes through pass: FINAL joins it, and then COLD and SENSOR leave it (R157). -/
def Finals (S : SocketId → Inhibit → Inhibit → Prop) (j : SocketId) (x : Inhibit) : Prop :=
  S j x (x.put .final true) ∧ S j (x.put .final true) (warm (x.put .final true))

section
variable {S : SocketId → Inhibit → Inhibit → Prop} {P : State → Prop} {u v : State} {i : SocketId}

theorem SinkRule.touch (R : SinkRule S P) (h : P u) {l : List Piece} (hv : Touches l u v)
    (hd : disjoint (.record :: railPieces) l = true := by rfl) : P v := R.frame h (hv.stand hd)

theorem SinkRule.changeInhibit (R : SinkRule S P) (h : P u) {f : Inhibit → Inhibit}
    (hS : S i (u.sock i).rail.inhibit (f (u.sock i).rail.inhibit)) : P (changeInhibit f i u) :=
  R.grant _ (R.change f i h hS)

theorem SinkRule.thermOff (R : SinkRule S P) (h : P u)
    (hS : S i (u.sock i).rail.inhibit (warm (u.sock i).rail.inhibit)) : P (thermOff i u) := by
  have ht := modTherm_touches i heaterOff u
  rw [thermOff_eq]
  refine R.changeInhibit (R.touch h ht) ?_
  rw [ht.inhibit i]
  exact hS

/-- A loop of changes, one of each set. -/
theorem SinkRule.changes (R : SinkRule S P) {g : SocketId → State → State} {f : SocketId → Inhibit → Inhibit}
    (hg : ∀ i t, P t → S i (t.sock i).rail.inhibit (f i (t.sock i).rail.inhibit) → P (g i t))
    (hinh : ∀ i t, ∀ j ≠ i, ((g i t).sock j).rail.inhibit = (t.sock j).rail.inhibit) :
    ∀ (l : List SocketId), l.Nodup → ∀ u, P u →
      (∀ k ∈ l, S k (u.sock k).rail.inhibit (f k (u.sock k).rail.inhibit)) → P (forEach l g u) := by
  have _ := R
  intro l
  induction l with
  | nil => intro _ u h _; exact h
  | cons a l ih =>
    intro hl u h hS
    obtain ⟨ha, hl⟩ := List.nodup_cons.mp hl
    refine ih hl _ (hg a u h (hS a List.mem_cons_self)) fun k hk => ?_
    rw [hinh a u k (by rintro rfl; exact ha hk)]
    exact hS k (List.mem_cons_of_mem a hk)

theorem SinkRule.changeInhibits (R : SinkRule S P) (h : P u) {l : List SocketId} {f : SocketId → Inhibit → Inhibit}
    (hl : l.Nodup) (hS : ∀ k ∈ l, S k (u.sock k).rail.inhibit (f k (u.sock k).rail.inhibit)) :
    P (changeInhibits l f u) :=
  forEach_keeps (P := P) (fun z _ _ ht => R.grant z ht) _
    (R.changes (g := fun i => changeInhibitNoGrant (f i) i) (fun i _ ht hi => R.change (f i) i ht hi)
      (fun i t j hj => by rw [changeInhibitNoGrant_inhibit, if_neg hj]) l hl u h hS)

theorem SinkRule.endRun (R : SinkRule S P) (st : RunState) (h : P u) (hS : Ending S u) : P (endRun st u) := by
  have h0 := runEnded_plain st u
  have h1 : P (runEnded st u) := R.touch h h0
  have h2 : P (railsEnded st u) := R.changeInhibits h1 allSockets_nodup fun k _ => by
    rw [h0.inhibit k]; exact (hS k).1
  have h3 : P (heatersEnded st u) := R.changes (f := fun _ => warm) (fun i t ht hi => R.thermOff ht hi)
    (fun i t j hj => by rw [thermOff_inhibit, if_neg hj]) allSockets allSockets_nodup _ h2 fun k _ => by
      unfold railsEnded
      rw [changeInhibits_inhibit _ _ _ allSockets_nodup, if_pos (mem_allSockets k), h0.inhibit k]
      exact (hS k).2
  exact R.touch (R.touch h3 (zonesEnded_touches st u)) (endRun_after st u)

theorem SinkRule.finishTest (R : SinkRule S P) (h : P u) (hS : u.finishDue = true → Ending S u) : P (finishTest u) := by
  unfold Machine.finishTest
  split
  · rename_i hf; exact R.endRun _ h (hS hf)
  · exact h

theorem SinkRule.finalEffects (R : SinkRule S P) (h : P u) (hS : Finals S i (u.sock i).rail.inhibit) :
    P (finalEffects i u) := by
  have h1 : P (addCause .final i u) := R.changeInhibit h hS.1
  have h2 : P (finalCut i u) := R.thermOff h1 (by rw [addCause_inhibit, if_pos rfl]; exact hS.2)
  exact R.touch h2 (finalEffects_after i u)

/-- A retirement, with the end of the run that it may bring. -/
theorem SinkRule.retire (R : SinkRule S P) (d : Option Deciding) (h : P u) (hS : Finals S i (u.sock i).rail.inhibit)
    (hend : ∀ w, P w → Touches (.urgent :: finalWork) (modSock i (retiredSock d) u) w → Law.final.Kept u w →
      w.finishDue = true → Ending S w) : P (retire i d u) := by
  have h0 := retiredSock_plain i d u
  have h1 : P (Machine.finalEffects i (modSock i (retiredSock d) u)) :=
    R.finalEffects (R.touch h h0) (by rw [h0.inhibit i]; exact hS)
  have hn := sendUrgent_touches (.socket i) (.retired (d.map (·.kind))) (Machine.finalEffects i (modSock i (retiredSock d) u))
  rw [retire_eq]
  exact R.finishTest (R.touch h1 hn) (hend _ (R.touch h1 hn) ((finalEffects_touches i _).comp hn)
    ((final_kept i (retiredSock d) u).trans (hn.law .final)))

end

/-- A rule that lets every cause join, and every end of a run pass. -/
structure FallRule (S : SocketId → Inhibit → Inhibit → Prop) (P : State → Prop) : Prop extends SinkRule S P where
  put : ∀ i c x, S i x (x.put c true)
  cut : ∀ i x, x.final = true → S i x (warm x)
  ended : ∀ u, P u → Ending S u

section
variable {S : SocketId → Inhibit → Inhibit → Prop} {P : State → Prop} {u v : State} (R : FallRule S P)
include R

theorem FallRule.finals (i : SocketId) (x : Inhibit) : Finals S i x := ⟨R.put i .final x, R.cut i _ rfl⟩

theorem FallRule.addCause (c : Cause) (i : SocketId) (h : P u) : P (addCause c i u) := R.changeInhibit h (R.put i c _)

theorem FallRule.endsRun (st : RunState) (h : P u) : P (endRun st u) := R.endRun st h (R.ended u h)

theorem FallRule.finish (h : P u) : P (finishTest u) := R.finishTest h fun _ => R.ended u h

theorem FallRule.retires (i : SocketId) (d : Option Deciding) (h : P u) : P (retire i d u) :=
  R.retire d h (R.finals i _) fun w hw _ _ _ => R.ended w hw

theorem FallRule.recordWith (i : SocketId) (k : FailKind) (d : Detail) (n : Option Nat) (x : Disp) (h : P u) :
    P (recordWith i k d n x u) := by
  obtain ht | ⟨r, e, he⟩ := recordWith_or i k d n x u
  · exact R.touch h ht
  · rw [he]; exact R.retires i e (R.touch h (recorded_touches i r u))

theorem FallRule.failRecord (i : SocketId) (k : FailKind) (d : Detail) (h : P u) : P (failRecord i k d u) :=
  R.recordWith i k d _ _ h

theorem FallRule.resetRequest (i : SocketId) (h : P u) : P (resetRequest i u) := by
  have h1 : P (resetCycle i u) := R.touch h (resetCycle_touches i u)
  unfold Machine.resetRequest
  split
  · exact R.failRecord i _ _ h1
  · exact h1

theorem FallRule.mismatchRecord (i : SocketId) (k : FailKind) (d : Detail) (n : Nat) (h : P u) :
    P (mismatchRecord i k d n u) := by
  have h1 : P (Machine.recordWith i k d (some n) (u.dispTaken k) u) := R.recordWith i k d _ _ h
  simp only [Machine.mismatchRecord]
  split
  · exact R.resetRequest i h1
  · exact h1

theorem FallRule.judgeOne (c : CheckZone) (i : SocketId) (h : P u) : P (judgeOne c i u) := by
  rw [judgeOne_eq]
  have h1 : ∀ b, P (modPass i (judgedPass b) u) := fun b =>
    R.touch h (judgeCounts_touches i (judgedPass b) (fun _ => rfl) u)
  have h2 : ∀ p t, P t → P (strobeVerdict c i p t) := fun p t ht => by
    unfold strobeVerdict
    split
    · exact R.mismatchRecord i _ _ _ ht
    · exact ht
  have h3 : ∀ p t, P t → P (signatureVerdict c i p t) := fun p t ht => by
    unfold signatureVerdict
    split
    · exact R.mismatchRecord i _ _ _ ht
    · exact ht
  exact h3 _ _ (h2 _ _ (h1 _))

theorem FallRule.endPass (z : ZoneId) (h : P u) : P (endPass z u) := by
  have h1 : P (passJudged z u) := by
    unfold passJudged
    split
    · exact forEach_keeps (P := P) (fun i _ _ ht => R.judgeOne _ i ht) _ (R.touch h (closePass_touches z u))
    · exact R.touch h (voidEnd_touches z u)
  rw [endPass_eq]
  split
  · rename_i hp
    exact R.touch (R.touch h1 (swapProgram_touches z _)) (placeZone_keeps (.inl (by rw [swapProgram_state, hp]; simp)))
  · exact h1

theorem FallRule.nextVector {z : ZoneId} (t : PageTag) (vs : List Vec) (v : Vec) (hp : (u.zone z).seq.state = .playing)
    (h : P u) : P (nextVector z t vs v u) := by
  simp only [Machine.nextVector]
  split
  · exact R.touch h (stepVec_touches z _ _ u)
  · split_ifs
    · exact R.endPass z h
    · exact R.touch h (stepVec_touches z _ _ u)
    · exact R.touch h (pageChange_touches hp)

theorem FallRule.creditOne (i : SocketId) (h : P u) : P (creditOne i u) := by
  obtain he | ⟨hlife, -, ⟨-, he⟩ | ⟨-, he⟩⟩ := creditOne_cases i u <;> rw [he]
  · exact h
  · exact R.touch h (credited_touches hlife)
  · have h1 : P (credited i u) := R.touch h (credited_touches hlife)
    have h2 := setLife_touches i (fun _ => .complete) (credited i u)
    exact R.touch (R.finalEffects (R.touch h1 h2) (R.finals i _)) (complete_after i (credited i u))

theorem FallRule.hbFailure (i : SocketId) (k : FailKind) (d : Detail) (h : P u) : P (hbFailure i k d u) := by
  have h1 : P (hbApply (u.disposition k) i u) := R.touch h (hbApply_touches _ i u)
  have h2 := fun n x => R.recordWith i k d n x h1
  simp only [Machine.hbFailure]
  split
  · exact R.failRecord i _ _ (h2 _ _)
  · exact h2 _ _

theorem FallRule.tripRecords (p : RailProfile) (i : SocketId) (k : FailKind) (n : Nat) (ph : RailState)
    (h : P (restRail i u)) : P (tripRecords p i k n ph u) := by
  have h1 : P (modRail i (fun r => { r with trips := incTo 16 r.trips }) (restRail i u)) :=
    R.touch h (setTrips_touches i (incTo 16) _)
  have h2 := R.failRecord i k (.rail n ph) h1
  unfold Frames.tripRecords
  simp only
  split
  · exact R.failRecord i _ _ h2
  · exact h2

theorem FallRule.permitRails (h : P u) : P (permitRails u) :=
  R.changeInhibits (R.touch h (heldAs_plain .held { u.run.holds with permit := true } u)) (allSockets_nodup.filter _)
    fun k _ => R.put k .permit _

theorem FallRule.permitLost (h : P u) : P (permitLost u) := by
  rw [permitLost_eq]
  have h1 : P (permitHeaters u) := R.touch (R.permitRails h) (permitHeaters_touches u)
  have h2 : ∀ t, P t → P (runStateNotice true t) := fun t ht => R.touch ht (runStateNotice_touches true t)
  split
  · refine h2 _ ?_
    split
    · exact R.touch h1 (holdBlocks_touches _)
    · exact h1
  · exact h

end

/-! ## The rails follow where causes join -/

/-- The causes that a set must keep while others join it: it is emptied only where it was empty, and keeps RUN. -/
def Joining (_ : SocketId) (old new : Inhibit) : Prop :=
  (new.isEmpty = true → old.isEmpty = true) ∧ (old.run = true → new.run = true)

theorem joining_put (i : SocketId) (c : Cause) (x : Inhibit) : Joining i x (x.put c true) := by
  refine ⟨fun h => ?_, fun h => retains_put_true c .run x h⟩
  cases c <;> simp [Inhibit.put, Inhibit.isEmpty] at h

/-- Where a set is left with a cause, its change adds none and takes no RUN. -/
theorem joining_of_nonempty {i : SocketId} {old new : Inhibit} (h : new.isEmpty = false)
    (hrun : old.run = true → new.run = true) : Joining i old new :=
  ⟨fun he => absurd (h.symm.trans he) (by simp), hrun⟩

theorem nonempty_of_final {x : Inhibit} (h : x.final = true) : x.isEmpty = false := by simp [Inhibit.isEmpty, h]

theorem nonempty_of_run {x : Inhibit} (h : x.run = true) : x.isEmpty = false := by simp [Inhibit.isEmpty, h]

/-- RUN stands in the set of every socket that is not declared. -/
def Undeclared (u : State) : Prop := ∀ j, u.declared j = false → (u.sock j).rail.inhibit.run = true

theorem undeclared_of_stand {u v : State} (h : Undeclared u) (hv : Stand (.record :: railPieces) u v) : Undeclared v := by
  intro j hj
  have hrec : v.run.record = u.run.record := (hv .record rfl).board
  have hinh := (hv .inhibit rfl).sock j
  unfold State.declared at hj
  rw [hrec] at hj
  rw [hinh]
  exact h j hj

theorem undeclared_of_change {u : State} {f : Inhibit → Inhibit} {j : SocketId} (h : Undeclared u)
    (hf : (u.sock j).rail.inhibit.run = true → (f (u.sock j).rail.inhibit).run = true) :
    Undeclared (changeInhibitNoGrant f j u) := by
  intro i hi
  rw [changeInhibitNoGrant_inhibit]
  rw [(changeInhibitNoGrant_touches f j u).declared i] at hi
  split
  · rename_i hij; subst hij; exact hf (h i hi)
  · exact h i hi

/-- RUN stands for every socket as a run ends: declared or not. -/
theorem ending_run {u : State} (h : Undeclared u) (j : SocketId) :
    (endInhibit u j (u.sock j).rail.inhibit).run = true := by
  unfold endInhibit
  cases hd : u.declared j
  · simp [h j hd]
  · simp

/-- The rails have followed, no set has been emptied since `w`, and RUN stands for the undeclared. -/
structure Falls (X J : SocketId → Prop) (w s u : State) : Prop where
  follows : Follows X J s u
  sets : ∀ i, free u i = true → free w i = true
  runs : Undeclared u

section
variable {X J : SocketId → Prop} {w s u v : State}

theorem Falls.frame (h : Falls X J w s u) (hv : Stand (.record :: railPieces) u v) : Falls X J w s v := by
  refine ⟨h.follows.frame hv.mono, fun i hi => h.sets i ?_, undeclared_of_stand h.runs hv⟩
  rw [← hi]
  unfold free
  rw [(hv .inhibit rfl).sock i]

theorem Falls.change (h : Falls X J w s u) {f : Inhibit → Inhibit} {j : SocketId}
    (hj : Joining j (u.sock j).rail.inhibit (f (u.sock j).rail.inhibit)) (hs : free u j = true → free s j = true) :
    Falls X J w s (changeInhibitNoGrant f j u) := by
  refine ⟨(h.follows.change f j (fun h1 h2 => absurd (h1.symm.trans (hj.1 h2)) (by simp)) (fun _ h1 _ => hs h1)).mono ?_,
    fun i hi => ?_, undeclared_of_change h.runs hj.2⟩
  · rintro i (hi | ⟨-, h1, h2⟩)
    · exact hi
    · exact absurd (h1.symm.trans (hj.1 h2)) (by simp)
  · unfold free at hi
    rw [changeInhibitNoGrant_inhibit] at hi
    split at hi
    · rename_i hij; subst hij; exact h.sets i (hj.1 hi)
    · exact h.sets i hi

theorem Falls.grant (h : Falls X J w s u) (z : ZoneId) : Falls X J w s (grantSlots z u) := by
  have ht := grantSlots_touches z u
  refine ⟨h.follows.grantSlots z, fun i hi => h.sets i ?_, fun j hj => ?_⟩
  · rw [← hi]; unfold free; rw [ht.inhibit i]
  · rw [ht.inhibit j]
    exact h.runs j (by rw [← ht.declared j]; exact hj)

end

/-- Where no set has been emptied since the start, causes may join: each takes its rail down. -/
theorem falls_rule (X J : SocketId → Prop) (s : State) : FallRule Joining (Falls X J s s) where
  frame := Falls.frame
  change f j h hj := h.change hj (h.sets j)
  grant z h := h.grant z
  put := joining_put
  cut i x hx := joining_of_nonempty (nonempty_of_final (x := warm x) hx) id
  ended u h j := by
    have hrun := ending_run h.runs j
    exact ⟨joining_of_nonempty (nonempty_of_run hrun) fun _ => hrun,
      joining_of_nonempty (nonempty_of_run (x := warm (endInhibit u j (u.sock j).rail.inhibit)) hrun) id⟩

/-- After sets were emptied, causes may join those that were not. -/
theorem late_rule (X J : SocketId → Prop) (w s : State) :
    SinkRule (fun j old new => Joining j old new ∧ old.isEmpty = false) (Falls X J w s) where
  frame := Falls.frame
  change f j h hj := h.change hj.1 fun hc => absurd (hj.2.symm.trans hc) (by simp)
  grant z h := h.grant z

/-- A state whose rails have begun to follow, with every set as it was. -/
theorem Follows.falls {X J : SocketId → Prop} {s u : State} (h : Follows X J s u) (hset : ∀ i, free u i = free s i)
    (hruns : Undeclared u) : Falls X J s s u := ⟨h, fun i hi => (hset i).symm.trans hi, hruns⟩

theorem undeclared_of_inv {s : State} (hs : RailInv s) : Undeclared s := fun j hj => (hs.2.1 j).2.1 (.inr hj)

theorem falls_refl {s : State} (hs : RailInv s) : Falls (fun _ => False) (fun _ => False) s s s :=
  (follows_refl hs).falls (fun _ => rfl) (undeclared_of_inv hs)

end Sys2Proof.Proofs.RailsFollow

/-! The rails follow their sets at every command but a reset (R29, R30, R32 to R34). -/

namespace Sys2Proof.Proofs.RailsFollow

open Sys2Proof.Machine Sys2Proof.Safety Sys2Proof.Proofs.Requests Sys2Proof.Proofs.Frames Sys2Proof.Proofs.Steps

section
variable {X J : SocketId → Prop} {s u v : State} {i j : SocketId}

/-! ## Causes that leave a set -/

/-- Nothing has become of the rails yet. -/
abbrev Begun (s u : State) : Prop := Falls (fun _ => False) (fun _ => False) s s u

/-- The sets are as they were, as far as causes go. -/
abbrev SameSets (s u : State) : Prop := ∀ i, free u i = free s i

theorem sameSets_of_touches {l : List Piece} (h : Touches l u v) (hu : SameSets s u)
    (hd : Piece.inhibit.isIn l = false := by rfl) : SameSets s v := fun i => by
  rw [← hu i]; unfold free; rw [h.inhibit i hd]

/-- Where the sets are as they were, any change of one fits. -/
theorem fits_of_same {new : Bool} (h : free u j = free s j) : Fits X s j (free u j) new :=
  fun _ => ⟨fun h1 _ => h.symm.trans h1, fun h1 _ => h.symm.trans h1⟩

theorem Follows.once (h : Follows (fun _ => False) (fun _ => False) s u) (hset : SameSets s u) (f : Inhibit → Inhibit)
    (j : SocketId) : ∃ K, Follows (fun _ => False) K s (Frames.changeInhibit f j u) :=
  h.changeInhibit (fits_of_same (hset j))

theorem follows_tracked (h : Follows (fun _ => False) (fun _ => False) s u) (hset : SameSets s u) (p : ThermalProfile)
    (i : SocketId) (r : Int) : ∃ K, Follows (fun _ => False) K s (tracked p i r u) := by
  have h1 := modTherm_touches i (Thermal.track p r) u
  have h2 := modTherm_touches i (fun t => { t with firstInband := true }) (modTherm i (Thermal.track p r) u)
  unfold tracked
  simp only
  split
  · exact ((h.touch h1).touch h2).once (sameSets_of_touches h2 (sameSets_of_touches h1 hset)) _ i
  · exact ⟨_, h.touch h1⟩

theorem follows_coolDown (h : Follows (fun _ => False) (fun _ => False) s u) (hset : SameSets s u) (p : ThermalProfile)
    (i : SocketId) (t : Int) : ∃ K, Follows (fun _ => False) K s (coolDown p i t u) := by
  have hback : ∃ f, backToControl t i u = modTherm i f u := by
    unfold backToControl
    split
    · exact ⟨_, rfl⟩
    · exact ⟨_, rfl⟩
  obtain ⟨f, hf⟩ := hback
  have h1 := modTherm_touches i f u
  unfold coolDown
  rw [hf]
  split_ifs
  · exact (h.touch h1).once (sameSets_of_touches h1 hset) _ i
  · exact h.once hset _ i
  · exact ⟨_, h⟩

theorem recovered_plain (i : SocketId) (t : Int) (u : State) : ∃ f, recovered i t u = modTherm i f u := by
  unfold recovered backToControl
  split_ifs
  · exact ⟨_, rfl⟩
  · exact ⟨_, rfl⟩
  · exact ⟨_, rfl⟩

/-- The end of a SENSOR-FAULT: SENSOR leaves a set that is as it was, or that THERMAL has joined. -/
theorem follows_recovery (h : Begun s u) (hset : SameSets s u) (p : ThermalProfile) (i : SocketId) (t : Int) :
    ∃ K, Follows (fun _ => False) K s (recoveryTest i t (faultTrip p i t u)) := by
  have R := falls_rule (fun _ => False) (fun _ => False) s
  have hrec : ∀ w, Touches [.therm, .routine, .law .heat, .law .share, .law .final, .law .hold, .law .trip] w
      (sendRoutine (.socket i) (.sensorOk t) (recovered i t w)) := fun w => by
    obtain ⟨f, hf⟩ := recovered_plain i t w
    rw [hf]
    exact (modTherm_touches i f w).comp (sendRoutine_touches _ _ _)
  by_cases hc : p.limit ≤ t ∧ (u.sock i).rail.inhibit.thermal = false
  · have he : faultTrip p i t u = failRecord i .thermalTrip (.reading t) (addCause .thermal i u) := if_pos hc
    have hth : ((faultTrip p i t u).sock i).rail.inhibit.thermal = true := by
      rw [he, failRecord_thermal (by decide), addCause_inhibit, if_pos rfl]; rfl
    have h1 : Begun s (faultTrip p i t u) := by rw [he]; exact R.failRecord i _ _ (R.addCause .thermal i h)
    rw [recoveryTest_eq]
    split
    · refine ⟨_, (R.changeInhibit (i := i) (R.touch h1 (hrec _)) (f := Inhibit.put .sensor false) ?_).follows⟩
      rw [(hrec _).inhibit i]
      refine joining_of_nonempty ?_ fun hr => retains_put_false (d := .run) (by simp) _ hr
      simp [Inhibit.put, Inhibit.isEmpty, hth]
    · exact ⟨_, h1.follows⟩
  · have he : faultTrip p i t u = u := if_neg hc
    rw [he, recoveryTest_eq]
    split
    · exact (h.follows.touch (hrec u)).once (sameSets_of_touches (hrec u) hset) _ i
    · exact ⟨_, h.follows⟩

theorem follows_handled (h : Begun s u) (hset : SameSets s u) (p : ThermalProfile) (i : SocketId) (t : Int) :
    ∃ K, Follows (fun _ => False) K s (handleReading p i t u) := by
  have R := falls_rule (fun _ => False) (fun _ => False) s
  have htrip : Begun s (thermalTrip i t u) :=
    R.failRecord i _ _ (R.addCause .thermal i (R.touch h (modTherm_touches i _ u)))
  have hstep : ∃ K, Follows (fun _ => False) K s (heaterStep p i t u) := by
    obtain ⟨K, hK⟩ := follows_tracked h.follows hset p i t
    exact ⟨K, by rw [heaterStep_eq]; exact hK.touch (modTherm_touches i _ _)⟩
  have hctl : ∃ K, Follows (fun _ => False) K s (if p.limit ≤ t then thermalTrip i t u else heaterStep p i t u) := by
    split
    · exact ⟨_, htrip.follows⟩
    · exact hstep
  unfold handleReading
  split
  case h_1 | h_2 => exact follows_coolDown h.follows hset p i t
  case h_3 | h_4 | h_5 => exact hctl
  case h_6 =>
    split
    · exact ⟨_, htrip.follows⟩
    · exact ⟨_, h.follows⟩
  case h_7 => exact follows_recovery h hset p i t

theorem follows_good (h : Begun s u) (hset : SameSets s u) (i : SocketId) (t : Int) :
    ∃ K, Follows (fun _ => False) K s (goodReading i t u) := by
  have R := falls_rule (fun _ => False) (fun _ => False) s
  have h1 := storeReading_touches i t u
  cases hp : (u.zone (zoneOf i)).thermProf with
  | none => rw [goodReading_unset hp]; exact ⟨_, h.follows.touch h1⟩
  | some p => rw [goodReading_set hp]; exact follows_handled (R.touch h h1) (sameSets_of_touches h1 hset) p i t

theorem begun_bad (h : Begun s u) (i : SocketId) : Begun s (badReading i u) := by
  have R := falls_rule (fun _ => False) (fun _ => False) s
  have h1 : Begun s (modTherm i (fun t => { t with badRun := incTo 255 t.badRun, goodRun := 0 }) u) :=
    R.touch h (modTherm_touches i _ u)
  unfold badReading sensorFaultTest
  simp only
  split
  · exact R.failRecord i _ _ (R.addCause .sensor i (R.touch h1 (modTherm_touches i _ _)))
  · exact h1

/-! ## The end of a hold -/

theorem follows_resumed (h : Follows (fun _ => False) (fun _ => False) s u) (hset : SameSets s u) :
    ∃ K, Follows (fun _ => False) K s (resumeRun u) := by
  have h0 := fun x y => heldAs_plain x y u
  have h1 : ∃ K, Follows (fun _ => False) K s (resumedHeaters u) := by
    unfold resumedHeaters
    split
    · obtain ⟨K, hK⟩ := (h.touch (h0 _ _)).changeInhibits (l := allSockets) (f := fun _ => Inhibit.put .permit false)
        allSockets_pairwise fun k _ => fits_of_same (sameSets_of_touches (h0 _ _) hset rfl k)
      exact ⟨K, hK.touch (freedHeaters_touches _ _ u)⟩
    · exact ⟨_, h.touch (h0 _ _)⟩
  obtain ⟨K, hK⟩ := h1
  have h2 : Follows (fun _ => False) K s
      (if !u.run.resumed.permit then resumeBlocks (resumedHeaters u) else resumedHeaters u) := by
    split
    · exact hK.touch (resumeBlocks_touches _)
    · exact hK
  rw [resumeRun_eq]
  split
  · exact ⟨K, h2⟩
  · exact ⟨K, h2.touch (runStateNotice_touches false _)⟩

/-! ## The start of a run -/

/-- A socket of the run is under stress, or it has been retired and is marked so. -/
def StressedOrMarked (t : State) : Prop :=
  ∀ j, t.declared j = true → (t.sock j).life = .stressing ∨ (t.sock j).life.final = true ∧ Marked (t.sock j)

theorem stressedOrMarked_of_kept {t w : State} (h : StressedOrMarked t) (hdecl : ∀ j, w.declared j = t.declared j)
    (hfin : Law.final.Kept t w) (hlife : ∀ j, (w.sock j).life = (t.sock j).life ∨ (w.sock j).life.final = true) :
    StressedOrMarked w := by
  intro j hj
  rw [hdecl j] at hj
  have hlast : (w.sock j).life.final = true → (w.sock j).life.final = true ∧ Marked (w.sock j) := fun hf => by
    refine ⟨hf, ?_⟩
    obtain ht | hm := (hfin j).2 hf
    · rcases h j hj with hs | ⟨-, hm⟩
      · rw [hs] at ht; exact absurd ht (by decide)
      · exact (hfin j).1 hm
    · exact hm
  rcases hlife j with hl | hf
  · rcases h j hj with hs | ⟨hf, -⟩
    · exact .inl (hl.trans hs)
    · exact .inr (hlast (by rw [hl]; exact hf))
  · exact .inr (hlast hf)

/-- Where every socket of the run is final, the end of the run finds a cause in every set. -/
theorem ending_late {w t : State} (h : Falls X J w s t) (hm : StressedOrMarked t) (hdue : t.finishDue = true) :
    Ending (fun j old new => Joining j old new ∧ old.isEmpty = false) t := by
  intro j
  have hrun := ending_run h.runs j
  have hne : (t.sock j).rail.inhibit.isEmpty = false := by
    cases hd : t.declared j with
    | false => exact nonempty_of_run (h.runs j hd)
    | true =>
      rcases hm j hd with hs | ⟨-, hm⟩
      · unfold State.finishDue at hdue
        have := List.all_eq_true.mp ((Bool.and_eq_true _ _).mp hdue).2 j (mem_allSockets j)
        rw [hs] at this
        exact absurd this (by decide)
      · exact nonempty_of_final hm.1
  exact ⟨⟨joining_of_nonempty (nonempty_of_run hrun) fun _ => hrun, hne⟩,
    joining_of_nonempty (nonempty_of_run (x := warm (endInhibit t j (t.sock j).rail.inhibit)) hrun) id,
    nonempty_of_run hrun⟩

/-- A record of the start, from a socket whose set has a cause. -/
theorem late_record {w t : State} (h : Falls X J w s t) (hm : StressedOrMarked t) (hne : free t i = false)
    (k : FailKind) (d : Detail) : Falls X J w s (failRecord i k d t) ∧ StressedOrMarked (failRecord i k d t) := by
  have R := late_rule X J w s
  obtain ht | ⟨r, e, he⟩ := failRecord_or i k d t
  · exact ⟨R.touch h ht, stressedOrMarked_of_kept hm (fun j => ht.declared j) (ht.law .final) fun j => .inl (ht.life j)⟩
  · have hr := recorded_touches i r t
    have hm' : StressedOrMarked (recorded i r t) :=
      stressedOrMarked_of_kept hm (fun j => hr.declared j) (hr.law .final) fun j => .inl (hr.life j)
    have hne' : ((recorded i r t).sock i).rail.inhibit.isEmpty = false := by rw [hr.inhibit i]; exact hne
    rw [he]
    refine ⟨R.retire e (R.touch h hr) ⟨⟨joining_put i .final _, hne'⟩,
      joining_of_nonempty (nonempty_of_final (x := warm _) rfl) id, nonempty_of_final rfl⟩ fun v hv ht hfin hdue => ?_,
      stressedOrMarked_of_kept hm' (fun j => (retire_touches i e _).declared j) ?_ fun j => ?_⟩
    · refine ending_late hv (stressedOrMarked_of_kept hm' (fun j => ht.declared j) hfin fun j => ?_) hdue
      rw [ht.life j, retiredSock_sock]
      by_cases hj : j = i
      · rw [if_pos hj]; exact .inr rfl
      · rw [if_neg hj]; exact .inl rfl
    · exact (retire_touches i e _).law .final
    · by_cases hj : j = i
      · subst hj; exact .inr (by rw [retire_self.1]; rfl)
      · exact .inl (retire_lives j hj).1

theorem follows_started (h : Follows (fun _ => False) (fun _ => False) s u) (hset : SameSets s u) (hruns : Undeclared u)
    (r : RunRecord) : ∃ K, Follows (fun _ => False) K s (startRun r u) := by
  have h1 : Touches (.life :: .runState :: .clock :: .therm :: .routine :: startLaws) u (heatersPlaced u) :=
    (stressBegun_touches u).comp (heatersPlaced_touches u)
  have hfilter : (allSockets.filter u.declared).Pairwise (· < ·) := allSockets_pairwise.filter _
  obtain ⟨K, hK⟩ := (h.touch h1).changeInhibits (l := allSockets.filter u.declared)
    (f := fun i => startInhibit r.powerAtTemp (u.hot i) (u.startDead i)) hfilter
    fun k _ => fits_of_same (sameSets_of_touches h1 hset rfl k)
  have hplaced := placed_touches r u
  have hfalls : Falls (fun _ => False) K (railsPlaced r u) s (railsPlaced r u) := by
    refine ⟨hK, fun _ => id, fun j hj => ?_⟩
    rw [hplaced.declared j] at hj
    rw [railsPlaced_inhibit, hj]
    exact hruns j hj
  have hmarked : StressedOrMarked (railsPlaced r u) := by
    intro j hj
    rw [hplaced.declared j] at hj
    left
    rw [(railsPlaced_touches r u).life j, (heatersPlaced_touches u).life j, stressBegun_life, hj]
    rfl
  have hloop : Falls (fun _ => False) K (railsPlaced r u) s (startRecorded r u) ∧ StressedOrMarked (startRecorded r u) := by
    refine forEach_keeps (P := fun t => Falls (fun _ => False) K (railsPlaced r u) s t ∧ StressedOrMarked t)
      (fun i hi t ⟨ht, hm⟩ => ?_) _ ⟨hfalls, hmarked⟩
    have hdecl : u.declared i = true := (List.mem_filter.mp hi).2
    have hcause : u.hot i = true ∨ u.startDead i = true → free t i = false := fun hc => by
      by_contra hf
      have hw := ht.sets i (by simpa using hf)
      unfold free at hw
      rw [railsPlaced_inhibit, hdecl, if_pos rfl] at hw
      rcases hc with hc | hc <;> simp [startInhibit, Inhibit.isEmpty, hc] at hw
    unfold startRecord
    simp only
    split_ifs with hhot hdead
    · exact late_record ht hm (hcause (.inl ((Bool.and_eq_true _ _).mp hhot).1)) _ _
    · exact late_record ht hm (hcause (.inr hdead)) _ _
    · exact ⟨ht, hm⟩
  rw [startRun_eq]
  exact ⟨K, hloop.1.follows.touch (forEach_touches (fun z _ t => zoneStart_touches r z t) _)⟩

/-! ## The events of a rail's own -/

/-- Its power figure apart, no rail changes as the figure is set. -/
theorem setPower_alone (h : RailLaws u) (v : Nat) : Alone i u (setPower i v u) := by
  have ht := setPower_touches i v u
  refine ⟨fun j hj => .of_rail ?_, ⟨ht.railProf, ht.now⟩, fun z _ => ht.queue z, ht.law .rails rfl h⟩
  rw [RailEvents.setPower_sock_ne v hj]

theorem Follows.setPower (h : Follows X J s u) (hX : X i) (hJ : ¬ J i) (hon : (u.sock i).rail.state = .on) (v : Nat) :
    Follows X J s (setPower i v u) := by
  have ht := setPower_touches i v u
  have hst := (ht.railState i).trans hon
  exact h.aside hX hJ (setPower_alone h.laws v) (fun _ => by rw [hst]; simp) (by unfold RailRises; rw [hst]; simp) (ht.queue _)

/-- A rail that its own sample puts ON (R35). -/
theorem follows_enterOn (h : Follows X J s u) (hX : X i) (hJ : ¬ J i) (hst : (u.sock i).rail.state = .ramp2)
    (p : RailProfile) (mA : Nat) : Follows X J s (enterOn p i mA u) := by
  rw [enterOn_eq]
  have hrails : Law.rails.Kept u (modRail i (railOn mA (afterMs (1000 * p.stableS) u)) u) :=
    modRail_rails (f := railOn mA (afterMs (1000 * p.stableS) u)) rfl
      (fun h => absurd h (by simp [railOn, RailState.ramping])) ⟨by simp [railOn], by rw [hst]; simp⟩ (by rw [hst]; simp)
  have hrail : ((modRail i (railOn mA (afterMs (1000 * p.stableS) u)) u).sock i).rail = railOn mA _ (u.sock i).rail :=
    modRail_rail_self i _ u
  have hon : ((modRail i (railOn mA (afterMs (1000 * p.stableS) u)) u).sock i).rail.state = .on := by rw [hrail]; rfl
  have h1 : Follows X J s (modRail i (railOn mA (afterMs (1000 * p.stableS) u)) u) := by
    refine h.aside hX hJ ⟨fun j hj => .of_rail ((railsElse_modRail i _ u).rail j hj), ⟨fun _ => rfl, rfl⟩, fun _ _ => rfl,
      hrails h.laws⟩ (fun _ => by rw [hon]; simp) (by unfold RailRises; rw [hon]; simp) rfl
  exact ((h1.setPower hX hJ hon _).touch (hbRailOn_touches i _)).grantSlots _

/-- A rail that trips goes into REST and gives its slot to the next (R40). -/
theorem follows_restRail (h : Follows X J s u) (hX : X i) (hJ : ¬ J i) (hup : (u.sock i).rail.state ≠ .queued) :
    Follows X J s (restRail i u) := by
  have ht := openRail_touches i u (d := .rest) (.inr rfl)
  have hels := openRail_elsewhere i u .rest
  have hst := (openRail_rail i u .rest).1
  have hq : ∀ z, ((openRail .rest i u).zone z).rampQueue = (u.zone z).rampQueue := by
    intro z
    rw [(openRail_after .rest i u).queue z]
    by_cases hz : z = zoneOf i
    · subst hz
      rw [railOpened_queue, List.filter_eq_self]
      intro j hj
      have hne : j ≠ i := by rintro rfl; exact hup (mem_queue h.laws.2.1 hj).2
      simpa using hne
    · exact (railOpened_else .rest i u).queue z hz
  refine Follows.grantSlots (h.aside hX hJ ⟨fun j hj => ?_, ⟨ht.railProf, ht.now⟩, fun z _ => hq z, ht.law .rails rfl h.laws⟩
    (fun _ => by rw [hst]; simp) (by unfold RailRises; rw [hst]; simp) (hq _)) _
  obtain ⟨h1, -, h3, h4⟩ := hels .timers rfl j hj
  exact ⟨hels.railState hj, hels.inhibit hj, h1, h4, h3, hels.power hj⟩

/-- A rail leaves REST for the tail of its queue or for OFF (R42). -/
theorem follows_leaveRest (h : Follows X J s u) (hX : X i) (hJ : ∀ k, ¬ J k) : ∃ K, Follows X K s (leaveRest i u) := by
  unfold leaveRest
  split_ifs with h1 h2
  · have ha : Alone i u (joinQueue i u) :=
      ⟨fun j hj => .of_rail ((joinQueue_else i u).rail j hj), ⟨(joinQueue_touches i u).railProf, rfl⟩,
        fun z hz => (joinQueue_else i u).queue z hz, joinQueue_rails (by rw [h1]; simp) h2 h.laws⟩
    refine ⟨_, (h.queues ha (fun hn => absurd hX hn) (fun k hk => absurd hk (hJ k)) ?_ ?_ (joinQueue_queue i u)).grantSlots _⟩
    · unfold free; rw [joinQueue_rail]; exact h2
    · rw [joinQueue_rail]
  · refine ⟨J, h.aside hX (hJ i) ⟨fun j hj => .of_rail ((railsElse_modRail i _ u).rail j hj), ⟨fun _ => rfl, rfl⟩,
      fun _ _ => rfl, setOff_rails h1 h.laws⟩ (fun hf => ?_) ?_ rfl⟩
    · unfold free at hf
      rw [modRail_rail_self] at hf
      exact absurd hf h2
    · unfold RailRises; rw [modRail_rail_self]; simp
  · exact ⟨J, h⟩

theorem follows_railTrip (h : Falls X (fun _ => False) s s u) (hX : X i) (hup : (u.sock i).rail.state ≠ .queued)
    (p : RailProfile) (k : FailKind) (n : Nat) (ph : RailState) :
    ∃ K, Follows X K s (railTrip p i k n ph u) := by
  have R := falls_rule X (fun _ => False) s
  have ht := restRail_touches i u
  have h1 : Falls X (fun _ => False) s s (restRail i u) := by
    refine ⟨follows_restRail h.follows hX (fun h => h) hup, fun j hj => h.sets j ?_, fun j hj => ?_⟩
    · rw [← hj]; unfold free; rw [ht.inhibit j]
    · rw [ht.inhibit j]; exact h.runs j (by rw [← ht.declared j]; exact hj)
  have h2 := (R.tripRecords p i k n ph h1).follows
  rw [railTrip_eq]
  split
  · exact follows_leaveRest h2 hX fun _ h => h
  · exact ⟨_, h2⟩

theorem follows_sampleOn (h : Falls X (fun _ => False) s s u) (hX : X i) (hon : (u.sock i).rail.state = .on)
    (p : RailProfile) (mA : Nat) : ∃ K, Follows X K s (sampleOn p i mA u) := by
  have ht := fun v => setPower_touches i v u
  have h1 : ∀ v, Falls X (fun _ => False) s s (setPower i v u) := fun v =>
    ⟨h.follows.setPower hX (fun h => h) hon v, fun j hj => h.sets j (by rw [← hj]; unfold free; rw [(ht v).inhibit j]),
      fun j hj => by rw [(ht v).inhibit j]; exact h.runs j (by rw [← (ht v).declared j]; exact hj)⟩
  have h2 := fun k n => follows_railTrip (h1 (u.sock i).rail.powerNow) hX
    (by rw [(ht _).railState i, hon]; simp) p k n .on
  unfold sampleOn
  simp only
  split_ifs
  · exact h2 _ _
  · exact h2 _ _
  · exact ⟨_, (h1 _).follows⟩

/-- The off-time of a rail in OFF or REST ends. -/
theorem follows_offTime (h : Follows X (fun _ => False) s u) (hX : X i)
    (hst : (u.sock i).rail.state = .off ∨ (u.sock i).rail.state = .rest) :
    ∃ K, Follows X K s (leaveRest i (modRail i (fun r => { r with offTimer := none }) u)) := by
  have hrail : ((modRail i (fun r => { r with offTimer := none }) u).sock i).rail =
      { (u.sock i).rail with offTimer := none } := modRail_rail_self i _ u
  have ht : Touches (closed [.timers]) u (modRail i (fun r => { r with offTimer := none }) u) := modSock_touches fun p hp => by
    cases p with
    | timers => exact absurd hp (by decide)
    | _ => simp [SockSame]
  refine follows_leaveRest (h.aside hX (fun h => h) ⟨fun j hj => .of_rail ((railsElse_modRail i _ u).rail j hj),
    ⟨fun _ => rfl, rfl⟩, fun _ _ => rfl, ht.law .rails rfl h.laws⟩ (fun hf => ?_) ?_ rfl) hX fun _ h => h
  · unfold free at hf
    rw [hrail] at hf ⊢
    exact h.up i hf
  · unfold RailRises
    rw [hrail]
    rcases hst with hst | hst <;> simp [hst]

end

end Sys2Proof.Proofs.RailsFollow

/-! Every command but a reset, by the move that it makes: the rails and the queues have followed. -/

namespace Sys2Proof.Proofs.RailsFollow

open Sys2Proof.Machine Sys2Proof.Safety Sys2Proof.Proofs.Requests Sys2Proof.Proofs.Frames Sys2Proof.Proofs.Steps

section
variable {X : SocketId → Prop} {s u v : State} {i : SocketId}

/-- What touches no rail, set or queue of the state it begins in lets the rails begin. -/
theorem follows_of_touches {l : List Piece} (hs : RailInv s) (hX : ∀ i, X i → (s.sock i).rail.state ≠ .queued)
    (ht : Touches l s v) (hd : disjoint [.railState, .inhibit, .timers, .queue] l = true := by rfl) :
    Follows X (fun _ => False) s v := by
  have hv := ht.stand hd
  have hlaws : RailLaws v := railLaws_of_stand hv.mono hs.1
  exact follows_start hs hX hlaws (fun i => by unfold free; rw [(hv .inhibit rfl).sock i])
    (fun i => .inl ((hv .railState rfl).sock i)) (fun i => ((hv .timers rfl).sock i).1)
    (fun i => ((hv .timers rfl).sock i).2.2.2) (hv .queue rfl).zone

/-- The line and time let the rails begin. -/
theorem falls_of_line (hs : RailInv s) (hX : ∀ i, X i → (s.sock i).rail.state ≠ .queued) (hu : Line s u) :
    Falls X (fun _ => False) s s u :=
  (follows_of_touches hs hX hu.1).falls (fun i => by unfold free; rw [hu.1.inhibit i]) fun j hj => by
    rw [hu.1.inhibit j]
    exact undeclared_of_inv hs j (by rw [← hu.1.declared j]; exact hj)

/-- A timer of a rail in the event of its own that moves it at most from RAMP-1 to RAMP-2. -/
theorem follows_modRail {f : Rail → Rail} (hs : RailInv s) (hu : Line s u)
    (hst : (f (u.sock i).rail).state = (u.sock i).rail.state ∨
      (u.sock i).rail.state = .ramp1 ∧ (f (u.sock i).rail).state = .ramp2)
    (hinh : (f (u.sock i).rail).inhibit = (u.sock i).rail.inhibit)
    (hoff : (f (u.sock i).rail).offTimer = (u.sock i).rail.offTimer)
    (hramp : (f (u.sock i).rail).rampTimer = (u.sock i).rail.rampTimer) (hlaws : RailLaws (modRail i f u)) :
    Follows (fun _ => False) (fun _ => False) s (modRail i f u) := by
  have hrail : ∀ j, ((modRail i f u).sock j).rail = if j = i then f (u.sock i).rail else (u.sock j).rail := fun j => by
    rw [modRail_sock]; split <;> rfl
  refine follows_start hs (fun _ h => h.elim) hlaws (fun j => ?_) (fun j => ?_) (fun j => ?_) (fun j => ?_) hu.1.queue
  · unfold free
    rw [hrail, ← hu.1.inhibit j]
    split
    · rename_i hj; subst hj; rw [hinh]
    · rfl
  · rw [hrail, ← hu.1.railState j]
    split
    · rename_i hj; subst hj; exact hst
    · exact .inl rfl
  · rw [hrail, ← (hu.1.timers j).1]
    split
    · rename_i hj; subst hj; exact hoff
    · rfl
  · rw [hrail, ← (hu.1.timers j).2.2.2]
    split
    · rename_i hj; subst hj; exact hramp
    · rfl

/-- RUN stands in every set out of a run, before RUN-CLEAR and after it. -/
theorem follows_cleared (hs : RailInv s) (hu : Line s u) (hno : u.started = false) :
    Follows (fun _ => False) (fun _ => False) s (clearRun u) := by
  have hrun : ∀ i, (u.sock i).rail.inhibit.run = true := fun i => by
    rw [hu.1.inhibit i]
    exact (hs.2.1 i).2.1 (.inl (by rw [← hu.1.started]; exact hno))
  have h1 := runCleared_plain u
  have hrail : ∀ i, ((runCleared u).sock i).rail = { (u.sock i).rail with
      inhibit := { (u.sock i).rail.inhibit with cold := false, sensor := false, final := false }, trips := 0, power := 0 } :=
    fun i => by rw [runCleared_sock]; rfl
  have h2 : Follows (fun _ => False) (fun _ => False) s (runCleared u) := by
    refine follows_start hs (fun _ h => h.elim) (runCleared_rails (hu.1.law .rails rfl hs.1)) (fun i => ?_) (fun i => ?_)
      (fun i => ?_) (fun i => ?_) fun z => (h1.queue z).trans (hu.1.queue z)
    · have h3 : free (runCleared u) i = false := by
        unfold free; rw [hrail]; exact nonempty_of_run (hrun i)
      have h4 : free s i = false := by
        unfold free; rw [← hu.1.inhibit i]; exact nonempty_of_run (hrun i)
      rw [h3, h4]
    · rw [hrail]; exact .inl (hu.1.railState i)
    · rw [hrail]; exact (hu.1.timers i).1
    · rw [hrail]; exact (hu.1.timers i).2.2.2
  rw [clearRun_eq]
  exact h2.touch (runStateNotice_routine_touches _)

/-- The rails and the queues after the move of a command that resets nothing. -/
theorem moves_follow {c : Instr} {l : List Piece} (hc : mayReset c = false) (hs : RailInv s) (hu : Line s u)
    (hm : Moves c l u v) : ∃ X J, (∀ i, X i → movesRail i c = true) ∧ Follows X J s v := by
  have hnone : ∀ i : SocketId, False → (s.sock i).rail.state ≠ .queued := fun _ h => h.elim
  have h0 : Begun s u := falls_of_line hs hnone hu
  have hset : SameSets s u := sameSets_of_touches hu.1 fun _ => rfl
  have R := falls_rule (fun _ => False) (fun _ => False) s
  have hplain : ∀ {l w}, Touches l u w → disjoint railPieces l = true →
      ∃ X J, (∀ i, X i → movesRail i c = true) ∧ Follows X J s w := fun ht hd =>
    ⟨_, _, fun _ h => h.elim, h0.follows.touch ht hd⟩
  have hfall : ∀ {K w}, Follows (fun _ => False) K s w → ∃ X J, (∀ i, X i → movesRail i c = true) ∧ Follows X J s w :=
    fun h => ⟨_, _, fun _ h => h.elim, h⟩
  have hrise : ∀ {w}, (∃ K, Follows (fun _ => False) K s w) →
      ∃ X J, (∀ i, X i → movesRail i c = true) ∧ Follows X J s w := fun ⟨_, h⟩ => hfall h
  have hown : ∀ {i w}, movesRail i c = true → (u.sock i).rail.state ≠ .queued →
      (Falls (· = i) (fun _ => False) s s u → ∃ K, Follows (· = i) K s w) →
      ∃ X J, (∀ i, X i → movesRail i c = true) ∧ Follows X J s w := fun hi hq h => by
    obtain ⟨K, hK⟩ := h (falls_of_line hs (fun j hj => by rw [hj, ← hu.1.railState]; exact hq) hu)
    exact ⟨_, K, fun j hj => by rw [hj]; exact hi, hK⟩
  have hsample : ∀ {i mA mV}, Touches [.sample] u (modRail i (Rail.takeSample (u.windowLen (zoneOf i)) mA mV) u) :=
    takeSample_touches _ _ _ _ u
  have ht := hm.touches
  cases hm with
  | none => exact hfall h0.follows
  | powerOn slot rate h => subst h; cases hc
  | fullReset h | runReset h => rw [hc] at h; cases h
  | collected | timeout | monitor | defined | paused | pausedAgain | programmed | thermProf | trim | setpoint | budget
  | pageOpened | pageFreed | pageSealed | chunkStaged | programSet | programDropped | chunkWritten | burst | burstLost
  | gapEnded | sampled | answerTimer | edge | released | ignored => exact hplain ht rfl
  | permitLost => exact hfall (R.permitLost (R.touch h0 (setMonitor_touches Option.none 0 false u))).follows
  | started hst hr => exact hrise (follows_started h0.follows hset h0.runs _)
  | resumed hst => exact hrise (follows_resumed h0.follows hset)
  | aborted hst => exact hfall (R.endsRun _ h0).follows
  | cleared hst => exact hfall (follows_cleared hs hu (by unfold State.started; rcases hst with h | h <;> rw [h] <;> rfl))
  | hostRetired hst hlife => exact hfall (R.retires _ _ h0).follows
  | accounted e hst =>
    exact hfall (R.finish (forEach_keeps (P := Begun s) (fun i _ t ht => R.creditOne i ht) _
      (R.touch h0 (ticked_touches hst)))).follows
  | railProf z p hst => exact hfall (follows_of_touches hs hnone (hu.1.comp (storeRail_touches z p u)
    (n := [.link, .straps, .now, .draws, .railProf, .sample, .law .slots])))
  | period resp hst hbuf =>
    rename_i z t vs v
    have h1 : Touches [.context] u (if v.strobe then strobeSample z v resp u else u) :=
      ite_touches (strobeSample_touches z v resp u) (Touches.refl _ u)
    exact hfall (R.nextVector t vs v (by rw [h1.seq]; exact hst) (R.touch h0 h1)).follows
  | railOn mA mV hi hst =>
    refine hown hi (by rw [hst]; simp) fun h => ⟨_, follows_enterOn (h.follows.touch hsample) rfl (fun h => h) ?_ _ mA⟩
    rw [hsample.railState]; exact hst
  | railSampled mA mV hi hst =>
    refine hown hi (by rw [hst]; simp) fun h => follows_sampleOn (h.frame (hsample.stand)) rfl ?_ _ mA
    rw [hsample.railState]; exact hst
  | phase2 hst => exact hfall (follows_modRail hs hu (.inr ⟨hst, rfl⟩) rfl rfl rfl (ht.law .rails rfl (hu.1.law .rails rfl hs.1)))
  | rampFailed hi hst =>
    refine hown hi (fun hq => by rw [hq] at hst; exact absurd hst (by decide)) fun h =>
      follows_railTrip h rfl (fun hq => by rw [hq] at hst; exact absurd hst (by decide)) _ _ _ _
  | stable => exact hfall (follows_modRail hs hu (.inl rfl) rfl rfl rfl (ht.law .rails rfl (hu.1.law .rails rfl hs.1)))
  | offTimeEnded hi hoff =>
    rename_i i
    have hst : (u.sock i).rail.state = .off ∨ (u.sock i).rail.state = .rest := by
      rw [hu.1.railState i]
      exact (hs.2.1 i).1.2.2.2.1 (by rw [← (hu.1.timers i).1]; exact hoff)
    exact hown hi (fun hq => by rw [hq] at hst; rcases hst with h | h <;> cases h) fun h => follows_offTime h.follows rfl hst
  | good i x =>
    exact hrise (follows_good (R.touch h0 (noAnswer_touches i u)) (sameSets_of_touches (noAnswer_touches i u) hset) i x)
  | bad i => exact hfall (begun_bad (R.touch h0 (noAnswer_touches i u)) i).follows
  | hbFailed k d => exact hfall (R.hbFailure _ k d h0).follows

/-- The line at one time leaves what the rails' rules read. -/
theorem stand_of_still (h : Still u v) : Stand railPieces u v := by
  obtain ⟨⟨ht, -⟩, hn⟩ := h
  intro p hp
  cases p with
  | now => exact ⟨fun _ => trivial, fun _ => trivial, hn⟩
  | link | straps | draws => exact absurd hp (by decide)
  | law x => cases x <;> exact absurd hp (by decide)
  | _ => exact ht _ rfl

end

/-- Settles O27: what a command does to the rails is one of the moves. -/
theorem railsFollowTheirSets : Obligations.RailsFollowTheirSets := by
  unfold Obligations.RailsFollowTheirSets
  intro c s t hc hs ht
  obtain ⟨l, u, v, hu, hm, hv⟩ := exec_ends ht
  obtain ⟨X, J, hX, hJ⟩ := moves_follow hc hs hu hm
  obtain ⟨hrails, hqueues⟩ := (hJ.frame (stand_of_still hv)).stated
  refine ⟨fun i hi => hrails i fun hx => ?_, hqueues⟩
  rw [hX i hx] at hi
  cases hi

end Sys2Proof.Proofs.RailsFollow

/-! Rail trips (R40 to R42, R154, R156). -/

namespace Sys2Proof.Proofs.RailEvents

open Sys2Proof.Machine Sys2Proof.Safety Sys2Proof.Proofs.Requests Sys2Proof.Proofs.Frames Sys2Proof.Proofs.RailsFollow

/-! ## A rail in REST -/

/-- The rail is in REST with the off-time `o` and no other timer, and with the power figure 0 where `c` holds. -/
structure Resting (i : SocketId) (o : Option Nat) (c : Prop) (u : State) : Prop where
  laws : RailLaws u
  state : (u.sock i).rail.state = .rest
  off : (u.sock i).rail.offTimer = o
  stable : (u.sock i).rail.stableTimer = none
  phase1 : (u.sock i).rail.phase1Timer = none
  ramp : (u.sock i).rail.rampTimer = none
  power : c → (u.sock i).rail.power = 0

section
variable {i : SocketId} {o : Option Nat} {c : Prop} {s u v : State}

theorem Resting.of_rail (h : Resting i o c u) (hlaws : RailLaws v)
    (hst : (v.sock i).rail.state = (u.sock i).rail.state)
    (htm : (v.sock i).rail.offTimer = (u.sock i).rail.offTimer ∧ (v.sock i).rail.stableTimer = (u.sock i).rail.stableTimer ∧
      (v.sock i).rail.phase1Timer = (u.sock i).rail.phase1Timer ∧ (v.sock i).rail.rampTimer = (u.sock i).rail.rampTimer)
    (hpow : (u.sock i).rail.power = 0 → (v.sock i).rail.power = 0) : Resting i o c v :=
  ⟨hlaws, hst.trans h.state, htm.1.trans h.off, htm.2.1.trans h.stable, htm.2.2.1.trans h.phase1, htm.2.2.2.trans h.ramp,
    fun hc => hpow (h.power hc)⟩

/-- No change of a set and no grant moves a rail in REST (R42). -/
theorem resting_rule (i : SocketId) (o : Option Nat) (c : Prop) : FallRule (fun _ _ _ => True) (Resting i o c) where
  frame h hv := h.of_rail (railLaws_of_stand hv.mono h.laws) ((hv .railState rfl).sock i) ((hv .timers rfl).sock i)
    fun h0 => (show (_ : Nat) = _ from (hv .power rfl).sock i).trans h0
  change := by
    intro u f j h _
    obtain ⟨w, hmoves, hafter, -, -, -, -, hpow⟩ := change_moves f j u
    have hlaws := changeInhibitNoGrant_rails f j u h.laws
    by_cases hij : i = j
    · subst hij
      have hw : (w.sock i).rail = { (u.sock i).rail with inhibit := f (u.sock i).rail.inhibit } := by
        obtain ⟨hl, -⟩ | ⟨ho, -⟩ | ⟨ho, -⟩ | ⟨-, -, -, hr⟩ := hmoves
        · rw [h.state] at hl; exact absurd hl (by decide)
        · exact absurd (h.state.symm.trans ho) (by simp)
        · exact absurd (h.state.symm.trans ho) (by simp)
        · exact hr
      have htm := hafter.timers i
      have hst := hafter.railState i
      rw [hw] at htm hst
      exact h.of_rail hlaws hst htm hpow
    · have hels := changeInhibitNoGrant_elsewhere j u f
      exact h.of_rail hlaws (hels.railState hij) (hels .timers rfl i hij) fun h0 => (hels.power hij).trans h0
  grant := by
    intro u z h
    have hsock : (grantSlots z u).sock i = u.sock i := grantSlots_sock h.laws.2.1 (.inr (by rw [h.state]; simp))
    exact h.of_rail ((grantSlots_touches z u).law .rails rfl h.laws) (by rw [hsock]) (by rw [hsock]; exact ⟨rfl, rfl, rfl, rfl⟩)
      fun h0 => by rw [hsock]; exact h0
  put _ _ _ := trivial
  cut _ _ _ := trivial
  ended _ _ _ := ⟨trivial, trivial⟩

/-- A rail that trips rests, with its off-time started (R40). -/
theorem restRail_resting (hs : RailLaws u) :
    Resting i (u.offTimerNow i) ((u.sock i).rail.state = .on) (restRail i u) := by
  have h := openRail_after .rest i u
  obtain ⟨h1, h2, h3, h4⟩ := h.timers i
  rw [railOpened_rail_self] at h1 h2 h3 h4
  exact (resting_rule i _ _).grant _ ⟨(openRail_touches i u (.inr rfl)).law .rails rfl hs, (openRail_rail i u .rest).1, h1, h2,
    h3, h4, fun hon => by rw [openRail_power, if_pos hon]⟩

theorem tripRecords_resting (hs : RailLaws u) (p : RailProfile) (k : FailKind) (n : Nat) (ph : RailState) :
    Resting i (u.offTimerNow i) ((u.sock i).rail.state = .on) (tripRecords p i k n ph u) :=
  (resting_rule i _ _).tripRecords p i k n ph (restRail_resting hs)

/-! ## What a trip stops -/

theorem failRecord_quiets (i : SocketId) (k : FailKind) (d : Detail) (u : State) : Quiets u (failRecord i k d u) := by
  obtain h | ⟨r, e, he⟩ := failRecord_or i k d u
  · exact h.quiets
  · rw [he]; exact (recorded_touches i r u).quiets.trans (retire_quiets i _ e)

/-- A rail that trips from ON stops its heartbeat monitor and leaves its pass (R40, R127, R146). -/
theorem restRail_quiet (hon : (u.sock i).rail.state = .on) :
    ((restRail i u).sock i).live = quietLive (u.sock i).live ∧ ((restRail i u).sock i).pass = quietPass (u.sock i).pass := by
  have he : openRail .rest i u = dropPass i (hbToIdle i (setPower i 0 (railOpened .rest i u))) := if_pos hon
  have h1 : Touches (closed [.railState, .timers, .queue] ++ [.power, .armed, .routine]) u
      (setPower i 0 (railOpened .rest i u)) :=
    (railOpened_base_touches .rest i u).comp (setPower_touches i 0 _)
  have hg := grantSlots_touches (zoneOf i) (openRail .rest i u)
  unfold restRail
  rw [hg.live i, hg.pass i, he, (dropPass_touches i _).live i, hbToIdle_live, if_pos rfl, h1.live i, dropPass_pass,
    if_pos rfl, (hbToIdle_touches i _).pass i, h1.pass i]
  exact ⟨rfl, rfl⟩

/-- The rail tripped, its record not sent yet. -/
def tripTaken (i : SocketId) (u : State) : State :=
  modRail i (fun r => { r with trips := incTo 16 r.trips }) (restRail i u)

theorem tripTaken_touches (i : SocketId) (u : State) : Touches [.railState, .timers, .queue, .power, .armed, .routine, .live,
    .checked, .law .demand, .trips] u (tripTaken i u) := (restRail_touches i u).comp (setTrips_touches i (incTo 16) _)

theorem tripTaken_trips (i : SocketId) (u : State) :
    ((tripTaken i u).sock i).rail.trips = min 16 ((u.sock i).rail.trips + 1) := by
  unfold tripTaken
  rw [modRail_rail_self]
  show incTo 16 ((restRail i u).sock i).rail.trips = _
  rw [(restRail_touches i u).trips i]
  rfl

theorem tripRecords_eq (p : RailProfile) (i : SocketId) (k : FailKind) (n : Nat) (ph : RailState) (u : State) :
    tripRecords p i k n ph u = if p.retryLimit < min 16 ((u.sock i).rail.trips + 1) then
      failRecord i .railExhausted .nothing (failRecord i k (.rail n ph) (tripTaken i u))
    else failRecord i k (.rail n ph) (tripTaken i u) := by
  rw [← tripTaken_trips]
  rfl

theorem tripRecords_quiets (p : RailProfile) (i : SocketId) (k : FailKind) (n : Nat) (ph : RailState) (u : State) :
    Quiets (restRail i u) (tripRecords p i k n ph u) := by
  have h1 : Quiets (restRail i u) (failRecord i k (.rail n ph) (tripTaken i u)) :=
    ((setTrips_touches i (incTo 16) (restRail i u)).quiets).trans (failRecord_quiets i k _ _)
  rw [tripRecords_eq]
  split
  · exact h1.trans (failRecord_quiets i _ _ _)
  · exact h1

/-- A grant leaves a rail that rises so, with its off-time, its stable timer, its figure and its set. -/
theorem grantSlots_rising {r : Rail} (z : ZoneId) (hr : RailRises u i) (hrail : (u.sock i).rail.offTimer = r.offTimer ∧
    (u.sock i).rail.stableTimer = r.stableTimer ∧ (u.sock i).rail.power = r.power) :
    RailRises (grantSlots z u) i ∧ ((grantSlots z u).sock i).rail.offTimer = r.offTimer ∧
      ((grantSlots z u).sock i).rail.stableTimer = r.stableTimer ∧ ((grantSlots z u).sock i).rail.power = r.power := by
  have hone : ∀ t : State, RailRises t i ∧ (t.sock i).rail.offTimer = r.offTimer ∧
      (t.sock i).rail.stableTimer = r.stableTimer ∧ (t.sock i).rail.power = r.power →
      RailRises (grantOne z t) i ∧ ((grantOne z t).sock i).rail.offTimer = r.offTimer ∧
        ((grantOne z t).sock i).rail.stableTimer = r.stableTimer ∧ ((grantOne z t).sock i).rail.power = r.power := by
    intro t ht
    obtain ⟨he, -⟩ | ⟨j, rest, p, -, -, -, he⟩ := grantOne_cases z t
    · rw [he]; exact ht
    · rw [he]
      by_cases hij : i = j
      · subst hij
        unfold RailRises
        rw [modRail_rail_self, modZone_sock]
        obtain ⟨-, h1, h2, h3⟩ := ht
        refine ⟨.inr (ramped_ramping p t _), ?_⟩
        unfold ramped
        split
        · exact ⟨h1, h2, h3⟩
        · exact ⟨h1, h2, h3⟩
      · unfold RailRises
        rw [modRail_sock, if_neg hij, modZone_sock]
        exact ht
  exact hone _ (hone _ ⟨hr, hrail⟩)

/-- The end of REST leaves the rail with no off-time: it rises where its set is empty, and is OFF where it is not (R42). -/
theorem leaveRest_resting (h : Resting i none c u) : ((leaveRest i u).sock i).rail.offTimer = none ∧
    ((leaveRest i u).sock i).rail.stableTimer = none ∧ (c → ((leaveRest i u).sock i).rail.power = 0) ∧
    if ((leaveRest i u).sock i).rail.inhibit.isEmpty then RailRises (leaveRest i u) i
    else ((leaveRest i u).sock i).rail.state = .off := by
  have ht := leaveRest_touches i u
  cases he : (u.sock i).rail.inhibit.isEmpty with
  | true =>
    have hrail := joinQueue_rail i u
    obtain ⟨hr, h1, h2, h3⟩ := grantSlots_rising (i := i) (zoneOf i) (u := joinQueue i u) (r := (u.sock i).rail)
      (.inl (by rw [hrail])) (by rw [hrail]; exact ⟨rfl, rfl, rfl⟩)
    rw [ht.inhibit i, he, leaveRest_demands_eq h.state he]
    exact ⟨h1.trans h.off, h2.trans h.stable, fun hc => h3.trans (h.power hc), hr⟩
  | false =>
    rw [ht.inhibit i, he, leaveRest_inhibited h.state he, modRail_rail_self]
    exact ⟨h.off, h.stable, h.power, rfl⟩

/-! ## What a trip records -/

/-- The records of a trip are none, where the socket's fails are not taken. -/
theorem tripRecords_untaken (p : RailProfile) (k : FailKind) (n : Nat) (ph : RailState) (h : taking u i = false) :
    tripRecords p i k n ph u = tripTaken i u := by
  have ht : taking (tripTaken i u) i = false := (Heartbeats.taking_of_touches (tripTaken_touches i u)).trans h
  rw [tripRecords_eq, failRecord_untaken ht, failRecord_untaken ht]
  split <;> rfl

/-- RAIL-EXHAUSTED retires a socket whose fails are taken yet (R41, R151). -/
theorem exhausted_last (h : taking u i = true) : lastRecord u i .railExhausted = true := by
  unfold lastRecord
  rw [h]
  rfl

/-- A trip past the retry limit retires the socket on the first of its two records that does (R41, R156). -/
theorem exhausted_retires {k : FailKind} (hk : k ≠ .sensorFault) (d : Detail) (h : taking u i = true) :
    let t := failRecord i .railExhausted .nothing (failRecord i k d u)
    (t.sock i).life = .retired ∧ (t.sock i).rail.inhibit.final = true ∧ (t.sock i).acct.byHost = false ∧
      (t.sock i).acct.deciding.map (·.kind) = some (if lastRecord u i k then k else .railExhausted) := by
  intro t
  by_cases hl : lastRecord u i k = true
  · have he : failRecord i k d u = _ := failRecord_last hk hl d
    have ht : t = failRecord i k d u := failRecord_untaken (by rw [he]; exact retire_untaken i _ _) _
    obtain ⟨hlife, hacct⟩ := (failRecord_self hk d).2 h
    rw [ht, hlife, hacct, if_pos hl, if_pos hl, if_pos hl]
    exact ⟨rfl, by rw [he]; exact (retire_marked i _ _).1, rfl, rfl⟩
  · have hr := failRecord_taken hk (by simpa using hl) h d
    have htk : taking (failRecord i k d u) i = true := by
      rw [hr, taking, (recorded_touches i _ u).runState, (recorded_touches i _ u).life i]
      exact h
    have hlast := exhausted_last htk
    obtain ⟨hlife, hacct⟩ := (failRecord_self (s := failRecord i k d u) (k := .railExhausted) (by decide) .nothing).2 htk
    have he : t = _ := failRecord_last (k := .railExhausted) (by decide) hlast .nothing
    rw [if_neg hl]
    refine ⟨by rw [show (t.sock i).life = _ from hlife, if_pos hlast], by rw [he]; exact (retire_marked i _ _).1, ?_, ?_⟩
    · rw [show (t.sock i).acct = _ from hacct, if_pos hlast]
    · rw [show (t.sock i).acct = _ from hacct, if_pos hlast]
      rfl

/-- A trip, from a state that differs from the one it was judged in by its sample and figure alone. -/
theorem railTrip_tripped {k : FailKind} {p : RailProfile} (hk : k = .railFast ∨ k = .railAverage ∨ k = .railRamp) (n : Nat)
    (hs : RailLaws u) (hp : (u.zone (zoneOf i)).railProf = some p) (hu : Touches [.sample, .power, .armed, .routine] s u) :
    Tripped p i k n s (railTrip p i k n (s.sock i).rail.state u) := by
  have hkne : k ≠ .sensorFault := by rcases hk with rfl | rfl | rfl <;> decide
  have hdisp : s.dispTaken k = s.disposition k := by rcases hk with rfl | rfl | rfl <;> rfl
  have hrest := tripRecords_resting (i := i) hs p k n (s.sock i).rail.state
  have hto := hu.comp (tripTaken_touches i u) (n := [.sample, .railState, .timers, .queue, .power, .armed, .routine, .live,
    .checked, .law .demand, .trips])
  have hall : Touches (.sample :: .trips :: retireWork) s (railTrip p i k n (s.sock i).rail.state u) :=
    hu.comp (railTrip_touches p i k n _ u)
  obtain ⟨t, ht⟩ : ∃ t, t = railTrip p i k n (s.sock i).rail.state u := ⟨_, rfl⟩
  obtain ⟨w, hw⟩ : ∃ w, w = tripRecords p i k n (s.sock i).rail.state u := ⟨_, rfl⟩
  rw [← ht] at hall ⊢
  rw [← hw] at hrest
  have htw : t = if (w.sock i).rail.offTimer = none then leaveRest i w else w := by rw [ht, railTrip_eq, hw]
  have hafter : Touches [.railState, .timers, .queue, .law .demand] w t := by
    rw [htw]; exact ite_touches (leaveRest_touches i w) (Touches.refl _ w)
  have hrec : Touches retireWork (tripTaken i u) w := by
    rw [hw, tripRecords_eq]
    exact ite_touches ((failRecord_touches i k _ _).trans (failRecord_touches i _ _ _)) (failRecord_touches i k _ _)
  have hoff : u.offTimerNow i = if offTimeMs p.offCode = 0 then none else some (s.now + offTimeMs p.offCode * 50000) := by
    unfold State.offTimerNow
    rw [hp]
    simp only [afterMs, hu.now]
  have hon : (u.sock i).rail.state = .on ↔ (s.sock i).rail.state = .on := by rw [hu.railState i]
  rw [hoff] at hrest
  have htk : taking (tripTaken i u) i = taking s i := Heartbeats.taking_of_touches hto
  have hlast : taking s i = true → lastRecord (tripTaken i u) i k = (s.disposition k == .retire || nextIsLast s i) :=
    fun h => by rw [lastRecord_of_touches hto, lastRecord, h, hdisp]; rfl
  have hnow : recordNow (tripTaken i u) i k (.rail n (s.sock i).rail.state) =
      recordOf s i k (s.passStamp (zoneOf i)) (s.disposition k) (.rail n (s.sock i).rail.state) := by
    rw [recordNow_of_touches hto, recordNow, hdisp]
  have hacct : ((tripTaken i u).sock i).acct = (s.sock i).acct := hto.acct i
  have hlife : ((tripTaken i u).sock i).life = (s.sock i).life := hto.life i
  have htrips : (u.sock i).rail.trips = (s.sock i).rail.trips := hu.trips i
  have hw' := hw
  rw [tripRecords_eq, htrips] at hw'
  refine ⟨?_, ?_, fun h => ⟨?_, ?_, ?_⟩, fun h => ?_, fun h => ?_, fun h => ?_, fun h hle => ?_, fun h hlt => ?_, fun j hj => ?_,
    hall.mem, hall.pages, hall.programs, hall.link, hall.straps, hall.now, hall.draws, hall.pending⟩
  · rw [hafter.trips i, hrec.trips i, tripTaken_trips, htrips]
  · rw [htw]
    split
    · rename_i h0
      rw [hrest.off] at h0
      rw [h0] at hrest
      exact (leaveRest_resting hrest).2.1
    · exact hrest.stable
  · rw [htw]
    split
    · rename_i h0
      rw [hrest.off] at h0
      rw [h0] at hrest
      exact (leaveRest_resting hrest).2.2.1 (hon.mpr h)
    · exact hrest.power (hon.mpr h)
  · have hq := tripRecords_quiets p i k n (s.sock i).rail.state u i
    rw [← hw] at hq
    rw [hafter.live i, hq.live_quiet (restRail_quiet (hon.mpr h)).1]
    rfl
  · have hq := tripRecords_quiets p i k n (s.sock i).rail.state u i
    rw [← hw] at hq
    rw [hafter.checked i, hq.pass_quiet (restRail_quiet (hon.mpr h)).2]
    rfl
  · rw [if_neg h] at hrest
    rw [htw, if_neg (by rw [hrest.off]; simp)]
    exact ⟨hrest.state, hrest.phase1, hrest.ramp, hrest.off⟩
  · rw [if_pos h] at hrest
    rw [htw, if_pos hrest.off]
    obtain ⟨h1, -, -, h2⟩ := leaveRest_resting hrest
    exact ⟨h1, h2⟩
  · rw [hafter.acct i, hafter.life i, hw, tripRecords_untaken _ _ _ _ ((Heartbeats.taking_of_touches hu).trans h), hacct, hlife]
    exact ⟨rfl, rfl⟩
  · obtain ⟨h1, h2⟩ := (failRecord_self hkne (.rail n (s.sock i).rail.state)).2 (htk.trans h)
    rw [if_neg (by omega)] at hw'
    rw [hafter.acct i, hafter.life i, hw', h1, h2, hlast h, hnow, hacct]
    exact ⟨rfl, rfl⟩
  · rw [if_pos hlt] at hw'
    have hex := exhausted_retires hkne (.rail n (s.sock i).rail.state) (htk.trans h)
    rw [hlast h] at hex
    rw [hafter.acct i, hafter.life i, hafter.inhibit i, hw']
    exact hex
  · have h1 : ∀ k' d v, ((failRecord i k' d v).sock j).life = (v.sock j).life ∧
        ((failRecord i k' d v).sock j).acct = (v.sock j).acct := fun k' d v => failRecord_else d hj
    have h2 : (w.sock j).life = ((tripTaken i u).sock j).life ∧ (w.sock j).acct = ((tripTaken i u).sock j).acct := by
      rw [hw']
      split
      · rw [(h1 _ _ _).1, (h1 _ _ _).2, (h1 _ _ _).1, (h1 _ _ _).2]; exact ⟨rfl, rfl⟩
      · exact h1 _ _ _
    rw [hafter.acct j, hafter.life j, h2.1, h2.2, hto.life j, hto.acct j]
    exact ⟨rfl, rfl⟩

end

/-! ## The three trips -/

section
variable {s : State} {i : SocketId} {p : RailProfile} {c : Nat}

theorem sampleOn_fast (h : p.iFast ≤ c) : sampleOn p i c s =
    railTrip p i .railFast c .on (setPower i (s.sock i).rail.powerNow s) := if_pos h

theorem sampleOn_average (hlt : c < p.iFast) (hwin : (s.sock i).rail.window.length = p.win)
    (hav : p.iAvg ≤ (s.sock i).rail.window.sum / (s.sock i).rail.window.length) : sampleOn p i c s =
    railTrip p i .railAverage ((s.sock i).rail.window.sum / (s.sock i).rail.window.length) .on
      (setPower i (s.sock i).rail.powerNow s) := by
  unfold sampleOn
  simp only
  rw [if_neg (by omega), setPower_rail, average_eq, if_pos ⟨hwin, hav⟩]

theorem rampTimeout_eq {e : Nat} (he : (s.sock i).rail.rampTimer = some e)
    (hst : (s.sock i).rail.state = .ramp1 ∨ (s.sock i).rail.state = .ramp2) (hp : (s.zone (zoneOf i)).railProf = some p) :
    exec (.rampTimeout i) s =
      .next (railTrip p i .railRamp (s.sock i).rail.lastCurrent (s.sock i).rail.state (advanceTo e s)) := by
  have hr : (s.sock i).rail.state.ramping = true := by rcases hst with h | h <;> rw [h] <;> rfl
  show execRampTimeout i s = _
  unfold execRampTimeout
  rw [he, hp]
  exact if_pos hr

end

/-- Settles O48, from the rail's state and the test that fails. -/
theorem railTripsOpenTheRail : Obligations.RailTripsOpenTheRail := by
  unfold Obligations.RailTripsOpenTheRail
  intro s i p hs hp
  refine ⟨fun mA mV hon => ?_, fun e he hst => ?_⟩
  · intro c r win avg
    have hw : s.windowLen (zoneOf i) = p.win := by unfold State.windowLen; rw [hp]; rfl
    have heq := railSample_eq (i := i) (s := s) mA mV
    rw [hon, hp, hw] at heq
    have hsam := sampled_touches i p.win c (min 6000 mV) s
    obtain ⟨v, hv⟩ : ∃ v, v = modRail i (sampled p.win c (min 6000 mV)) s := ⟨_, rfl⟩
    have hrail : (v.sock i).rail = sampled p.win c (min 6000 mV) r := by rw [hv]; exact modRail_rail_self i _ s
    have hwin : (v.sock i).rail.window = win := by rw [hrail]; rfl
    have hpow : ∀ x, Touches [.sample, .power, .armed, .routine] s (setPower i x v) := fun x => by
      rw [hv]; exact hsam.comp (setPower_touches i x _)
    have hlaws : ∀ x, RailLaws (setPower i x v) := fun x => (hpow x).law .rails rfl hs
    have hprof : ∀ x, ((setPower i x v).zone (zoneOf i)).railProf = some p := fun x => ((hpow x).railProf _).trans hp
    refine ⟨sampleOn p i c v, by rw [heq, hv], fun hfast => ?_, fun hlt hlen hav _ => ?_⟩
    · have h := railTrip_tripped (k := .railFast) (.inl rfl) c (hlaws _) (hprof _) (hpow (v.sock i).rail.powerNow)
      rw [hon] at h
      rw [sampleOn_fast hfast]
      exact h
    · have h := railTrip_tripped (k := .railAverage) (.inr (.inl rfl)) avg (hlaws _) (hprof _) (hpow (v.sock i).rail.powerNow)
      rw [hon] at h
      rw [sampleOn_average hlt (by rw [hwin]; exact hlen) (by rw [hwin]; exact hav), hwin]
      exact h
  · refine ⟨_, rampTimeout_eq he hst hp, ?_⟩
    exact railTrip_tripped (s := advanceTo e s) (.inr (.inr rfl)) _ ((advanceTo_touches e s).law .rails rfl hs) hp
      (Touches.refl _ _)

end Sys2Proof.Proofs.RailEvents

/-! The end of a run (R8, R16, R17, R121, R134, R166): RUN-ABORT. -/

namespace Sys2Proof.Proofs.RunEnds

open Sys2Proof.Machine Sys2Proof.Safety Sys2Proof.Proofs.PatternStore Sys2Proof.Proofs.Requests Sys2Proof.Proofs.Frames

/-- The urgent lane after a notice is the lane before it and the notice. -/
theorem urgentAfter_congr (n : Notice) {q q' : NoticeQueue} (h : q'.urgent = q.urgent) :
    (urgentAfter n q').urgent = (urgentAfter n q).urgent := by
  unfold urgentAfter
  rw [h]
  split <;> rfl

/-! ## The zones at the end of the run -/

theorem zoneToIdle_chk (z y : ZoneId) (s : State) : ((zoneToIdle z s).zone y).chk =
    if y = z then { (s.zone z).chk with opened := false } else (s.zone y).chk := by
  have h0 := modSeq_touches z (fun q => { q.emptied with state := .idle, gapTimer := none, staged := none, drive := 0 }) s
  have h2 : ∀ t, Touches [.checked] (modChk z (fun c => { c with opened := false }) t) (closePass z t) := fun t =>
    (forEach_touches (fun i _ t => (dropPass_touches i t).mono) _)
  unfold zoneToIdle
  rw [(withdrawFetch_plain z _).chk y, (h2 _).chk y]
  by_cases hy : y = z
  · subst hy
    rw [if_pos rfl, modChk, modZone_zone_self, ← h0.chk y]
  · rw [if_neg hy, modChk, modZone_zone_ne hy, ← h0.chk y]

theorem zoneToIdle_pass (z : ZoneId) (i : SocketId) (s : State) : ((zoneToIdle z s).sock i).pass =
    if zoneOf i = z then quietPass (s.sock i).pass else (s.sock i).pass := by
  have h0 := modSeq_touches z (fun q => { q.emptied with state := .idle, gapTimer := none, staged := none, drive := 0 }) s
  unfold zoneToIdle
  rw [(withdrawFetch_plain z _).pass i, (Sequencing.closePass_eq z _).2 i]
  split
  · rw [← h0.pass i]; rfl
  · rw [← h0.pass i]

/-- Every zone's pass closes, and no socket is in one. -/
theorem zonesToIdle_chk (s : State) (z : ZoneId) :
    ((forEach allZones zoneToIdle s).zone z).chk = { (s.zone z).chk with opened := false } := by
  rw [forEach_at (g := fun t z => (t.zone z).chk) (h := fun _ k => { k with opened := false })
    (fun y t z => zoneToIdle_chk y z t) _ allZones_nodup, if_pos (mem_allZones z)]

theorem zonesToIdle_pass (s : State) (i : SocketId) :
    ((forEach allZones zoneToIdle s).sock i).pass = quietPass (s.sock i).pass := by
  have h := forEach_own (g := fun (t : State) (z : ZoneId) => if zoneOf i = z then (t.sock i).pass else quietPass (t.sock i).pass)
    (f := zoneToIdle) (P := fun _ => True) (fun _ _ _ => trivial) (fun z t y hy => by
      simp only [zoneToIdle_pass]
      split_ifs <;> simp_all [quietPass]) (fun z y t _ hzy => by
      simp only [zoneToIdle_pass]
      split_ifs <;> simp_all [quietPass]) allZones allZones_nodup s trivial (zoneOf i)
  simpa [mem_allZones, zoneToIdle_pass] using h

/-! ## The board at the end of the run -/

/-- What the end of a run touches before it assigns the bins and tells of itself. -/
abbrev endWork : List Piece := [.railState, .inhibit, .timers, .queue, .power, .armed, .routine, .live, .checked, .therm, .seq,
  .chk, .port, .runState] ++ endLaws

section
variable (st : RunState) (s : State)

theorem heatersEnded_quiets : Quiets s (heatersEnded st s) :=
  (((runEnded_plain st s).quiets).trans (changeInhibits_quiets _ _ _)).trans (forEach_quiets (fun i _ t => thermOff_quiets i t) _)

/-- What the rails and heaters touch as the run ends. -/
theorem heatersEnded_all : Touches (.therm :: railWork ++ .runState :: endLaws) s (heatersEnded st s) := by
  have h1 := (runEnded_plain st s).mono (m := .therm :: railWork ++ .runState :: endLaws)
  have h2 := (railsEnded_touches st s).mono (m := .therm :: railWork ++ .runState :: endLaws)
  have h3 := (heatersEnded_touches st s).mono (m := .therm :: railWork ++ .runState :: endLaws)
  exact h1.trans (h2.trans h3)

theorem zonesEnded_all : Touches endWork s (zonesEnded st s) :=
  (heatersEnded_all st s).comp (zonesEnded_touches st s)

theorem endRun_seq (z : ZoneId) : ((endRun st s).zone z).seq = idled (s.zone z).seq := by
  rw [(endRun_after st s).seq z]
  unfold zonesEnded
  rw [(arbitrate_touches _).seq z, zonesToIdle_seq, (heatersEnded_all st s).seq z]

theorem endRun_chk (z : ZoneId) : ((endRun st s).zone z).chk = { (s.zone z).chk with opened := false } := by
  rw [(endRun_after st s).chk z]
  unfold zonesEnded
  rw [(arbitrate_touches _).chk z, zonesToIdle_chk, (heatersEnded_all st s).chk z]

theorem endRun_pass (i : SocketId) : ((endRun st s).sock i).pass = quietPass (s.sock i).pass := by
  rw [(endRun_after st s).pass i]
  unfold zonesEnded
  rw [(arbitrate_touches _).pass i, zonesToIdle_pass]
  rcases (heatersEnded_quiets st s i).2 with h | h <;> simp only [h, quietPass]

/-- The run controller at the end of the run. -/
theorem endRun_runs_as : (endRun st s).run = { s.run with state := st, holds := ⟨false, false⟩, acctTimer := none } := by
  rw [(endRun_after st s).run, (zonesEnded_touches st s).run, (heatersEnded_touches st s).run, (railsEnded_touches st s).run]
  rfl

/-- The end of the run is told after all else: urgently where the run is aborted (R8, R17). -/
theorem endRun_notices : (endRun st s).notices =
    (if st = .aborted then urgentAfter else routineAfter) ⟨.board, s.run.clock, .runState st ⟨false, false⟩⟩
      (zonesEnded st s).notices := by
  have h1 : Touches [.live, .bin] (zonesEnded st s) (assignBins (forEach allSockets hbToIdle (zonesEnded st s))) :=
    (forEach_touches (fun i _ t => hbToIdle_touches i t) _).comp (assignBins_touches _)
  have hrun : (assignBins (forEach allSockets hbToIdle (zonesEnded st s))).run =
      { s.run with state := st, holds := ⟨false, false⟩, acctTimer := none } := by
    rw [h1.run, (zonesEnded_touches st s).run, (heatersEnded_touches st s).run, (railsEnded_touches st s).run]
    rfl
  rw [endRun_eq, ← h1.notices]
  generalize assignBins (forEach allSockets hbToIdle (zonesEnded st s)) = u at *
  by_cases hst : st = .aborted
  · subst hst
    rw [if_pos rfl, show (RunState.aborted == .aborted) = true from rfl, Reports.runStateNotice_urgent_eq, hrun]
  · rw [if_neg hst, show (st == .aborted) = false from by simpa using hst, Reports.runStateNotice_routine_eq, hrun]

theorem endRun_urgent : (endRun .aborted s).notices.urgent =
    (urgentAfter ⟨.board, s.run.clock, .runState .aborted ⟨false, false⟩⟩ s.notices).urgent := by
  rw [endRun_notices, if_pos rfl]
  exact urgentAfter_congr _ (zonesEnded_all .aborted s).urgent.1

/-- The bins are assigned by the lifecycles and accounts (R166). -/
theorem endRun_bin (i : SocketId) : ((endRun st s).sock i).bin = some (s.sock i).binNow := by
  have h1 : Touches endWork s (forEach allSockets hbToIdle (zonesEnded st s)) := (zonesEnded_all st s).comp (forEach_touches (fun i _ t => hbToIdle_touches i t) _)
  rw [endRun_eq, (runStateNotice_touches _ _).bin i]
  unfold assignBins
  rw [forEach_modSock (fun _ k => { k with bin := some k.binNow }) _ _ allSockets_nodup, if_pos (mem_allSockets i)]
  show some (Socket.binNow _) = _
  unfold Socket.binNow
  rw [h1.life i, h1.acct i]

end

/-! ## RUN-ABORT -/

/-- The bin of a socket, with the kind of the deciding record read at once. -/
theorem binNow_eq (k : Socket) : k.binNow = match k.life with
    | .empty => .empty
    | .waiting | .stressing => .incomplete
    | .complete => if k.acct.total = 0 then .pass else .passRecovered
    | .retired =>
      match k.acct.deciding.map (fun d : Deciding => d.kind.cls) with
      | some .functional => .failFunction
      | some .power => .failPower
      | some .thermal => .failThermal
      | some .board | none => .failHost := by
  unfold Socket.binNow
  cases k.life with
  | retired =>
    cases hd : k.acct.deciding with
    | none => rfl
    | some d =>
      show (match d.kind.cls with | .functional => Bin.failFunction | .power => .failPower | .thermal => .failThermal | .board => .failHost) = _
      simp only [Option.map_some]
      cases d.kind.cls <;> rfl
  | empty | waiting | stressing | complete => rfl

theorem opRunAbort_ends {s : State} (h : s.run.state = .ready ∨ s.started = true) :
    opRunAbort [] s = done false (endRun .aborted s) [] := by
  unfold opRunAbort
  rw [fixedLen_of_length (n := 0) (p := []) rfl]
  exact if_pos h

/-- Settles O34, from what the end of a run leaves. -/
theorem runAbortEndsTheRun : Obligations.RunAbortEndsTheRun := by
  unfold Obligations.RunAbortEndsTheRun
  intro f s htaken hp hs hst
  have hready : (received s).run.state = .ready ∨ (received s).started = true :=
    hst.imp id fun h => (started_iff _).mpr h
  have hop := (congrArg (opRunAbort · (received s)) hp).trans (opRunAbort_ends (s := received s) hready)
  have ht := endRun_plain .aborted (received s)
  have hlaws : RailLaws (endRun .aborted (received s)) := ht.law .rails rfl hs
  have hrun := endRun_runs_as .aborted (received s)
  have hurgent := endRun_urgent (received s)
  have hbin := endRun_bin .aborted (received s)
  have htherm := endRun_therm .aborted (received s)
  have hlive := fun i => endRun_live i (received s) .aborted
  have hpass := endRun_pass .aborted (received s)
  have hinh := endRun_inhibit .aborted (received s)
  have hseq := endRun_seq .aborted (received s)
  have hchk := endRun_chk .aborted (received s)
  generalize endRun .aborted (received s) = t at *
  refine ⟨_, execFrame_taken htaken (by decide) hop ht.link, hrun, rfl, hurgent, fun i => ⟨ht.life i, ht.acct i,
      (hbin i).trans (congrArg some (binNow_eq _)), htherm i, hlive i, hpass i, hinh i, fun hd => ?_, ht.trips i⟩,
    fun z => ⟨hseq z, hchk z, ht.railProf z, ht.thermProf z, ht.budget z⟩, ht.mem, ht.pages, ht.programs, ht.staging,
    ht.straps, ht.now, ht.draws, ht.pending⟩
  refine hlaws.2.2 i (RailsFollow.nonempty_of_run ?_)
  rw [hinh]
  exact (Bool.or_eq_true _ _).mpr (.inr hd)

end Sys2Proof.Proofs.RunEnds

/-! SOCKET-RETIRE (R120, R157, R158, R165). -/

namespace Sys2Proof.Proofs.RunEnds

open Sys2Proof.Machine Sys2Proof.Safety Sys2Proof.Proofs.PatternStore Sys2Proof.Proofs.Requests Sys2Proof.Proofs.Frames

section
variable (i : SocketId) (d : Option Deciding) (s : State)

theorem finishDue_iff (s : State) : s.finishDue = true ↔
    s.started = true ∧ ∀ i, (s.sock i).life ≠ .waiting ∧ (s.sock i).life ≠ .stressing := by
  unfold State.finishDue
  rw [Bool.and_eq_true, List.all_eq_true]
  simp [mem_allSockets]

theorem routineAfter_urgent (n : Notice) (q : NoticeQueue) : (routineAfter n q).urgent = q.urgent := by
  unfold routineAfter
  split <;> rfl

/-- The end of the run in FINISHED sends nothing urgent (R8). -/
theorem finishTest_urgent : (finishTest s).notices.urgent = s.notices.urgent := by
  unfold finishTest
  split
  · rw [endRun_notices, if_neg (by decide), routineAfter_urgent]
    exact (zonesEnded_all .finished s).urgent.1
  · rfl

/-- A socket retired, before the run finish test. -/
def retiredAlone : State :=
  sendUrgent (.socket i) (.retired (d.map (·.kind))) (finalEffects i (modSock i (retiredSock d) s))

theorem retire_alone : retire i d s = finishTest (retiredAlone i d s) := rfl

/-- What a retirement touches before it is told, the run's end apart. -/
abbrev finalizedWork : List Piece := closed [.life, .acct] ++ finalWork

theorem finalized_touches : Touches finalizedWork s (finalEffects i (modSock i (retiredSock d) s)) :=
  (retiredSock_plain i d s).comp (finalEffects_touches i _) (n := finalizedWork)

theorem retiredAlone_touches : Touches (.urgent :: finalizedWork) s (retiredAlone i d s) :=
  (finalized_touches i d s).comp (sendUrgent_touches _ _ _) (n := .urgent :: finalizedWork)

theorem retiredAlone_lives (j : SocketId) : ((retiredAlone i d s).sock j).life =
      (if j = i then .retired else (s.sock j).life) ∧
    ((retiredAlone i d s).sock j).acct =
      (if j = i then { (s.sock i).acct with deciding := d, byHost := d.isNone } else (s.sock j).acct) := by
  have h : Touches (.urgent :: finalWork) (modSock i (retiredSock d) s) (retiredAlone i d s) :=
    (finalEffects_touches i _).comp (sendUrgent_touches _ _ _)
  rw [h.life j, h.acct j, retiredSock_sock]
  split
  · exact ⟨rfl, rfl⟩
  · exact ⟨rfl, rfl⟩

theorem retire_urgent : (retire i d s).notices.urgent =
    (urgentAfter ⟨.socket i, s.run.clock, .retired (d.map (·.kind))⟩ s.notices).urgent := by
  have h := finalized_touches i d s
  rw [retire_alone, finishTest_urgent]
  unfold retiredAlone
  generalize finalEffects i (modSock i (retiredSock d) s) = u at h
  rw [Reports.sendUrgent_eq, h.clock]
  exact urgentAfter_congr _ h.urgent.1

variable {i d s}

/-- A zone of a started run with no socket under stress is DONE (R120). -/
theorem zoneTold_done {z : ZoneId} (hst : s.started = true) (hno : ∀ j, zoneOf j = z → (s.sock j).life ≠ .stressing) :
    ((zoneTold z s).zone z).seq.state = .done := by
  have hany : (zoneSockets z).any (fun i => (s.sock i).life == .stressing) = false := by
    rw [List.any_eq_false]
    intro j hj
    simpa using hno j ((mem_zoneSockets _ _).mp hj)
  unfold zoneTold
  rw [hst, hany]
  by_cases hd : (s.zone z).seq.state = .done
  · rw [if_neg (by simp [hd])]; exact hd
  · rw [if_pos (by simp [hd])]
    unfold zoneDone
    rw [(arbitrate_touches _).seq z, withdrawFetch_seq, if_pos rfl, (closePass_touches z _).seq z, modSeq_seq, if_pos rfl]

/-- A socket with its heater cut, its heartbeat and its place in a pass gone. -/
def finalBlocks (i : SocketId) (s : State) : State := dropPass i (hbToIdle i (finalCut i s))

theorem finalBlocks_touches : Touches (.live :: .checked :: .therm :: railWork) s (finalBlocks i s) :=
  (finalCut_touches i _).comp ((hbToIdle_touches i _).comp (dropPass_touches i _) (n := [.live, .checked]))

theorem finalEffects_told (i : SocketId) (s : State) : finalEffects i s = zoneTold (zoneOf i) (finalBlocks i s) := rfl

theorem finalEffects_done (hst : s.started = true) (hno : ∀ j, zoneOf j = zoneOf i → (s.sock j).life ≠ .stressing) :
    ((finalEffects i s).zone (zoneOf i)).seq.state = .done := by
  have h1 := finalBlocks_touches (i := i) (s := s)
  rw [finalEffects_told]
  generalize finalBlocks i s = u at *
  refine zoneTold_done (h1.started.trans hst) fun j hj => ?_
  rw [h1.life j]
  exact hno j hj

/-- The zone whose last socket under stress retires is DONE. -/
theorem retiredAlone_done (hst : s.started = true)
    (hno : ∀ j, zoneOf j = zoneOf i → j ≠ i → (s.sock j).life ≠ .stressing) :
    ((retiredAlone i d s).zone (zoneOf i)).seq.state = .done := by
  have h := finalEffects_done (i := i) (s := modSock i (retiredSock d) s) ((retiredSock_plain i d s).started.trans hst)
    fun j hj => by
      rw [retiredSock_sock]
      split
      · simp [retiredSock]
      · rename_i hji; exact hno j hj hji
  unfold retiredAlone
  generalize finalEffects i (modSock i (retiredSock d) s) = u at *
  exact (congrArg (·.state) ((sendUrgent_touches _ _ u).seq (zoneOf i))).trans h

/-- The run goes on while another socket waits or is under stress (R165). -/
theorem finishTest_goes {j : SocketId} (h : (s.sock j).life = .waiting ∨ (s.sock j).life = .stressing) :
    finishTest s = s := by
  refine if_neg fun hdue => ?_
  obtain ⟨-, hall⟩ := (finishDue_iff s).mp hdue
  exact h.elim (hall j).1 (hall j).2

theorem finishTest_ends (hst : s.started = true) (h : ∀ j, (s.sock j).life ≠ .waiting ∧ (s.sock j).life ≠ .stressing) :
    finishTest s = endRun .finished s := if_pos ((finishDue_iff s).mpr ⟨hst, h⟩)

/-- A retirement that is not the run's last leaves the other sockets. -/
theorem retire_goes {j : SocketId} (hj : j ≠ i) (h : (s.sock j).life = .waiting ∨ (s.sock j).life = .stressing) :
    retire i d s = retiredAlone i d s := by
  rw [retire_alone]
  refine finishTest_goes (j := j) ?_
  rw [(retiredAlone_lives i d s j).1, if_neg hj]
  exact h

theorem retire_ends (hst : s.started = true)
    (h : ∀ j, j ≠ i → (s.sock j).life ≠ .waiting ∧ (s.sock j).life ≠ .stressing) :
    retire i d s = endRun .finished (retiredAlone i d s) := by
  rw [retire_alone]
  refine finishTest_ends ((retiredAlone_touches i d s).started.trans hst) fun j => ?_
  rw [(retiredAlone_lives i d s j).1]
  split
  · simp
  · rename_i hj; exact h j hj

theorem retiredAlone_elsewhere : Elsewhere (.urgent :: .checked :: granting) i s (retiredAlone i d s) := by
  have h0 : Elsewhere (.urgent :: .checked :: granting) i s (modSock i (retiredSock d) s) := modSock_elsewhere _ i _ s
  exact h0.trans ((finalEffects_elsewhere i _).mono.trans ((sendUrgent_touches _ _ _).elsewhere i))

end

/-! ## SOCKET-RETIRE -/

theorem opSocketRetire_retires {s : State} {i : SocketId} (hst : s.started = true) (hlife : (s.sock i).life = .stressing) :
    opSocketRetire [BitVec.ofNat 8 i.val] s = done false (retire i none s) [] := by
  unfold opSocketRetire
  rw [fixedLen_of_length (n := 1) (p := [BitVec.ofNat 8 i.val]) rfl, socketArg_of_eq (i := i) (p := [BitVec.ofNat 8 i.val]) (k := 0) (toNat_ofNat_socket i)]
  exact if_pos ⟨hst, hlife⟩

theorem opSocketRetire_refuses {s : State} {i : SocketId} (h : ¬ (s.started = true ∧ (s.sock i).life = .stressing)) :
    opSocketRetire [BitVec.ofNat 8 i.val] s = refuse .wrongState s := by
  unfold opSocketRetire
  rw [fixedLen_of_length (n := 1) (p := [BitVec.ofNat 8 i.val]) rfl, socketArg_of_eq (i := i) (p := [BitVec.ofNat 8 i.val]) (k := 0) (toNat_ofNat_socket i)]
  exact if_neg h

/-- Settles O37, by what the run has left to do. -/
theorem socketRetireRetires : Obligations.SocketRetireRetires := by
  unfold Obligations.SocketRetireRetires
  intro f s i haddr hp
  refine ⟨fun h => ?_, fun hst hlife => ?_⟩
  · have hno : ¬ ((received s).started = true ∧ ((received s).sock i).life = .stressing) := fun ⟨h1, h2⟩ =>
      h.elim (fun hn => ((started_iff _).mp h1).elim hn.1 hn.2) fun hn => hn h2
    exact execFrame_refuses haddr ((congrArg (opSocketRetire · (received s)) hp).trans
      (opSocketRetire_refuses (s := received s) hno))
  · have hstarted : (received s).started = true := (started_iff _).mpr hst
    have hop := (congrArg (opSocketRetire · (received s)) hp).trans
      (opSocketRetire_retires (s := received s) hstarted hlife)
    have hgoes := fun j (hj : j ≠ i) h => retire_goes (d := none) (s := received s) (j := j) hj h
    have hends := retire_ends (d := none) (i := i) (s := received s) hstarted
    have ht := retire_touches i none (received s)
    have hself := retire_self (i := i) (d := none) (s := received s)
    have hmark := retire_marked i none (received s)
    have htherm := retire_therm i none (received s)
    have hquiet := retire_quiet i (received s) none
    have hurgent := retire_urgent i none (received s)
    have hlives := fun j (hj : j ≠ i) => retire_lives (d := none) (s := received s) j hj
    have hdone := retiredAlone_done (i := i) (d := none) (s := received s) hstarted
    have halone := retiredAlone_touches i none (received s)
    have helse := retiredAlone_elsewhere (i := i) (d := none) (s := received s)
    have hbin := endRun_bin .finished (retiredAlone i none (received s)) i
    have hrun := endRun_runs_as .finished (retiredAlone i none (received s))
    have hrun' := hrun
    rw [halone.run] at hrun'
    have hself' := retiredAlone_lives i none (received s) i
    have hfin : retire i none (received s) = retiredAlone i none (received s) ∨
        (retire i none (received s)).run.state = .finished := by
      by_cases hj : ∃ j, j ≠ i ∧ ((s.sock j).life = .waiting ∨ (s.sock j).life = .stressing)
      · obtain ⟨j, hj, h⟩ := hj
        exact .inl (hgoes j hj h)
      · refine .inr ?_
        rw [hends fun j hj' => not_or.mp fun h => hj ⟨j, hj', h⟩, hrun]
    generalize retire i none (received s) = t at *
    generalize retiredAlone i none (received s) = w at *
    refine ⟨_, execFrame_answers haddr hop ht.link, hself.1, hself.2, hmark.1, htherm, hquiet.1, hquiet.2, hurgent, rfl,
      hlives, fun hno => ?_, fun ⟨j, hj, h⟩ => ?_, fun hall => ?_, ht.mem, ht.pages, ht.programs, ht.staging, ht.straps,
      ht.now, ht.draws, ht.pending⟩
    · refine hfin.imp (fun h => ?_) id
      subst h
      exact hdone hno
    · obtain rfl := hgoes j hj h
      exact ⟨halone.run, fun k hk => ⟨helse.therm hk, helse.live hk, helse.bin hk⟩⟩
    · rw [← hends hall] at hrun' hbin
      refine ⟨hrun', hbin.trans ?_⟩
      unfold Socket.binNow
      rw [hself'.1, hself'.2, if_pos rfl, if_pos rfl]

end Sys2Proof.Proofs.RunEnds

/-! The accounting expiry (R160 to R165): the sockets examined in turn, and the run finish test after them. -/

namespace Sys2Proof.Proofs.RunEnds

open Sys2Proof.Machine Sys2Proof.Safety Sys2Proof.Proofs.PatternStore Sys2Proof.Proofs.Requests Sys2Proof.Proofs.Frames Sys2Proof.Proofs.Settings

/-! ## Where no zone is over its budget, rails open in silence -/

/-- No zone is over its budget and still armed (R76). -/
def Calm (s : State) : Prop := ∀ z, (s.zone z).armed = false ∨ s.dutSum z ≤ (s.zone z).budget

/-- From a calm state nothing is told, and the state stays calm. -/
def Hush (s t : State) : Prop := Calm s → Calm t ∧ t.notices = s.notices

section
variable {s t u : State} {i : SocketId}

theorem Hush.refl (s : State) : Hush s s := fun h => ⟨h, rfl⟩

theorem Hush.trans (h : Hush s t) (g : Hush t u) : Hush s u := fun hs =>
  ⟨(g (h hs).1).1, (g (h hs).1).2.trans (h hs).2⟩

theorem calm_of_stand (hs : Calm s) (h : Stand [.power, .armed, .budget] s t) : Calm t := fun z => by
  have hz : (t.zone z).armed = (s.zone z).armed := (h .armed rfl).zone z
  have hb : (t.zone z).budget = (s.zone z).budget := (h .budget rfl).zone z
  rw [dutSum_congr fun i _ => (h .power rfl).sock i, hz, hb]
  exact hs z

theorem hush_of_touches {l : List Piece} (h : Touches l s t)
    (hd : disjoint [.power, .armed, .budget, .routine, .urgent] l = true := by rfl) : Hush s t := fun hs => by
  have hst := h.stand hd
  exact ⟨calm_of_stand hs hst.mono, Touches.notices h (Piece.isIn_eq_false_of_disjoint hd rfl)
    (Piece.isIn_eq_false_of_disjoint hd rfl)⟩

theorem hush_forEach {α : Type} {l : List α} {f : α → State → State} (h : ∀ a t, Hush t (f a t)) (s : State) :
    Hush s (forEach l f s) :=
  forEach_keeps (P := Hush s) (fun a _ _ ht => ht.trans (h a _)) s (Hush.refl s)

/-- A power figure that falls to 0 sets off no over-budget test (R75, R76). -/
theorem hush_setPower (i : SocketId) (s : State) : Hush s (setPower i 0 s) := by
  intro hs
  unfold setPower
  split
  · exact ⟨hs, rfl⟩
  have hle : ∀ z, (modRail i (fun r => { r with power := 0 }) s).dutSum z ≤ s.dutSum z := fun z =>
    List.sum_le_sum fun j _ => by
      rw [modRail_sock]
      split
      · exact Nat.zero_le _
      · exact le_rfl
  have hcalm : Calm (modRail i (fun r => { r with power := 0 }) s) := fun z => by
    rw [modRail_zone]
    exact (hs z).imp id (hle z).trans
  generalize hu : modRail i (fun r => { r with power := 0 }) s = u at hcalm
  have hn : u.notices = s.notices := by rw [← hu]; rfl
  obtain ⟨h1, h2, -⟩ | ⟨-, h2, h⟩ | h := budgetTest_cases (zoneOf i) u
  · exact absurd (hcalm (zoneOf i)) (by simp [h1, h2])
  · rw [h]
    refine ⟨fun z => ?_, hn⟩
    have hsum : ∀ f, (modZone (zoneOf i) f u).dutSum z = u.dutSum z := fun f => dutSum_congr fun _ _ => by rw [modZone_sock]
    rw [hsum, modZone_zone]
    split
    · rename_i hz; subst hz
      exact .inr (h2.trans (by unfold rearmLevel; dsimp only; omega))
    · exact hcalm z
  · rw [h]; exact ⟨hcalm, hn⟩

/-- What comes after the rail itself has opened is silent too. -/
theorem hush_openRail {d : RailState} (hd : d = .off ∨ d = .rest) (i : SocketId) (s : State) : Hush s (openRail d i s) := by
  have h1 := hush_of_touches (railOpened_touches i s hd)
  have h2 := hush_of_touches ((hbToIdle_touches i (setPower i 0 (railOpened d i s))).comp (dropPass_touches i _)
    (n := [.live, .checked]))
  unfold openRail
  split
  · exact h1.trans ((hush_setPower i _).trans h2)
  · exact h1

theorem hush_changeInhibitNoGrant (f : Inhibit → Inhibit) (i : SocketId) (s : State) :
    Hush s (changeInhibitNoGrant f i s) := by
  have h1 : ∀ x, Hush s (withInhibit x i s) := fun x => hush_of_touches (setInhibit_touches i (fun _ => x) s)
  obtain ⟨-, -, h⟩ | ⟨-, -, -, h⟩ | ⟨-, -, -, h⟩ | ⟨-, -, h⟩ := changeInhibitNoGrant_cases f i s
  · rw [h]; exact (h1 _).trans (hush_openRail (.inl rfl) i _)
  · rw [h]; exact (h1 _).trans (hush_of_touches (joinQueue_touches i _))
  · rw [h]; exact (h1 _).trans (hush_of_touches (setRailState_touches i _ _))
  · rw [h]; exact h1 _

theorem hush_changeInhibit (f : Inhibit → Inhibit) (i : SocketId) (s : State) : Hush s (changeInhibit f i s) :=
  (hush_changeInhibitNoGrant f i s).trans (hush_of_touches (grantSlots_touches _ _))

theorem hush_changeInhibits (l : List SocketId) (f : SocketId → Inhibit → Inhibit) (s : State) :
    Hush s (changeInhibits l f s) :=
  (hush_forEach (fun i t => hush_changeInhibitNoGrant (f i) i t) s).trans
    (hush_forEach (fun z t => hush_of_touches (grantSlots_touches z t)) _)

theorem hush_thermOff (i : SocketId) (s : State) : Hush s (thermOff i s) := by
  rw [thermOff_eq]
  exact (hush_of_touches (modTherm_touches i heaterOff s)).trans (hush_changeInhibit _ i _)

theorem hush_finalEffects (i : SocketId) (s : State) : Hush s (finalEffects i s) :=
  (hush_changeInhibit (Inhibit.put .final true) i s).trans
    ((hush_thermOff i _).trans (hush_of_touches (finalEffects_after i s)))

theorem hush_zonesEnded (st : RunState) (s : State) : Hush s (zonesEnded st s) :=
  (hush_of_touches (runEnded_plain st s)).trans ((hush_changeInhibits _ _ _).trans
    ((hush_forEach (fun i t => hush_thermOff i t) _).trans (hush_of_touches (zonesEnded_touches st s))))

/-- The end of the run in FINISHED tells of itself alone. -/
theorem endRun_told (hs : Calm s) : (endRun .finished s).notices =
    routineAfter ⟨.board, s.run.clock, .runState .finished ⟨false, false⟩⟩ s.notices := by
  rw [endRun_notices, if_neg (by decide), (hush_zonesEnded .finished s hs).2]

end

/-! ## One completion -/

section
variable {i j : SocketId} {s : State}

/-- A zone told of a final socket goes on while another is under stress (R120). -/
theorem zoneTold_seq (hj : (s.sock j).life = .stressing) (z : ZoneId) :
    ((zoneTold z s).zone (zoneOf j)).seq = (s.zone (zoneOf j)).seq := by
  unfold zoneTold
  split
  · rename_i h
    have hz : zoneOf j ≠ z := by
      rintro rfl
      simp only [Bool.and_eq_true, Bool.not_eq_true', List.any_eq_false] at h
      exact h.1.2 j ((mem_zoneSockets _ _).mpr rfl) (by simp [hj])
    unfold zoneDone
    rw [(arbitrate_touches _).seq _, withdrawFetch_seq, if_neg hz, (closePass_touches z _).seq _, modSeq_seq, if_neg hz]
  · rfl

theorem grantOne_on {u : State} (h : RailLaws u) (z : ZoneId) (j : SocketId) :
    ((grantOne z u).sock j).rail.state = .on ↔ (u.sock j).rail.state = .on := by
  obtain ⟨he, -⟩ | ⟨i, rest, p, hq, -, -, he⟩ := grantOne_cases z u
  · rw [he]
  · rw [he, modRail_sock, modZone_sock]
    split
    · rename_i hij
      subst hij
      have hqueued := (((h.2.1 z).2 j).mp (hq ▸ List.mem_cons_self)).2
      refine iff_of_false ?_ (by rw [hqueued]; decide)
      unfold ramped
      split <;> simp
    · rfl

theorem grantSlots_on {u : State} (h : RailLaws u) (z : ZoneId) (j : SocketId) :
    ((grantSlots z u).sock j).rail.state = .on ↔ (u.sock j).rail.state = .on :=
  (grantOne_on ((grantOne_touches z u).law .rails rfl h) z j).trans (grantOne_on h z j)

/-- The rails of the other sockets stand in ON as a socket becomes final, and none enters it. -/
def RailsOn (i : SocketId) (s u : State) : Prop :=
  RailLaws u ∧ ∀ j, j ≠ i → ((u.sock j).rail.state = .on ↔ (s.sock j).rail.state = .on)

theorem railsOn_rule (i : SocketId) (s : State) : RailsFollow.SinkRule (fun j _ _ => j = i) (RailsOn i s) where
  frame h hv := ⟨railLaws_of_stand hv.mono h.1, fun j hj => by rw [hv.railState j]; exact h.2 j hj⟩
  change f j h hj := by
    subst hj
    refine ⟨changeInhibitNoGrant_rails f _ _ h.1, fun j hj => ?_⟩
    rw [(changeInhibitNoGrant_elsewhere _ _ f).railState hj]
    exact h.2 j hj
  grant z h := by
    refine ⟨(grantSlots_touches z _).law .rails rfl h.1, fun j hj => ?_⟩
    rw [← h.2 j hj]
    exact grantSlots_on h.1 z j

theorem complete_told (i : SocketId) (s : State) : Hush s (finalEffects i (completed i s)) :=
  (hush_of_touches (setLife_touches i (fun _ => .complete) s)).trans (hush_finalEffects i _)

/-- A completed socket: FINAL in its set, its heater off, its heartbeat IDLE, out of its pass (R163). -/
def Gone (k : Socket) : Prop :=
  k.life = .complete ∧ k.rail.inhibit.final = true ∧ k.therm.state = .off ∧ k.therm.duty = 0 ∧ k.live.state = .idle ∧
    k.pass.checked = false

theorem complete_gone (i : SocketId) (s : State) : Gone ((complete i s).sock i) := by
  have h := complete_after i s
  have hself := finalEffects_self i (completed i s)
  have hinh := finalEffects_inhibit i (completed i s) i
  have htherm := finalEffects_therm i (completed i s) i
  have hlife := (finalEffects_touches i (completed i s)).life i
  rw [if_pos rfl] at hinh htherm
  unfold Gone
  rw [h.life i, h.inhibit i, h.therm i, h.live i, h.pass i, hself.1, hself.2, hinh, htherm, hlife, completed_sock, if_pos rfl]
  exact ⟨rfl, rfl, rfl, rfl, rfl, rfl⟩

theorem complete_elsewhere (i : SocketId) (s : State) : Elsewhere (.routine :: .checked :: granting) i s (complete i s) :=
  (modSock_elsewhere _ i (fun k => { k with life := .complete }) s).trans
    ((finalEffects_elsewhere i _).mono.trans ((complete_after i s).elsewhere i))

theorem complete_on (h : RailLaws s) : RailsOn i s (complete i s) := by
  have R := railsOn_rule i s
  have h1 : RailsOn i s (completed i s) := R.touch ⟨h, fun _ _ => .rfl⟩ (setLife_touches i (fun _ => .complete) s)
  exact R.touch (R.finalEffects h1 ⟨rfl, rfl⟩) (complete_after i s)

theorem complete_seq (hj : j ≠ i) (hlife : (s.sock j).life = .stressing) :
    ((complete i s).zone (zoneOf j)).seq = (s.zone (zoneOf j)).seq := by
  have h1 : Touches (.live :: .checked :: .therm :: railWork) (completed i s) (finalBlocks i (completed i s)) :=
    finalBlocks_touches
  have h0 := setLife_touches i (fun _ => .complete) s
  rw [(complete_after i s).seq, finalEffects_told]
  generalize finalBlocks i (completed i s) = u at h1
  rw [zoneTold_seq, h1.seq, h0.seq]
  rw [h1.life j, completed_sock, if_neg hj, hlife]

theorem complete_quiets (i : SocketId) (s : State) : Quiets s (complete i s) :=
  ((setLife_touches i (fun _ => .complete) s).quiets).trans
    ((finalEffects_quiets i _).trans (complete_after i s).quiets)

theorem complete_notices (hs : Calm s) : Calm (complete i s) ∧ (complete i s).notices =
    routineAfter ⟨.socket i, s.run.clock, .complete (s.sock i).acct.credit (s.sock i).acct.total⟩ s.notices := by
  obtain ⟨h1, h2⟩ := complete_told i s hs
  have h0 := setLife_touches i (fun _ => .complete) s
  have ht := finalEffects_touches i (completed i s)
  have hc : (finalEffects i (completed i s)).run.clock = s.run.clock := ht.clock.trans h0.clock
  have ha : ((finalEffects i (completed i s)).sock i).acct = (s.sock i).acct := (ht.acct i).trans (h0.acct i)
  refine ⟨calm_of_stand h1 ((complete_after i s).stand), ?_⟩
  show (sendRoutine _ _ (finalEffects i (completed i s))).notices = _
  generalize finalEffects i (completed i s) = u at *
  rw [Reports.sendRoutine_eq, hc, ha, h2]

end

/-! ## The sockets in turn -/

/-- The socket gains a second at this expiry (R161). -/
abbrev Due (s : State) (i : SocketId) : Prop := (s.sock i).life = .stressing ∧ s.creditDue i = true

/-- The second gained completes the socket (R163). -/
abbrev Finishes (s : State) (i : SocketId) : Prop := Due s i ∧ (credited i s).targetReached i = true

/-- The lanes after the COMPLETE notice of a socket. -/
def completeTold (s : State) (q : NoticeQueue) (i : SocketId) : NoticeQueue :=
  routineAfter ⟨.socket i, s.run.clock, .complete ((s.sock i).acct.credit + 1) (s.sock i).acct.total⟩ q

/-- The sockets of `l` have been examined at the expiry. -/
structure Examined (l : List SocketId) (s u : State) : Prop where
  laws : RailLaws u
  run : u.run = s.run
  acct : ∀ i, (u.sock i).acct =
    if i ∈ l ∧ Due s i then { (s.sock i).acct with credit := (s.sock i).acct.credit + 1 } else (s.sock i).acct
  gone : ∀ i ∈ l, Finishes s i → Gone (u.sock i)
  stays : ∀ i, ¬ (i ∈ l ∧ Finishes s i) → (u.sock i).life = (s.sock i).life ∧ (u.sock i).bin = (s.sock i).bin ∧
    (u.sock i).therm = (s.sock i).therm ∧ (u.sock i).live = (s.sock i).live ∧
    (u.sock i).rail.inhibit = (s.sock i).rail.inhibit
  later : ∀ i, i ∉ l → (s.sock i).life = .stressing → ((u.sock i).rail.state = .on ↔ (s.sock i).rail.state = .on) ∧
    (u.zone (zoneOf i)).seq = (s.zone (zoneOf i)).seq
  frame : (∀ i ∈ l, ¬ Finishes s i) → u = { s with sockets := u.sockets }
  told : Calm s → Calm u ∧ u.notices = (l.filter (Finishes s ·)).foldl (completeTold s) s.notices

section
variable {l : List SocketId} {i : SocketId} {s u : State}

theorem Examined.start (hs : RailLaws s) : Examined [] s s :=
  ⟨hs, rfl, fun i => by simp, by simp, fun _ _ => ⟨rfl, rfl, rfl, rfl, rfl⟩, fun _ _ _ => ⟨.rfl, rfl⟩, fun _ => rfl,
    fun h => ⟨h, rfl⟩⟩

/-- A socket not yet examined is due a second as it was at first. -/
theorem Examined.due (h : Examined l s u) (hi : i ∉ l) : Due u i ↔ Due s i := by
  obtain ⟨h1, -, h3, h4, -⟩ := h.stays i fun hc => hi hc.1
  unfold Due
  rw [h1]
  refine and_congr_right fun hlife => ?_
  obtain ⟨hon, hseq⟩ := h.later i hi hlife
  unfold State.creditDue
  rw [h.run, h3, h4, hseq, show ((u.sock i).rail.state == .on) = ((s.sock i).rail.state == .on) from by
    rw [Bool.eq_iff_iff]; simpa using hon]

theorem Examined.finishes (h : Examined l s u) (hi : i ∉ l) : Finishes u i ↔ Finishes s i := by
  have hacct := h.acct i
  rw [if_neg fun hc => hi hc.1] at hacct
  refine and_congr (h.due hi) ?_
  unfold State.targetReached
  rw [credited_acct, credited_acct, if_pos rfl, if_pos rfl, hacct]
  show (match u.run.record with | some r => _ | none => _) = true ↔ _
  rw [h.run]
  rfl

theorem mem_snoc {j : SocketId} : j ∈ l ++ [i] ↔ j ∈ l ∨ j = i := by simp

theorem Examined.skip (h : Examined l s u) (hd : ¬ Due s i) : Examined (l ++ [i]) s u := by
  have hdue : ∀ j, (j ∈ l ++ [i] ∧ Due s j) ↔ (j ∈ l ∧ Due s j) := fun j => by
    rw [mem_snoc]
    refine ⟨fun ⟨hj, hdj⟩ => ⟨hj.resolve_right fun he => hd (he ▸ hdj), hdj⟩, fun ⟨hj, hdj⟩ => ⟨.inl hj, hdj⟩⟩
  refine ⟨h.laws, h.run, fun j => ?_, fun j hj hf => ?_, fun j hj => ?_, fun j hj => ?_, fun hf => ?_, fun hc => ?_⟩
  · rw [h.acct j, if_congr (hdue j) rfl rfl]
  · exact h.gone j ((hdue j).mp ⟨hj, hf.1⟩).1 hf
  · exact h.stays j fun ⟨hjl, hf⟩ => hj ⟨mem_snoc.mpr (.inl hjl), hf⟩
  · exact h.later j fun hc => hj (mem_snoc.mpr (.inl hc))
  · exact h.frame fun j hj => hf j (mem_snoc.mpr (.inl hj))
  · rw [List.filter_append, List.filter_singleton]
    simpa [hd] using h.told hc

theorem Examined.credit (h : Examined l s u) (hi : i ∉ l) (hd : Due s i) (hf : ¬ Finishes s i) :
    Examined (l ++ [i]) s (credited i u) := by
  have hu := (h.due hi).mpr hd
  have ht := credited_touches hu.1
  refine ⟨ht.law .rails rfl h.laws, ht.run.trans h.run, fun j => ?_, fun j hj hfj => ?_, fun j hj => ?_, fun j hj hlife => ?_,
    fun hn => ?_, fun hc => ?_⟩
  · rw [credited_acct]
    split
    · rename_i hj
      subst hj
      rw [if_pos ⟨mem_snoc.mpr (.inr rfl), hd⟩, h.acct j, if_neg fun hc => hi hc.1]
    · rename_i hj
      exact (h.acct j).trans (if_congr (and_congr_left' (mem_snoc.trans (or_iff_left hj)).symm) rfl rfl)
  · obtain hjl | rfl := mem_snoc.mp hj
    · unfold Gone
      rw [ht.life j, ht.inhibit j, ht.therm j, ht.live j, ht.pass j]
      exact h.gone j hjl hfj
    · exact absurd hfj hf
  · rw [ht.life j, ht.inhibit j, ht.therm j, ht.live j, ht.bin j]
    exact h.stays j fun ⟨hjl, hfj⟩ => hj ⟨mem_snoc.mpr (.inl hjl), hfj⟩
  · rw [ht.railState j, ht.seq (zoneOf j)]
    exact h.later j (fun hc => hj (mem_snoc.mpr (.inl hc))) hlife
  · have hu := h.frame fun j hj => hn j (mem_snoc.mpr (.inl hj))
    show { u with sockets := (credited i u).sockets } = _
    rw [hu]
  · obtain ⟨h1, h2⟩ := h.told hc
    refine ⟨calm_of_stand h1 ht.stand, ?_⟩
    rw [List.filter_append, List.filter_singleton]
    simpa [hf] using ht.notices.trans h2

theorem Examined.complete (h : Examined l s u) (hi : i ∉ l) (hf : Finishes s i) :
    Examined (l ++ [i]) s (complete i (credited i u)) := by
  have hu := (h.due hi).mpr hf.1
  have ht := credited_touches hu.1
  have hst : (credited i u).started = true := ht.started.trans ((started_iff u).mpr (.inl (creditDue_active hu.2)))
  have hc := complete_keeps hst ((ht.life i).trans hu.1)
  have helse := complete_elsewhere i (credited i u)
  have hon := complete_on (i := i) (ht.law .rails rfl h.laws)
  have hquiet := complete_quiets i (credited i u)
  have hgone := complete_gone i (credited i u)
  have hseq := fun j (hj : j ≠ i) hlife => complete_seq (i := i) (s := credited i u) (j := j) hj hlife
  have htold := complete_notices (i := i) (s := credited i u)
  have hacct : ((credited i u).sock i).acct = { (s.sock i).acct with credit := (s.sock i).acct.credit + 1 } := by
    rw [credited_acct, if_pos rfl, h.acct i, if_neg fun hc => hi hc.1]
  generalize Machine.complete i (credited i u) = v at *
  refine ⟨hon.1, hc.run.trans (ht.run.trans h.run), fun j => ?_, fun j hj hfj => ?_, fun j hj => ?_, fun j hj hlife => ?_,
    fun hn => ?_, fun hcalm => ?_⟩
  · rw [hc.acct j]
    by_cases hj : j = i
    · subst hj
      rw [if_pos ⟨mem_snoc.mpr (.inr rfl), hf.1⟩, hacct]
    · rw [credited_acct, if_neg hj]
      exact (h.acct j).trans (if_congr (and_congr_left' (mem_snoc.trans (or_iff_left hj)).symm) rfl rfl)
  · by_cases hji : j = i
    · subst hji; exact hgone
    · have hg := h.gone j ((mem_snoc.mp hj).resolve_right hji) hfj
      have hpass : (v.sock j).pass.checked = false := by
        obtain hp | hp := (hquiet j).2
        · rw [hp, ht.pass j]; exact hg.2.2.2.2.2
        · rw [hp]; rfl
      unfold Gone
      rw [helse.life hji, helse.inhibit hji, helse.therm hji, helse.live hji, ht.life j, ht.inhibit j, ht.therm j, ht.live j]
      exact ⟨hg.1, hg.2.1, hg.2.2.1, hg.2.2.2.1, hg.2.2.2.2.1, hpass⟩
  · have hji : j ≠ i := fun he => hj ⟨mem_snoc.mpr (.inr he), he ▸ hf⟩
    rw [helse.life hji, helse.inhibit hji, helse.therm hji, helse.live hji, helse.bin hji, ht.life j, ht.inhibit j, ht.therm j,
      ht.live j, ht.bin j]
    exact h.stays j fun ⟨hjl, hfj⟩ => hj ⟨mem_snoc.mpr (.inl hjl), hfj⟩
  · obtain ⟨hjl, hji⟩ := not_or.mp fun hc => hj (mem_snoc.mpr hc)
    have hstays := h.stays j fun hc => hjl hc.1
    rw [hon.2 j hji, hseq j hji (by rw [ht.life j, hstays.1, hlife]), ht.railState j, ht.seq (zoneOf j)]
    exact h.later j hjl hlife
  · exact absurd hf (hn i (mem_snoc.mpr (.inr rfl)))
  · obtain ⟨h1, h2⟩ := h.told hcalm
    obtain ⟨g1, g2⟩ := htold (calm_of_stand h1 ht.stand)
    refine ⟨g1, ?_⟩
    rw [List.filter_append, List.filter_singleton, g2, hacct, ht.clock, h.run, ht.notices, h2]
    simp [hf, completeTold]

theorem Examined.step (h : Examined l s u) (hi : i ∉ l) : Examined (l ++ [i]) s (creditOne i u) := by
  by_cases hf : Finishes s i
  · obtain ⟨hd, hr⟩ := (h.finishes hi).mpr hf
    rw [show creditOne i u = Machine.complete i (credited i u) from (if_pos hd).trans (if_pos hr)]
    exact h.complete hi hf
  · by_cases hd : Due s i
    · have hr : ¬ (credited i u).targetReached i = true := fun hr => hf ((h.finishes hi).mp ⟨(h.due hi).mpr hd, hr⟩)
      rw [show creditOne i u = credited i u from (if_pos ((h.due hi).mpr hd)).trans (if_neg hr)]
      exact h.credit hi hd hf
    · rw [show creditOne i u = u from if_neg fun hc => hd ((h.due hi).mp hc)]
      exact h.skip hd

theorem examined_forEach (hs : RailLaws s) (hl : l.Nodup) : Examined l s (forEach l creditOne s) := by
  induction l using List.reverseRecOn with
  | nil => exact .start hs
  | append_singleton l i ih =>
    obtain ⟨h1, -, h3⟩ := List.nodup_append.mp hl
    rw [forEach_append]
    exact (ih h1).step fun hi => h3 i hi i (List.mem_singleton.mpr rfl) rfl

end

/-! ## The expiry -/

/-- The state in which the sockets are examined: the clock has risen and the timer is set anew. -/
def accounted (e : Nat) (s : State) : State := ticked (some (e + 1000 * Config.cyclesPerMs)) (advanceTo e s)

theorem exec_accounting {s : State} {e : Nat} (he : s.run.acctTimer = some e) :
    exec .accountingTimerExpiry s = .next (finishTest (forEach allSockets creditOne (accounted e s))) := by
  show execAccountingTimerExpiry s = _
  unfold execAccountingTimerExpiry
  rw [he]
  rfl

section
variable {s u : State} {r : RunRecord} {i : SocketId}

theorem due_iff : Due s i ↔ s.run.state = .active ∧ (s.sock i).life = .stressing ∧
    (s.sock i).rail.state = .on ∧ (s.sock i).therm.state = .inband ∧
      ((s.zone (zoneOf i)).seq.state = .playing ∨ (s.zone (zoneOf i)).seq.state = .gap ∨
        (s.zone (zoneOf i)).seq.state = .static) ∧
      (s.sock i).live.state ≠ .resetHeld ∧ (s.sock i).live.state ≠ .ignore := by
  unfold Due State.creditDue
  simp only [Bool.and_eq_true, Bool.or_eq_true, beq_iff_eq, bne_iff_ne, or_assoc]
  exact ⟨fun ⟨h1, ⟨⟨⟨⟨h2, h3⟩, h4⟩, h5⟩, h6⟩, h7⟩ => ⟨h2, h1, h3, h4, h5, h6, h7⟩,
    fun ⟨h2, h1, h3, h4, h5, h6, h7⟩ => ⟨h1, ⟨⟨⟨⟨h2, h3⟩, h4⟩, h5⟩, h6⟩, h7⟩⟩

theorem finishes_iff (hr : s.run.record = some r) : Finishes s i ↔ Due s i ∧ r.target ≤ (s.sock i).acct.credit + 1 := by
  unfold Finishes State.targetReached
  rw [show (credited i s).run.record = some r from hr, credited_acct, if_pos rfl]
  simp

/-- The run goes on exactly where a socket waits or is still under stress (R165). -/
theorem Examined.goes (h : Examined allSockets s u)
    (hg : ∃ i, (s.sock i).life = .waiting ∨ ((s.sock i).life = .stressing ∧ ¬ Finishes s i)) : finishTest u = u := by
  obtain ⟨i, hi⟩ := hg
  have hf : ¬ Finishes s i := hi.elim (fun h1 hf => by rw [hf.1.1] at h1; cases h1) (·.2)
  refine finishTest_goes (j := i) ?_
  rw [(h.stays i fun hc => hf hc.2).1]
  exact hi.imp id (·.1)

theorem Examined.ends (h : Examined allSockets s u) (hst : s.started = true)
    (hg : ¬ ∃ i, (s.sock i).life = .waiting ∨ ((s.sock i).life = .stressing ∧ ¬ Finishes s i)) :
    finishTest u = endRun .finished u := by
  have hst' : u.started = true := by unfold State.started; rw [h.run]; exact hst
  refine finishTest_ends hst' fun i => ?_
  by_cases hf : Finishes s i
  · rw [(h.gone i (mem_allSockets i) hf).1]
    exact ⟨by decide, by decide⟩
  · rw [(h.stays i fun hc => hf hc.2).1]
    exact not_or.mp fun hc => hg ⟨i, hc.imp id fun hs => ⟨hs, hf⟩⟩

/-- What the end of the run leaves of a completed socket. -/
theorem gone_endRun (h : Gone (u.sock i)) : Gone ((endRun .finished u).sock i) := by
  obtain ⟨h1, h2, h3, h4, h5, h6⟩ := h
  have ht := endRun_plain .finished u
  have htherm := endRun_therm .finished u i
  have hlive := endRun_live i u .finished
  have hpass := endRun_pass .finished u i
  have hinh := endRun_inhibit .finished u i
  generalize endRun .finished u = t at *
  unfold Gone
  rw [ht.life i, htherm, hlive, hpass, hinh]
  exact ⟨h1, h2, rfl, rfl, rfl, rfl⟩

end

/-- Settles O59, by the sockets examined in turn. -/
theorem accountingCreditsSeconds : Obligations.AccountingCreditsSeconds := by
  unfold Obligations.AccountingCreditsSeconds
  intro s r e he hr hst hlaws due done run goes
  have hst' : (accounted e s).started = true := (started_iff _).mpr hst
  have hrun : (accounted e s).run = run := rfl
  have hdue : ∀ i, Due (accounted e s) i ↔ due i := fun i => due_iff
  have hdone : ∀ i, Finishes (accounted e s) i ↔ done i := fun i =>
    (finishes_iff (s := accounted e s) hr).trans (and_congr_left' (hdue i))
  have hgoes : (∃ i, (s.sock i).life = .waiting ∨ ((s.sock i).life = .stressing ∧ ¬ Finishes (accounted e s) i)) ↔ goes :=
    exists_congr fun i => or_congr_right (and_congr_right' (not_congr (hdone i)))
  have hcalm : (∀ z, (s.zone z).armed = false ∨ s.dutSum z ≤ (s.zone z).budget) → Calm (accounted e s) := id
  have hex := examined_forEach (l := allSockets) (s := accounted e s) hlaws allSockets_nodup
  have ht := accounted_touches (s := advanceTo e s) (e := e + 1000 * Config.cyclesPerMs) (by
    show s.run.acctTimer.isSome = true
    rw [he]; rfl)
  have hexec := exec_accounting he
  have hw : (∀ i, (accounted e s).sock i = s.sock i) ∧ (accounted e s).notices = s.notices := ⟨fun _ => rfl, rfl⟩
  have hframe : accounted e s = { s with run := run, now := max s.now e } := rfl
  have ht : Touches (.clock :: retireWork) (advanceTo e s) (finishTest (forEach allSockets creditOne (accounted e s))) := ht
  generalize accounted e s = w at *
  generalize forEach allSockets creditOne w = u at *
  obtain ⟨hsock, hnotices⟩ := hw
  have hgo := fun hg : goes => hex.goes (by simpa only [hsock] using hgoes.mpr hg)
  have hend := fun hg : ¬ goes => hex.ends hst' (by simpa only [hsock] using mt hgoes.mp hg)
  have hacct : ∀ i, ((finishTest u).sock i).acct = (u.sock i).acct := (finishTest_touches u).acct
  have hlife : ∀ i, ((finishTest u).sock i).life = (u.sock i).life := (finishTest_touches u).life
  have hrunE := endRun_runs_as .finished u
  have htoldE := endRun_told (s := u)
  have hgone : ∀ i, done i → Gone ((finishTest u).sock i) := fun i hi => by
    have hg := hex.gone i (mem_allSockets i) ((hdone i).mpr hi)
    by_cases hgg : goes
    · rw [hgo hgg]; exact hg
    · rw [hend hgg]; exact gone_endRun hg
  rw [hex.run, hrun] at hrunE
  generalize endRun .finished u = v at *
  generalize finishTest u = t at *
  refine ⟨t, hexec, ht.now, fun hg => ?_, fun hg => ?_, fun i => ⟨fun hi => ?_, fun hi => ?_, fun hi => ?_, fun hi => ?_⟩,
    fun hn hg => ?_, fun l hl hmem hc => ?_, ht.mem, ht.pages, ht.programs, ht.staging, ht.link, ht.straps, ht.draws,
    ht.pending⟩
  · rw [hgo hg, hex.run, hrun]
  · rw [hend hg, hrunE]
  · rw [hacct i, hex.acct i, if_pos ⟨mem_allSockets i, (hdue i).mpr hi⟩, hsock]
  · rw [hacct i, hex.acct i, if_neg fun hc => hi ((hdue i).mp hc.2), hsock]
  · exact hgone i hi
  · obtain ⟨h1, h2, h3, h4, h5⟩ := hex.stays i fun hc => hi ((hdone i).mp hc.2)
    rw [hsock] at h1 h2 h3 h4 h5
    refine ⟨(hlife i).trans h1, fun hg => ?_⟩
    rw [hgo hg]
    exact ⟨h2, h3, h4, h5⟩
  · rw [hgo hg]
    refine (hex.frame fun i _ hi => hn i ((hdone i).mp hi)).trans ?_
    rw [hframe]
  · obtain ⟨h1, h2⟩ := hex.told (hcalm hc)
    have hfilter : (allSockets.filter (Finishes w ·)) = l :=
      (RailsFollow.allSockets_pairwise.filter _).eq_of_mem_iff hl fun i => by
        rw [hmem i, List.mem_filter, decide_eq_true_iff, hdone i]
        exact and_iff_right (mem_allSockets i)
    have htold : u.notices = l.foldl (fun q i => routineAfter
        ⟨.socket i, run.clock, .complete ((s.sock i).acct.credit + 1) (s.sock i).acct.total⟩ q) s.notices := by
      rw [h2, hfilter, hnotices]
      unfold completeTold
      simp only [hsock, hrun]
    refine ⟨fun hg => ?_, fun hg => ?_⟩
    · rw [hgo hg]; exact htold
    · rw [hend hg, htoldE h1, htold, hex.run, hrun]

end Sys2Proof.Proofs.RunEnds

/-! The permit monitor (R14, R19): its edges, the expiry of its edge timer, and the hold that a lost permit brings. -/

namespace Sys2Proof.Proofs.Permit

open Sys2Proof.Machine Sys2Proof.Safety Sys2Proof.Proofs.Requests Sys2Proof.Proofs.Frames

/-! ## Rails that causes open -/

section
variable {f : Inhibit → Inhibit} {i : SocketId} {s : State}

/-- A cause added to the set of a rail in ON stops its heartbeat monitor (R30, R146). -/
theorem changeInhibitNoGrant_live (hon : (s.sock i).rail.state = .on)
    (ha : (s.sock i).rail.inhibit.adds (f (s.sock i).rail.inhibit) = true) :
    ((changeInhibitNoGrant f i s).sock i).live = quietLive (s.sock i).live := by
  have h1 : Touches (closed [.inhibit]) s (withInhibit (f (s.sock i).rail.inhibit) i s) :=
    setInhibit_touches i (fun _ => f (s.sock i).rail.inhibit) s
  have he : changeInhibitNoGrant f i s = openRail .off i (withInhibit (f (s.sock i).rail.inhibit) i s) := by
    refine (if_pos ha).trans (if_pos ?_)
    rw [hon]; rfl
  rw [he]
  generalize withInhibit (f (s.sock i).rail.inhibit) i s = u at *
  have hu : openRail .off i u = dropPass i (hbToIdle i (setPower i 0 (railOpened .off i u))) :=
    if_pos ((h1.railState i).trans hon)
  have h2 : Touches (closed [.railState, .timers, .queue] ++ [.power, .armed, .routine]) u
      (setPower i 0 (railOpened .off i u)) :=
    (railOpened_base_touches .off i u).comp (setPower_touches i 0 _)
  rw [hu, (dropPass_touches i _).live i, hbToIdle_live, if_pos rfl, h2.live i, h1.live i]

theorem changeInhibits_live {l : List SocketId} {f : SocketId → Inhibit → Inhibit} (hl : l.Nodup) (hi : i ∈ l)
    (hon : (s.sock i).rail.state = .on) (ha : (s.sock i).rail.inhibit.adds (f i (s.sock i).rail.inhibit) = true) :
    ((changeInhibits l f s).sock i).live = quietLive (s.sock i).live := by
  obtain ⟨a, b, rfl⟩ := List.append_of_mem hi
  obtain ⟨-, -, hab⟩ := List.nodup_append.mp hl
  have hia : ∀ j ∈ a, i ≠ j := fun j hj => (hab j hj i List.mem_cons_self).symm
  have hbefore : ∀ t, (t.sock i).rail.state = .on ∧ (t.sock i).rail.inhibit = (s.sock i).rail.inhibit ∧
      (t.sock i).live = (s.sock i).live → ∀ j ∈ a, ((changeInhibitNoGrant (f j) j t).sock i).rail.state = .on ∧
      ((changeInhibitNoGrant (f j) j t).sock i).rail.inhibit = (s.sock i).rail.inhibit ∧
      ((changeInhibitNoGrant (f j) j t).sock i).live = (s.sock i).live := fun t ht j hj => by
    have h := changeInhibitNoGrant_elsewhere j t (f j)
    rw [h.railState (hia j hj), h.inhibit (hia j hj), h.live (hia j hj)]
    exact ht
  obtain ⟨h1, h2, h3⟩ := forEach_keeps (l := a) (f := fun j => changeInhibitNoGrant (f j) j)
    (P := fun t => (t.sock i).rail.state = .on ∧ (t.sock i).rail.inhibit = (s.sock i).rail.inhibit ∧
      (t.sock i).live = (s.sock i).live) (fun j hj t ht => hbefore t ht j hj) s ⟨hon, rfl, rfl⟩
  have hopen := changeInhibitNoGrant_live (f := f i) h1 (h2 ▸ ha)
  unfold changeInhibits
  rw [forEach_append, forEach_cons]
  have hafter := (forEach_quiets (as := b) (f := fun j => changeInhibitNoGrant (f j) j)
    (fun j _ t => changeInhibitNoGrant_quiets j t (f j))
    (changeInhibitNoGrant (f i) i (forEach a (fun j => changeInhibitNoGrant (f j) j) s))).trans
    (forEach_touches (fun z _ t => grantSlots_touches z t) (as := allZones) _).quiets
  rw [h3] at hopen
  exact (hafter i).live_quiet hopen

end

/-! ## The hold of a run whose permit was lost -/

section
variable {s : State} {i : SocketId}

/-- A rail in ON stops its heartbeat monitor as the permit is lost. -/
theorem permitRails_live (hs : RailLaws s) (hlife : (s.sock i).life = .stressing) (hon : (s.sock i).rail.state = .on) :
    ((permitRails s).sock i).live = quietLive (s.sock i).live := by
  have hperm : (s.sock i).rail.inhibit.permit = false := by
    by_contra hc
    have hd : RailDown s i := railDown_of_cause (c := .permit) hs (by simpa [Inhibit.has] using hc)
    rcases hd with h | h <;> rw [hon] at h <;> cases h
  refine changeInhibits_live (s := heldAs .held { s.run.holds with permit := true } s) (allSockets_nodup.filter _)
    (List.mem_filter.mpr ⟨mem_allSockets i, by simpa using hlife⟩) hon ?_
  show Inhibit.adds (s.sock i).rail.inhibit _ = true
  simp [Inhibit.adds, Inhibit.put, hperm]

/-- The zones and heartbeats of a run whose permit was lost, after its rails and heaters (R14, R115, R147). -/
def permitHeld (s : State) : State :=
  if s.run.state = .active then holdBlocks (permitHeaters s) else permitHeaters s

theorem permitLost_held (h : s.run.state = .active ∨ (s.run.state = .held ∧ s.run.holds.permit = false)) :
    permitLost s = runStateNotice true (permitHeld s) := if_pos h

theorem permitHeld_after (s : State) : Touches [.seq, .chk, .checked, .routine, .live] (permitHeaters s) (permitHeld s) :=
  ite_touches (holdBlocks_touches _) (Touches.refl _ _)

theorem permitHeaters_all (s : State) : Touches (.therm :: railWork) (heldAs .held { s.run.holds with permit := true } s)
    (permitHeaters s) := (permitRails_touches s).comp (permitHeaters_touches s)

theorem permitHeld_run (s : State) : (permitHeld s).run =
    { s.run with state := .held, holds := { s.run.holds with permit := true } } := by
  rw [(permitHeld_after s).run, (permitHeaters_all s).run]
  rfl

theorem heldZone_seq {k k' : Zone} (w : BitVec 16) (h : k'.seq = k.seq) :
    (Sequencing.heldZone w k').seq = (Sequencing.heldZone w k).seq := by
  unfold Sequencing.heldZone
  rw [h]
  cases k.seq.state with
  | playing | stalled | priming | gap => rfl
  | idle | static | held | halted | done => exact h

/-- The zones of an ACTIVE run are held, and stay in one that was HELD. -/
theorem permitHeld_zone (s : State) (z : ZoneId) : ((permitHeld s).zone z).seq =
    if s.run.state = .active then (Sequencing.heldZone (s.idleWord z) (s.zone z)).seq else (s.zone z).seq := by
  have h := permitHeaters_all s
  have hseq : ((permitHeaters s).zone z).seq = (s.zone z).seq := h.seq z
  unfold permitHeld
  split
  · rw [(Sequencing.holdBlocks_eq (permitHeaters s)).2.1 z]
    have hword : (permitHeaters s).idleWord z = s.idleWord z :=
      (Sequencing.program_congr (congrArg (·.assigned) hseq) h.programs).1
    rw [hword]
    exact heldZone_seq _ hseq
  · exact hseq

theorem permitHeld_live (hs : RailLaws s) (hlife : (s.sock i).life = .stressing) (hon : (s.sock i).rail.state = .on) :
    ((permitHeld s).sock i).live = quietLive (s.sock i).live := by
  have h : ((permitHeaters s).sock i).live = quietLive (s.sock i).live :=
    ((permitHeaters_touches s).live i).trans (permitRails_live hs hlife hon)
  unfold permitHeld
  split
  · rw [(Sequencing.holdBlocks_eq (permitHeaters s)).2.2 i, h]
    rfl
  · exact h

end

/-! ## The monitor -/

theorem exec_edge (s : State) : exec .ovenPermitEdge s = .next (
    if s.run.permitTimeout = 0 then s
    else { s with
      run := match s.run.edgeTimer with
        | none => { s.run with edgeTimer := some (s.now + s.run.permitTimeout * 50000), edgeCount := 1 }
        | some _ => { s.run with
            edgeTimer := some (s.now + s.run.permitTimeout * 50000)
            edgeCount := min 2 (s.run.edgeCount + 1)
            permitValid := s.run.permitValid || decide (1 ≤ s.run.edgeCount) } }) := by
  show execOvenPermitEdge s = _
  unfold execOvenPermitEdge
  split
  · rfl
  · cases s.run.edgeTimer with
    | none => rfl
    | some e =>
      simp only [modRun, afterMs, show 2 ≤ s.run.edgeCount + 1 ↔ 1 ≤ s.run.edgeCount by omega]

/-- The permit monitor after its edge timer ran out. -/
def expired (e : Nat) (s : State) : State :=
  modRun (fun r => { r with edgeTimer := none, edgeCount := 0, permitValid := false }) (advanceTo e s)

theorem exec_expiry {s : State} {e : Nat} (he : s.run.edgeTimer = some e) : exec .permitTimerExpiry s =
    .next (if s.run.permitValid then permitLost (expired e s) else expired e s) := by
  show execPermitTimerExpiry s = _
  unfold execPermitTimerExpiry
  rw [he]
  rfl

/-- Settles O38: the edges by cases, and the loss of the permit block by block. -/
theorem permitMonitorWatches : Obligations.PermitMonitorWatches := by
  unfold Obligations.PermitMonitorWatches
  refine ⟨exec_edge, fun s e he => ?_⟩
  intro run felt
  have hexec := exec_expiry he
  refine ⟨fun hf => ?_, fun hf hlaws => ?_⟩
  · rw [hexec]
    split
    · rename_i hv
      exact congrArg Host.Outcome.next (if_neg fun hc => hf ⟨hv, hc⟩)
    · rfl
  rw [if_pos hf.1] at hexec
  have hinv := fun hs => RailsFollow.railsFollowTheirSets .permitTimerExpiry s _ rfl hs hexec
  have ht := permitLost_touches (expired e s)
  have hlost := (permitLost_held (s := expired e s) hf.2).trans (Reports.runStateNotice_urgent_eq _)
  have hlr : (permitLost (expired e s)).run = (permitHeld (expired e s)).run := by rw [hlost]
  have hln : (permitLost (expired e s)).notices = urgentAfter ⟨.board, (permitHeld (expired e s)).run.clock,
      .runState (permitHeld (expired e s)).run.state (permitHeld (expired e s)).run.holds⟩ (permitHeld (expired e s)).notices := by
    rw [hlost]
  have hls : ∀ i, (permitLost (expired e s)).sock i = (permitHeld (expired e s)).sock i := fun i => by rw [hlost]; rfl
  have hlz : ∀ z, (permitLost (expired e s)).zone z = (permitHeld (expired e s)).zone z := fun z => by rw [hlost]; rfl
  have hdown := fun i hc => railDown_of_cause (i := i) (c := .permit) (ht.law .rails rfl hlaws) hc
  have hrun := permitHeld_run (expired e s)
  have hzone := permitHeld_zone (expired e s)
  have hlive := fun i => permitHeld_live (s := expired e s) (i := i) hlaws
  have hinh := permitRails_inhibit (expired e s)
  have htherm := permitHeaters_therm (expired e s)
  have hafter := permitHeld_after (expired e s)
  have hheat := permitHeaters_touches (expired e s)
  have hnote := (permitHeaters_all (expired e s)).urgent
  have hstore : (permitLost (expired e s)).store = s.store := by
    rw [show (permitLost (expired e s)).store = (permitHeld (expired e s)).store by rw [hlost],
      hafter.store, (permitHeaters_all (expired e s)).store]
    rfl
  clear hlost
  generalize permitLost (expired e s) = t at *
  generalize permitHeaters (expired e s) = w at *
  generalize permitRails (expired e s) = u at *
  generalize permitHeld (expired e s) = v at *
  have hurgent : t.notices.urgent =
      (urgentAfter ⟨.board, s.run.clock, .runState .held ⟨s.run.holds.host, true⟩⟩ s.notices).urgent := by
    rw [hln, hrun]
    exact RunEnds.urgentAfter_congr _ (hafter.urgent.1.trans hnote.1)
  have hset : ∀ i, (t.sock i).rail.inhibit = if (s.sock i).life = .stressing then
      (s.sock i).rail.inhibit.put .permit true else (s.sock i).rail.inhibit := fun i => by
    rw [hls i, hafter.inhibit i, hheat.inhibit i, hinh i]; rfl
  have htherm' : ∀ i, (t.sock i).therm = if (s.sock i).life = .stressing ∧ (s.sock i).therm.state.control = true then
      { (s.sock i).therm.cut with state := .held } else (s.sock i).therm := fun i => by
    rw [hls i, hafter.therm i, htherm i]; rfl
  refine ⟨t, hexec, hlr.trans hrun, ht.now, hurgent, fun i => ⟨ht.life i, ht.bin i, ht.acct i, fun hs => (hinv hs).1 i rfl,
    fun hl => ⟨(hset i).trans (if_pos hl), hdown i ?_, ht.trips i, ?_, fun hon => ?_⟩, fun hl => ⟨(hset i).trans (if_neg hl),
      (htherm' i).trans (if_neg fun hc => hl hc.1)⟩⟩, fun hs => (hinv hs).2,
    fun z => ?_, hstore, ht.link, ht.straps, ht.draws, ht.pending⟩
  · rw [hset i, if_pos hl]; rfl
  · rw [htherm' i]
    refine if_congr ?_ rfl rfl
    rw [and_iff_right hl]
    cases (s.sock i).therm.state <;> simp [ThermalState.control]
  · rw [hls i]; exact hlive i hl hon
  · rw [hlz z, hzone z]
    show (if s.run.state = .active then (Sequencing.heldZone (s.idleWord z) (s.zone z)).seq else (s.zone z).seq) = _
    unfold Sequencing.heldZone
    split
    · cases (s.zone z).seq.state <;> rfl
    · rfl

end Sys2Proof.Proofs.Permit

/-! RUN-RESUME (R15, R58, R116, R147). -/

namespace Sys2Proof.Proofs.Resume

open Sys2Proof.Machine Sys2Proof.Safety Sys2Proof.Proofs.PatternStore Sys2Proof.Proofs.Requests Sys2Proof.Proofs.Frames
  Sys2Proof.Proofs.Sequencing

/-! ## The heartbeats at the resume (R147) -/

/-- A socket record at the resume: a paused monitor begins the cycle it owes, or a first window. -/
def resumedSock (part : Option HbPart) (now reset : Nat) (k : Socket) : Socket :=
  if k.live.state = .paused then
    if k.live.owed then { k with
      live := { k.live with state := .resetHeld, timer := some (now + reset), owed := false }
      pass := { k.pass with checked := false } }
    else { k with live := waited part now k.live }
  else k

theorem resumedSock_rest (part : Option HbPart) (now reset : Nat) (k : Socket) : resumedSock part now reset k =
    { k with live := (resumedSock part now reset k).live, pass := (resumedSock part now reset k).pass } := by
  unfold resumedSock
  split_ifs <;> rfl

theorem resumedSock_live {part : Option HbPart} {now reset : Nat} {k : Socket} {l : Liveness} (hl : k.live = l) :
    (l.state ≠ .paused → (resumedSock part now reset k).live = l) ∧
    (l.state = .paused → l.owed = true → (resumedSock part now reset k).live =
        { l with state := .resetHeld, timer := some (now + reset), owed := false } ∧
      (resumedSock part now reset k).pass.checked = false) ∧
    (l.state = .paused → l.owed = false → (resumedSock part now reset k).live = waited part now l) := by
  subst hl
  unfold resumedSock
  refine ⟨fun h => by rw [if_neg h], fun h ho => ?_, fun h ho => ?_⟩
  · rw [if_pos h, if_pos ho]
    exact ⟨rfl, rfl⟩
  · rw [if_pos h, if_neg (by simp [ho])]

theorem hbResume_eq (i : SocketId) (s : State) :
    hbResume i s = modSock i (resumedSock (s.hbPart (zoneOf i)) s.nowMs (s.tReset (zoneOf i))) s := by
  unfold hbResume
  split
  · rename_i hp
    split
    · rename_i ho
      have he : powerUpCycle i s = modSock i (fun k => { k with
          live := { k.live with state := .resetHeld, timer := some (s.nowMs + s.tReset (zoneOf i)), owed := false }
          pass := { k.pass with checked := false } }) s := by
        unfold powerUpCycle enterResetHeld startHb setOwed dropPass modPass
        rw [modLive_modLive, modLive, modSock_modSock]
        rfl
      rw [he]
      refine modSock_congr ?_
      unfold resumedSock
      rw [if_pos hp, if_pos ho]
    · rename_i ho
      rw [waitOrIdle_eq]
      refine modSock_congr ?_
      unfold resumedSock
      rw [if_pos hp, if_neg ho]
  · rename_i hp
    refine (modSock_id ?_).symm
    unfold resumedSock
    rw [if_neg hp]

/-! ## The zones at the resume (R116) -/

/-- A zone after the resume was told to it: one that was HELD primes under its program, or is STATIC without one. -/
def ZoneResumed (w : State) (z : ZoneId) (q : Seq) : Prop :=
  ((w.zone z).seq.state ≠ .held → q = (w.zone z).seq) ∧
  ((w.zone z).seq.state = .held → q.assigned = (w.zone z).seq.assigned ∧ q.passNo = (w.zone z).seq.passNo ∧
    q.state = if (w.assignedSlot z).isSome then .priming else .static)

section
variable {z : ZoneId} {s w : State}

theorem zoneResume_sockets (h : (s.zone z).seq.state = .held → (s.zone z).seq.bufA = .empty ∧ (s.zone z).seq.bufB = .empty) :
    (zoneResume z s).sockets = s.sockets ∧ ZoneResumed s z ((zoneResume z s).zone z).seq := by
  unfold zoneResume
  split
  · rename_i hh
    cases ha : s.assignedSlot z with
    | some k =>
      have hp := enterPriming_placed (h hh).1 (h hh).2
      exact ⟨hp.sockets, fun hn => absurd hh hn, fun _ => ⟨hp.assigned, hp.passNo, by rw [hp.state, ha]; rfl⟩⟩
    | none =>
      have hp := enterStatic_placed z s
      exact ⟨hp.sockets, fun hn => absurd hh hn, fun _ => ⟨hp.assigned, hp.passNo, by rw [hp.state, ha]; rfl⟩⟩
  · rename_i hh
    exact ⟨rfl, fun _ => rfl, fun hc => absurd hc hh⟩

theorem zonesResume_sockets
    (h : ∀ z, (w.zone z).seq.state = .held → (w.zone z).seq.bufA = .empty ∧ (w.zone z).seq.bufB = .empty)
    (l : List ZoneId) (hl : l.Nodup) : (forEach l zoneResume w).sockets = w.sockets ∧
      (∀ z, z ∉ l → (forEach l zoneResume w).zone z = w.zone z) ∧
      ∀ z ∈ l, ZoneResumed w z ((forEach l zoneResume w).zone z).seq := by
  induction l using List.reverseRecOn with
  | nil => exact ⟨rfl, fun _ _ => rfl, fun _ hz => absurd hz (List.not_mem_nil)⟩
  | append_singleton l a ih =>
    obtain ⟨h1, -, h3⟩ := List.nodup_append.mp hl
    have ha : a ∉ l := fun ha => h3 a ha a (List.mem_singleton.mpr rfl) rfl
    obtain ⟨i1, i2, i3⟩ := ih h1
    rw [forEach_append]
    show (zoneResume a (forEach l zoneResume w)).sockets = _ ∧
      (∀ z, z ∉ l ++ [a] → (zoneResume a (forEach l zoneResume w)).zone z = _) ∧
      ∀ z ∈ l ++ [a], ZoneResumed w z ((zoneResume a (forEach l zoneResume w)).zone z).seq
    generalize forEach l zoneResume w = u at *
    have hua := i2 a ha
    have hwork := ZoneWork.zoneResume a u
    obtain ⟨g1, g2⟩ := zoneResume_sockets (z := a) (s := u) (by rw [hua]; exact h a)
    have hslot : u.assignedSlot a = w.assignedSlot a := by unfold State.assignedSlot; rw [hua]
    unfold ZoneResumed at g2
    rw [hua, hslot] at g2
    refine ⟨g1.trans i1, fun z hz => ?_, fun z hz => ?_⟩
    · obtain ⟨hz1, hz2⟩ := (by simpa [not_or] using hz : z ∉ l ∧ z ≠ a)
      rw [hwork.other z hz2, i2 z hz1]
    · by_cases hza : z = a
      · subst hza; exact g2
      · rw [hwork.other z hza]
        exact i3 z (by simpa [hza] using hz)

/-! ## The rails and heaters at the resume (R15, R58) -/

/-- PERMIT leaves the sets without a rail opening. -/
theorem freedRails_quietly (x : RunState) (h : Holds) (s : State) : Touches quietRail (heldAs x h s) (freedRails x h s) :=
  (forEach_touches (l := quietRail) (fun _ _ _ => changeInhibitNoGrant_quietly (.inl (put_false_adds .permit _))) _).trans
    ((forEach_touches (l := [.railState, .timers, .queue]) (fun z _ t => grantSlots_touches z t) _).mono)

theorem freedHeaters_all (x : RunState) (h : Holds) (s : State) :
    Touches (.therm :: .law .hold :: quietRail) (heldAs x h s) (freedHeaters x h s) :=
  (freedRails_quietly x h s).comp (freedHeaters_touches x h s)

theorem freedHeaters_inhibit (x : RunState) (h : Holds) (s : State) (i : SocketId) :
    ((freedHeaters x h s).sock i).rail.inhibit = (s.sock i).rail.inhibit.put .permit false := by
  rw [(freedHeaters_touches x h s).inhibit i]
  unfold freedRails
  rw [changeInhibits_inhibit _ _ _ allSockets_nodup, if_pos (mem_allSockets i)]
  rfl

/-- The heater loops after the resume: a HELD one approaches from its last reading (R58). -/
theorem freedHeaters_therm (x : RunState) (h : Holds) (s : State) (i : SocketId) :
    ((freedHeaters x h s).sock i).therm = if (s.sock i).therm.state = .held then
      { (s.sock i).therm with
        state := .approach, teff := approachTeff (s.zone (zoneOf i)).thermProf (s.sock i).therm }
    else (s.sock i).therm := by
  have hr := freedRails_quietly x h s
  unfold freedHeaters
  rw [forEach_own (g := fun t j => (t.sock j).therm) (f := thermResume) (P := fun _ => True) (fun _ _ _ => trivial)
    (fun i t j hj => by rw [thermResume_therm, if_neg fun g => hj g.1]) (fun i a t _ hia => by
      have hz := (thermResume_touches a t).thermProf (zoneOf i)
      have ht : ((thermResume a t).sock i).therm = (t.sock i).therm := by
        rw [thermResume_therm, if_neg fun g => hia g.1]
      simp only [thermResume_therm i i, hz, ht]) _ allSockets_nodup _ trivial, if_pos (mem_allSockets i), thermResume_therm,
    hr.therm i, hr.thermProf]
  simp only [true_and]
  rfl

/-- The rails and heaters once no cause holds the run. -/
def runFreed (s : State) : State :=
  if s.run.holds.permit then freedHeaters .active ⟨false, false⟩ s else heldAs .active ⟨false, false⟩ s

theorem resumeRun_freed (h : s.run.holds.permit = false ∨ s.run.permitValid = true) : resumeRun s =
    if s.run.holds.host = true ∨ s.run.holds.permit = true then runStateNotice false (resumeBlocks (runFreed s))
    else resumeBlocks (runFreed s) := by
  have hres : s.run.resumed = ⟨false, false⟩ := by
    unfold Run.resumed
    rcases h with h | h <;> simp [h]
  have hstate : resumedState s = .active := by unfold resumedState; rw [hres]; rfl
  have hfreed : resumedHeaters s = runFreed s := by
    unfold resumedHeaters runFreed
    rw [hres, hstate]
    cases s.run.holds.permit <;> rfl
  rw [resumeRun_eq, hres, hfreed]
  generalize resumeBlocks (runFreed s) = u
  rw [if_pos (show (!(⟨false, false⟩ : Holds).permit) = true from rfl)]
  by_cases hh : s.run.holds = ⟨false, false⟩
  · rw [if_pos hh, if_neg (by rw [hh]; decide)]
  · rw [if_neg hh, if_pos (by
      by_contra hc
      obtain ⟨h1, h2⟩ := not_or.mp hc
      exact hh (by cases hs : s.run.holds; simp_all))]

theorem runFreed_touches (s : State) : Touches (.therm :: .law .hold :: quietRail) (heldAs .active ⟨false, false⟩ s)
    (runFreed s) := by
  unfold runFreed
  split
  · exact freedHeaters_all .active ⟨false, false⟩ s
  · exact Touches.refl _ _

theorem runFreed_sock (s : State) (i : SocketId) : ((runFreed s).sock i).therm =
      (if s.run.holds.permit = true ∧ (s.sock i).therm.state = .held then
        { (s.sock i).therm with
          state := .approach, teff := approachTeff (s.zone (zoneOf i)).thermProf (s.sock i).therm }
      else (s.sock i).therm) ∧
    ((runFreed s).sock i).rail.inhibit = (if s.run.holds.permit then { (s.sock i).rail.inhibit with permit := false }
      else (s.sock i).rail.inhibit) ∧
    (s.run.holds.permit = false → ((runFreed s).sock i).rail = (s.sock i).rail) := by
  by_cases hp : s.run.holds.permit = true
  · have he : runFreed s = freedHeaters .active ⟨false, false⟩ s := if_pos hp
    rw [he, freedHeaters_therm, freedHeaters_inhibit, if_pos hp]
    exact ⟨if_congr (and_iff_right hp).symm rfl rfl, rfl, fun hn => absurd (hp.symm.trans hn) (by decide)⟩
  · have he : runFreed s = heldAs .active ⟨false, false⟩ s := if_neg hp
    rw [he, if_neg fun hc => hp hc.1, if_neg hp]
    exact ⟨rfl, rfl, fun _ => rfl⟩

/-- The sockets and zones once the run goes on. -/
theorem resumeBlocks_eq
    (h : ∀ z, (w.zone z).seq.state = .held → (w.zone z).seq.bufA = .empty ∧ (w.zone z).seq.bufB = .empty) :
    (∀ i, (resumeBlocks w).sock i = resumedSock (w.hbPart (zoneOf i)) w.nowMs (w.tReset (zoneOf i)) (w.sock i)) ∧
    ∀ z, ZoneResumed w z ((resumeBlocks w).zone z).seq := by
  obtain ⟨h1, -, h3⟩ := zonesResume_sockets h allZones allZones_nodup
  have ht : Touches passWork w (forEach allZones zoneResume w) := forEach_touches (fun z _ t => zoneResume_touches z t) w
  unfold resumeBlocks
  generalize forEach allZones zoneResume w = u at *
  have hloop : forEach allSockets hbResume u = forEach allSockets (fun i => modSock i
      (resumedSock (u.hbPart (zoneOf i)) u.nowMs (u.tReset (zoneOf i)))) u :=
    forEach_sock_of (F := fun s i => resumedSock (s.hbPart (zoneOf i)) s.nowMs (s.tReset (zoneOf i)))
      hbResume_eq (fun _ _ _ => rfl) _ _
  refine ⟨fun i => ?_, fun z => ?_⟩
  · have hassigned : (u.zone (zoneOf i)).seq.assigned = (w.zone (zoneOf i)).seq.assigned := by
      obtain ⟨hn, hh⟩ := h3 (zoneOf i) (mem_allZones _)
      by_cases hc : (w.zone (zoneOf i)).seq.state = .held
      · exact (hh hc).1
      · rw [hn hc]
    have hpart : u.hbPart (zoneOf i) = w.hbPart (zoneOf i) := (program_congr hassigned ht.programs).2
    have hreset : u.tReset (zoneOf i) = w.tReset (zoneOf i) := by
      unfold State.tReset
      rw [hpart]
    have hnow : u.nowMs = w.nowMs := by
      unfold State.nowMs
      rw [ht.now]
    have hsock : u.sock i = w.sock i := by
      unfold State.sock
      rw [h1]
    rw [hloop, forEach_modSock (fun i => resumedSock (u.hbPart (zoneOf i)) u.nowMs (u.tReset (zoneOf i))) _ _
      allSockets_nodup, if_pos (mem_allSockets i), hpart, hreset, hnow, hsock]
  · have hafter : Touches [.live, .checked] u (forEach allSockets hbResume u) :=
      forEach_touches (fun i _ t => hbResume_touches i t) u
    rw [hafter.seq z]
    exact h3 z (mem_allZones z)

end

/-! ## RUN-RESUME -/

theorem opRunResume_held {s : State} (h : s.run.state = .held) :
    opRunResume [] s = (resumeRun s, ⟨if s.run.resumed.permit then .permitAbsent else .ok, []⟩) := by
  unfold opRunResume
  rw [fixedLen_of_length (n := 0) (p := []) rfl]
  exact if_pos h

/-- RUN-RESUME under a PERMIT that stands takes HOST alone (R15). -/
theorem resumeRun_stands {s : State} (hst : s.run.state = .held) (hp : s.run.holds.permit = true)
    (hv : s.run.permitValid = false) : resumeRun s = { s with
      run := { s.run with holds := ⟨false, true⟩ }
      notices := if s.run.holds.host then routineAfter ⟨.board, s.run.clock, .runState .held ⟨false, true⟩⟩ s.notices
        else s.notices } := by
  have hres : s.run.resumed = ⟨false, true⟩ := by
    unfold Run.resumed
    rw [hp, hv]
    rfl
  have hheat : resumedHeaters s = { s with run := { s.run with holds := ⟨false, true⟩ } } := by
    unfold resumedHeaters resumedState
    rw [hres, hp]
    show heldAs .held ⟨false, true⟩ s = _
    unfold heldAs modRun
    rw [← hst]
  rw [resumeRun_eq, hres, hheat, if_neg (show ¬ (!(⟨false, true⟩ : Holds).permit) = true from by decide),
    Reports.runStateNotice_routine_eq]
  by_cases hh : s.run.holds.host = true
  · rw [if_neg (by rintro hc; rw [hc] at hh; cases hh), if_pos hh]
    simp only [hst]
  · rw [if_pos (by cases hs : s.run.holds; simp_all), if_neg hh]

theorem approachTeff_eq (p : Option ThermalProfile) (k : Thermal) : approachTeff p k = match k.reading, p with
    | some x, _ => x
    | none, some p => clampInt 250 1800 (p.setpoint + k.trim)
    | none, none => k.teff := by
  unfold approachTeff
  cases k.reading with
  | some x => rfl
  | none => cases p <;> rfl

/-- Settles O33, by whether PERMIT stands; the rails follow their sets as after any command. -/
theorem runResumeResumesTheRun : Obligations.RunResumeResumesTheRun := by
  unfold Obligations.RunResumeResumesTheRun
  intro f s htaken hp hst
  have hop := (congrArg (opRunResume · (received s)) hp).trans (opRunResume_held (s := received s) hst)
  refine ⟨fun hperm hvalid => ?_, fun hfree hbufs => ?_⟩
  · have hres : (received s).run.resumed.permit = true := by
      show (s.run.holds.permit && !s.run.permitValid) = true
      rw [hperm, hvalid]; rfl
    rw [resumeRun_stands (s := received s) hst hperm hvalid, if_pos hres] at hop
    exact execFrame_taken htaken (by decide) hop rfl
  · have hres : ¬ (received s).run.resumed.permit = true := by
      show ¬ (s.run.holds.permit && !s.run.permitValid) = true
      rcases hfree with h | h <;> simp [h]
    rw [if_neg hres] at hop
    have ht := resumeRun_touches (s := received s) hst
    have heq := resumeRun_freed (s := received s) hfree
    have hfreed := runFreed_touches (received s)
    have hsock := runFreed_sock (received s)
    have hblocks := resumeBlocks_touches (runFreed (received s))
    obtain ⟨hsocks, hzones⟩ := resumeBlocks_eq (w := runFreed (received s)) (by
      intro z
      rw [hfreed.seq z]
      exact hbufs z)
    have hinv := fun hs => RailsFollow.railsFollowTheirSets (.runResume f) s _ rfl hs
      (execFrame_taken htaken (by decide) hop ht.link)
    have hexec := execFrame_taken htaken (by decide) hop ht.link
    have hfrun : (runFreed (received s)).run = { s.run with state := .active, holds := ⟨false, false⟩ } := hfreed.run
    have hfnotices : (runFreed (received s)).notices = s.notices := hfreed.notices
    have hrun : (resumeRun (received s)).run = { s.run with state := .active, holds := ⟨false, false⟩ } ∧
        (resumeRun (received s)).notices = if s.run.holds.host = true ∨ s.run.holds.permit = true then
          routineAfter ⟨.board, s.run.clock, .runState .active ⟨false, false⟩⟩ s.notices else s.notices := by
      generalize resumeBlocks (runFreed (received s)) = u at hblocks heq
      have h := hblocks.run.trans hfrun
      have hn := hblocks.notices.trans hfnotices
      by_cases hc : s.run.holds.host = true ∨ s.run.holds.permit = true
      · rw [heq.trans (if_pos hc), Reports.runStateNotice_routine_eq, if_pos hc, h, hn]
        exact ⟨rfl, rfl⟩
      · rw [heq.trans (if_neg hc), if_neg hc]
        exact ⟨h, hn⟩
    obtain ⟨hrun, hnotices⟩ := hrun
    have hat : (∀ i, (resumeRun (received s)).sock i = (resumeBlocks (runFreed (received s))).sock i) ∧
        ∀ z, (resumeRun (received s)).zone z = (resumeBlocks (runFreed (received s))).zone z := by
      rw [heq]
      generalize resumeBlocks (runFreed (received s)) = u
      split
      · exact ⟨fun _ => rfl, fun _ => rfl⟩
      · exact ⟨fun _ => rfl, fun _ => rfl⟩
    clear heq hop
    generalize resumeRun (received s) = t at *
    generalize resumeBlocks (runFreed (received s)) = u at *
    have hpart : ∀ z, (runFreed (received s)).hbPart z = s.hbPart z := fun z =>
      (program_congr (congrArg (·.assigned) (hfreed.seq z)) hfreed.programs).2
    have hreset : ∀ z, (runFreed (received s)).tReset z = s.tReset z := fun z => by
      unfold State.tReset
      rw [hpart]
    have hnow : (runFreed (received s)).nowMs = s.nowMs := by
      unfold State.nowMs
      rw [hfreed.now]
      rfl
    generalize runFreed (received s) = w at *
    refine ⟨_, hexec, hrun, rfl, hnotices, fun i => ?_, fun z => ?_, ht.mem, ht.pages, ht.programs, ht.staging, ht.straps,
      ht.now, ht.draws, ht.pending⟩
    · have hlive := resumedSock_live (part := s.hbPart (zoneOf i)) (now := s.nowMs) (reset := s.tReset (zoneOf i))
        (k := w.sock i) (l := (s.sock i).live) (hfreed.live i)
      have hrest := resumedSock_rest (s.hbPart (zoneOf i)) s.nowMs (s.tReset (zoneOf i)) (w.sock i)
      obtain ⟨htherm, hinh, hrail⟩ := hsock i
      have hu : t.sock i = resumedSock (s.hbPart (zoneOf i)) s.nowMs (s.tReset (zoneOf i)) (w.sock i) := by
        rw [hat.1 i, hsocks i, hpart, hreset, hnow]
      rw [← hu] at hlive hrest
      have htw : (t.sock i).therm = (w.sock i).therm := by rw [hrest]
      have hrw : (t.sock i).rail = (w.sock i).rail := by rw [hrest]
      obtain ⟨h1, h2, h3⟩ := hlive
      refine ⟨ht.life i, ht.bin i, ht.acct i, ?_, ?_, fun hn => hrw.trans (hrail hn), fun hs => (hinv hs).1 i rfl, h1, h2,
        fun hp ho => (h3 hp ho).trans ?_⟩
      · refine (htw.trans htherm).trans ?_
        rw [approachTeff_eq]
        rfl
      · exact (congrArg (·.inhibit) hrw).trans hinh
      · unfold waited
        cases s.hbPart (zoneOf i) <;> rfl
    · refine ⟨fun hs => (hinv hs).2 z, ?_⟩
      have hz := hzones z
      have hslot : w.assignedSlot z = s.assignedSlot z := by
        unfold State.assignedSlot
        rw [hfreed.seq z]
        rfl
      unfold ZoneResumed at hz
      rw [hfreed.seq z, hslot, ← hat.2 z] at hz
      exact hz

end Sys2Proof.Proofs.Resume

/-! RUN-START (R10, R11, R55): the records of the sockets found hot or with a dead sensor, one after the other. -/

namespace Sys2Proof.Proofs.Starts

open Sys2Proof.Machine Sys2Proof.Safety Sys2Proof.Proofs.PatternStore Sys2Proof.Proofs.Requests Sys2Proof.Proofs.Frames
  Sys2Proof.Proofs.RunEnds

/-! ## One record of the start -/

/-- The socket is hot with no THERMAL standing: RUN-START sends its THERMAL-TRIP record (R55). -/
abbrev TripsNow (s : State) (i : SocketId) : Prop := s.hot i = true ∧ (s.sock i).rail.inhibit.thermal = false

/-- That record retires the socket (R156). -/
abbrev RetiresNow (s : State) (i : SocketId) : Prop :=
  TripsNow s i ∧ (s.disposition .thermalTrip = .retire ∨ nextIsLast s i = true)

/-- The THERMAL-TRIP record of the start. -/
def tripRec (s : State) (i : SocketId) : FailRec :=
  { recordOf s i .thermalTrip (s.passStamp (zoneOf i)) (s.disposition .thermalTrip)
      (.reading ((s.sock i).therm.reading.getD 0)) with clock := 0 }

/-- The SENSOR-FAULT record of the start. -/
def deadRec (s : State) (i : SocketId) : FailRec :=
  { recordOf s i .sensorFault (s.passStamp (zoneOf i)) .count (.lastReading (s.sock i).therm.faultReading) with clock := 0 }

/-- The accounts of a declared socket after the start. -/
def acctStarted (s : State) (i : SocketId) : Accounts :=
  if RetiresNow s i then { counted (s.sock i).acct (tripRec s i) with
    deciding := some ⟨.thermalTrip, min 6 ((s.sock i).acct.log.length + 1)⟩, byHost := false }
  else if TripsNow s i then counted (s.sock i).acct (tripRec s i)
  else if s.startDead i = true then (s.sock i).acct.record (deadRec s i)
  else (s.sock i).acct

/-- The lanes after what a declared socket tells at the start. -/
def startTold (s : State) (q : NoticeQueue) (i : SocketId) : NoticeQueue :=
  let note := fun k => urgentAfter ⟨.socket i, 0, .fail k (min 6 ((s.sock i).acct.log.length + 1))⟩ q
  if RetiresNow s i then urgentAfter ⟨.socket i, 0, .retired (some .thermalTrip)⟩ (note .thermalTrip)
  else if TripsNow s i then note .thermalTrip
  else if s.startDead i = true then note .sensorFault
  else q

/-- The urgent lane reads the same. -/
def SameUrgent (q q' : NoticeQueue) : Prop := q'.urgent = q.urgent ∧ q'.urgentOver = q.urgentOver

theorem sameUrgent_after {q q' : NoticeQueue} (h : SameUrgent q q') (n : Notice) :
    SameUrgent (urgentAfter n q) (urgentAfter n q') := by
  unfold urgentAfter SameUrgent
  rw [h.1]
  split
  · exact ⟨rfl, h.2⟩
  · exact ⟨rfl, rfl⟩

theorem sameUrgent_of_touches {l : List Piece} {s t : State} (h : Touches l s t)
    (hu : Piece.urgent.isIn l = false := by rfl) : SameUrgent s.notices t.notices := h.urgent hu

theorem SameUrgent.trans {a b c : NoticeQueue} (h : SameUrgent a b) (g : SameUrgent b c) : SameUrgent a c :=
  ⟨g.1.trans h.1, g.2.trans h.2⟩

theorem sameUrgent_routine (n : Notice) (q : NoticeQueue) : SameUrgent q (routineAfter n q) := by
  unfold routineAfter SameUrgent
  split
  · exact ⟨rfl, rfl⟩
  · exact ⟨rfl, rfl⟩

/-- The sequencer has not left IDLE but for DONE, with its program and pass number. -/
def Waits (q q' : Seq) : Prop :=
  (q'.state = .idle ∨ q'.state = .done) ∧ q'.assigned = q.assigned ∧ q'.passNo = q.passNo

/-- The sockets of `l` have sent their records after the rails were placed in `w`. -/
structure Told (s w : State) (l : List SocketId) (u : State) : Prop where
  run : u.run = w.run
  life : ∀ j, (u.sock j).life = (w.sock j).life ∨ j ∈ l ∧ RetiresNow s j
  retired : ∀ j ∈ l, RetiresNow s j → (u.sock j).life = .retired
  acct : ∀ j ∈ l, (u.sock j).acct = acctStarted s j
  apart : ∀ j, j ∉ l → (u.sock j).acct = (w.sock j).acct
  placed : ∀ j, ¬ (j ∈ l ∧ RetiresNow s j) → (u.sock j).therm = (w.sock j).therm ∧
    (u.sock j).rail.inhibit = (w.sock j).rail.inhibit
  off : ∀ j ∈ l, RetiresNow s j → (u.sock j).therm = heaterOff (w.sock j).therm ∧
    (u.sock j).rail.inhibit = warm ((w.sock j).rail.inhibit.put .final true)
  seq : ∀ z, Waits (w.zone z).seq (u.zone z).seq
  urgent : SameUrgent (l.foldl (startTold s) w.notices) u.notices

section
variable {s w u v : State} {l : List SocketId} {i : SocketId} {r : FailRec}

/-- The sequencer record of a zone that enters DONE. -/
theorem zoneDone_seq (z y : ZoneId) (s : State) : ((zoneDone z s).zone y).seq =
    if y = z then { (s.zone z).seq.emptied with
      state := .done, gapTimer := none, staged := none, drive := s.idleWord z, fetch := none } else (s.zone y).seq := by
  unfold zoneDone
  rw [(arbitrate_touches _).seq y, withdrawFetch_seq, (closePass_touches z _).seq y, modSeq_seq]
  split
  · rename_i hy
    subst hy
    rw [(closePass_touches y _).seq y, modSeq_seq_self]
  · rfl

theorem zoneTold_waits (z y : ZoneId) (s : State) (h : Waits (w.zone y).seq (s.zone y).seq) :
    Waits (w.zone y).seq ((zoneTold z s).zone y).seq := by
  unfold zoneTold
  split
  · rw [zoneDone_seq]
    split
    · rename_i hy
      subst hy
      exact ⟨.inr rfl, h.2.1, h.2.2⟩
    · exact h
  · exact h

theorem finalEffects_waits (y : ZoneId) (h : Waits (w.zone y).seq (s.zone y).seq) :
    Waits (w.zone y).seq ((finalEffects i s).zone y).seq := by
  rw [finalEffects_told]
  refine zoneTold_waits _ y _ ?_
  rw [finalBlocks_touches.seq y]
  exact h

/-- A socket that is retired by a record, the end of the run apart. -/
theorem retiredAlone_facts (d : Option Deciding) (u : State) :
    ((retiredAlone i d u).sock i).therm = heaterOff (u.sock i).therm ∧
    ((retiredAlone i d u).sock i).rail.inhibit = warm ((u.sock i).rail.inhibit.put .final true) ∧
    SameUrgent (urgentAfter ⟨.socket i, u.run.clock, .retired (d.map (·.kind))⟩ u.notices) (retiredAlone i d u).notices ∧
    ∀ y, Waits (w.zone y).seq (u.zone y).seq → Waits (w.zone y).seq ((retiredAlone i d u).zone y).seq := by
  have h0 := retiredSock_plain i d u
  have hf := finalized_touches i d u
  have hn := sendUrgent_touches (.socket i) (.retired (d.map (·.kind))) (finalEffects i (modSock i (retiredSock d) u))
  have htherm := finalEffects_therm i (modSock i (retiredSock d) u) i
  have hinh := finalEffects_inhibit i (modSock i (retiredSock d) u) i
  have hw := fun y => finalEffects_waits (w := w) (i := i) (s := modSock i (retiredSock d) u) y
  rw [if_pos rfl, h0.therm i] at htherm
  rw [if_pos rfl, h0.inhibit i] at hinh
  unfold retiredAlone
  generalize finalEffects i (modSock i (retiredSock d) u) = f at *
  refine ⟨(hn.therm i).trans htherm, (hn.inhibit i).trans hinh, ?_, fun y hy => ?_⟩
  · rw [Reports.sendUrgent_eq, hf.clock]
    exact sameUrgent_after (hf.urgent) _
  · rw [hn.seq y]
    exact hw y ((h0.seq y).symm ▸ hy)

/-! ## The records in turn -/

/-- What the records of the start read, once the rails are placed. -/
structure Stage (s w : State) : Prop where
  state : w.run.state = .active
  record : w.run.record = s.run.record
  clock : w.run.clock = 0
  acct : ∀ j, (w.sock j).acct = (s.sock j).acct
  life : ∀ j, s.declared j = true → (w.sock j).life = .stressing
  seq : ∀ z, (w.zone z).seq = (s.zone z).seq
  idle : ∀ z, (s.zone z).seq.state = .idle

theorem Told.start (hw : Stage s w) : Told s w [] w :=
  ⟨rfl, fun _ => .inl rfl, by simp, by simp, fun _ _ => rfl, fun _ _ => ⟨rfl, rfl⟩, by simp,
    fun z => ⟨.inl (by rw [hw.seq z]; exact hw.idle z), rfl, rfl⟩, ⟨rfl, rfl⟩⟩

section
variable (hw : Stage s w) (h : Told s w l u) (hi : i ∉ l) (hd : s.declared i = true)
include hw h hi hd

theorem Told.taking : taking u i = true := by
  refine taking_iff.mpr ⟨.inl (by rw [h.run]; exact hw.state), ?_⟩
  rw [(h.life i).resolve_right fun hc => hi hc.1]
  exact hw.life i hd

omit hi hd in
theorem Told.passStamp (z : ZoneId) : u.passStamp z = s.passStamp z := by
  obtain ⟨h1, h2, h3⟩ := h.seq z
  rw [hw.seq z] at h2 h3
  have hu : ¬ (u.zone z).seq.state = .static := by rcases h1 with h1 | h1 <;> rw [h1] <;> decide
  have hs : ¬ (s.zone z).seq.state = .static := by rw [hw.idle z]; decide
  unfold State.passStamp
  simp only [hu, hs, h2, h3, false_or]

omit hd in
theorem Told.recordOf (k : FailKind) (x : Disp) (d : Detail) : recordOf u i k (u.passStamp (zoneOf i)) x d =
    { recordOf s i k (s.passStamp (zoneOf i)) x d with clock := 0 } := by
  unfold Safety.recordOf
  rw [h.run, hw.clock, h.apart i hi, hw.acct i, h.passStamp hw]

omit hd hi in
theorem Told.disposition (k : FailKind) : u.disposition k = s.disposition k := by
  unfold State.disposition
  rw [h.run, hw.record]

omit hd hi in
theorem Told.dispTaken : u.dispTaken .thermalTrip = s.disposition .thermalTrip := h.disposition hw .thermalTrip

omit hd in
theorem Told.nextIsLast : nextIsLast u i = nextIsLast s i := by
  unfold Safety.nextIsLast
  rw [h.run, hw.record, h.apart i hi, hw.acct i]

omit hd in
theorem Told.log : (u.sock i).acct.log = (s.sock i).acct.log := by rw [h.apart i hi, hw.acct i]

theorem Told.lastRecord : lastRecord u i .thermalTrip = true ↔
    s.disposition .thermalTrip = .retire ∨ Safety.nextIsLast s i = true := by
  unfold Frames.lastRecord
  rw [h.taking hw hi hd, h.nextIsLast hw hi, h.dispTaken hw]
  simp

/-- What the socket's turn does, the run finish test apart. -/
theorem Told.turn_retires (hr : RetiresNow s i) : startRecord s i u = finishTest (retiredAlone i
    (some ⟨.thermalTrip, min 6 ((s.sock i).acct.log.length + 1)⟩) (recorded i (tripRec s i) u)) := by
  obtain ⟨⟨hhot, hth⟩, hlast⟩ := hr
  have h1 : startRecord s i u = failRecord i .thermalTrip (.reading ((s.sock i).therm.reading.getD 0)) u :=
    if_pos (by rw [hhot, hth]; rfl)
  rw [h1, failRecord_last (by decide) ((h.lastRecord hw hi hd).mpr hlast), h.log hw hi]
  unfold recordNow
  rw [h.recordOf hw hi, h.dispTaken hw]
  exact retire_alone _ _ _

theorem Told.turn_trips (ht : TripsNow s i) (hr : ¬ RetiresNow s i) : startRecord s i u = recorded i (tripRec s i) u := by
  obtain ⟨hhot, hth⟩ := ht
  have h1 : startRecord s i u = failRecord i .thermalTrip (.reading ((s.sock i).therm.reading.getD 0)) u :=
    if_pos (by rw [hhot, hth]; rfl)
  have hlast : Frames.lastRecord u i .thermalTrip = false := by
    rw [Bool.eq_false_iff]
    exact fun hc => hr ⟨⟨hhot, hth⟩, (h.lastRecord hw hi hd).mp hc⟩
  rw [h1, failRecord_taken (by decide) hlast (h.taking hw hi hd)]
  unfold recordNow
  rw [h.recordOf hw hi, h.dispTaken hw]
  rfl

theorem Told.turn_dead (ht : ¬ TripsNow s i) (hdead : s.startDead i = true) :
    startRecord s i u = recorded i (deadRec s i) u := by
  have h1 : startRecord s i u = failRecord i .sensorFault (.lastReading (s.sock i).therm.faultReading) u :=
    (if_neg (by simpa using ht)).trans (if_pos hdead)
  rw [h1, Readings.failRecord_board, if_pos (h.taking hw hi hd), h.recordOf hw hi]
  rfl

omit hw h hi hd in
theorem turn_none (ht : ¬ TripsNow s i) (hdead : ¬ s.startDead i = true) : startRecord s i u = u :=
  (if_neg (by simpa using ht)).trans (if_neg hdead)

omit hd hi in
/-- A socket that sends no record. -/
theorem Told.silent (ht : ¬ TripsNow s i) (hdead : ¬ s.startDead i = true) (hi : i ∉ l) : Told s w (l ++ [i]) u := by
  have hr : ¬ RetiresNow s i := fun hc => ht hc.1
  have hmem : ∀ j, j ∈ l ++ [i] → RetiresNow s j → j ∈ l := fun j hj hjr =>
    (mem_snoc.mp hj).resolve_right (by rintro rfl; exact hr hjr)
  refine ⟨h.run, fun j => (h.life j).imp id fun hc => ⟨mem_snoc.mpr (.inl hc.1), hc.2⟩,
    fun j hj hjr => h.retired j (hmem j hj hjr) hjr, fun j hj => ?_, fun j hj => h.apart j fun hc => hj (mem_snoc.mpr (.inl hc)),
    fun j hj => h.placed j fun hc => hj ⟨mem_snoc.mpr (.inl hc.1), hc.2⟩, fun j hj hjr => h.off j (hmem j hj hjr) hjr, h.seq, ?_⟩
  · obtain hj | rfl := mem_snoc.mp hj
    · exact h.acct j hj
    · rw [h.apart j hi, hw.acct j]
      unfold acctStarted
      rw [if_neg hr, if_neg ht, if_neg hdead]
  · rw [List.foldl_append]
    show SameUrgent (startTold s _ i) _
    unfold startTold
    simp only [if_neg hr, if_neg ht, if_neg hdead]
    exact h.urgent

omit hd in
/-- A socket that sends a record and stays under stress. -/
theorem Told.records {r : FailRec} (hr : ¬ RetiresNow s i) (hacct : (s.sock i).acct.record r = acctStarted s i)
    (htold : ∀ q, startTold s q i =
      urgentAfter ⟨.socket i, 0, .fail r.kind (min 6 ((s.sock i).acct.log.length + 1))⟩ q) :
    Told s w (l ++ [i]) (recorded i r u) := by
  have ht := recorded_touches i r u
  have hmem : ∀ j, j ∈ l ++ [i] → RetiresNow s j → j ∈ l := fun j hj hjr =>
    (mem_snoc.mp hj).resolve_right (by rintro rfl; exact hr hjr)
  refine ⟨ht.run.trans h.run, fun j => ?_, fun j hj hjr => (ht.life j).trans (h.retired j (hmem j hj hjr) hjr),
    fun j hj => ?_, fun j hj => ?_, fun j hj => ?_, fun j hj hjr => ?_, fun z => ?_, ?_⟩
  · rw [ht.life j]
    exact (h.life j).imp id fun hc => ⟨mem_snoc.mpr (.inl hc.1), hc.2⟩
  · rw [recorded_acct]
    by_cases hji : j = i
    · subst hji
      rw [if_pos rfl, h.apart j hi, hw.acct j, hacct]
    · rw [if_neg hji, h.acct j ((mem_snoc.mp hj).resolve_right hji)]
  · rw [recorded_acct, if_neg fun hc => hj (mem_snoc.mpr (.inr hc)), h.apart j fun hc => hj (mem_snoc.mpr (.inl hc))]
  · rw [ht.therm j, ht.inhibit j]
    exact h.placed j fun hc => hj ⟨mem_snoc.mpr (.inl hc.1), hc.2⟩
  · rw [ht.therm j, ht.inhibit j]
    exact h.off j (hmem j hj hjr) hjr
  · rw [ht.seq z]
    exact h.seq z
  · rw [List.foldl_append]
    show SameUrgent (startTold s _ i) _
    rw [htold, recorded_eq, h.run, hw.clock, h.log hw hi]
    exact sameUrgent_after h.urgent _

/-- A socket that its record retires, the end of the run apart. -/
theorem Told.retires (hr : RetiresNow s i) : Told s w (l ++ [i]) (retiredAlone i
    (some ⟨.thermalTrip, min 6 ((s.sock i).acct.log.length + 1)⟩) (recorded i (tripRec s i) u)) := by
  have ht := recorded_touches i (tripRec s i) u
  have htouch := retiredAlone_touches i (some ⟨.thermalTrip, min 6 ((s.sock i).acct.log.length + 1)⟩)
    (recorded i (tripRec s i) u)
  have helse := retiredAlone_elsewhere (i := i) (d := some ⟨.thermalTrip, min 6 ((s.sock i).acct.log.length + 1)⟩)
    (s := recorded i (tripRec s i) u)
  have hlives := retiredAlone_lives i (some ⟨.thermalTrip, min 6 ((s.sock i).acct.log.length + 1)⟩)
    (recorded i (tripRec s i) u)
  obtain ⟨htherm, hinh, hurg, hwaits⟩ := retiredAlone_facts (w := w) (i := i)
    (some ⟨.thermalTrip, min 6 ((s.sock i).acct.log.length + 1)⟩) (recorded i (tripRec s i) u)
  have hrec := recorded_acct i (tripRec s i) u
  have hself : ((recorded i (tripRec s i) u).sock i).acct = counted (s.sock i).acct (tripRec s i) := by
    rw [hrec, if_pos rfl, record_counted (show FailKind.thermalTrip ≠ .sensorFault by decide), h.apart i hi, hw.acct i]
  have hnote : (recorded i (tripRec s i) u).notices =
      urgentAfter ⟨.socket i, 0, .fail .thermalTrip (min 6 ((s.sock i).acct.log.length + 1))⟩ u.notices := by
    rw [recorded_eq, h.run, hw.clock, h.log hw hi]
    rfl
  have hplaced := h.placed i fun hc => hi hc.1
  have hclock : (recorded i (tripRec s i) u).run.clock = 0 := by rw [ht.clock, h.run, hw.clock]
  rw [ht.therm i, hplaced.1] at htherm
  rw [ht.inhibit i, hplaced.2] at hinh
  rw [hclock, hnote] at hurg
  have hall : ∀ j, j ≠ i → j ∈ l ++ [i] → j ∈ l := fun j hji hj => (mem_snoc.mp hj).resolve_right hji
  generalize recorded i (tripRec s i) u = v at *
  generalize retiredAlone i (some ⟨.thermalTrip, min 6 ((s.sock i).acct.log.length + 1)⟩) v = x at *
  refine ⟨(htouch.run).trans (ht.run.trans h.run), fun j => ?_, fun j hj hjr => ?_, fun j hj => ?_, fun j hj => ?_,
    fun j hj => ?_, fun j hj hjr => ?_, fun z => hwaits z (by rw [ht.seq z]; exact h.seq z), ?_⟩
  · by_cases hji : j = i
    · subst hji; exact .inr ⟨mem_snoc.mpr (.inr rfl), hr⟩
    · rw [(hlives j).1, if_neg hji, ht.life j]
      exact (h.life j).imp id fun hc => ⟨mem_snoc.mpr (.inl hc.1), hc.2⟩
  · rw [(hlives j).1]
    split
    · rfl
    · rename_i hji
      rw [ht.life j]
      exact h.retired j (hall j hji hj) hjr
  · rw [(hlives j).2]
    split
    · rename_i hji
      subst hji
      rw [hself]
      unfold acctStarted
      rw [if_pos hr]
      rfl
    · rename_i hji
      rw [hrec, if_neg hji]
      exact h.acct j (hall j hji hj)
  · have hji : j ≠ i := fun hc => hj (mem_snoc.mpr (.inr hc))
    rw [(hlives j).2, if_neg hji, hrec, if_neg hji]
    exact h.apart j fun hc => hj (mem_snoc.mpr (.inl hc))
  · have hji : j ≠ i := fun hc => hj ⟨mem_snoc.mpr (.inr hc), hc ▸ hr⟩
    rw [helse.therm hji, helse.inhibit hji, ht.therm j, ht.inhibit j]
    exact h.placed j fun hc => hj ⟨mem_snoc.mpr (.inl hc.1), hc.2⟩
  · by_cases hji : j = i
    · subst hji; exact ⟨htherm, hinh⟩
    · rw [helse.therm hji, helse.inhibit hji, ht.therm j, ht.inhibit j]
      exact h.off j (hall j hji hj) hjr
  · rw [List.foldl_append]
    show SameUrgent (startTold s _ i) _
    unfold startTold
    simp only [if_pos hr]
    exact (sameUrgent_after (sameUrgent_after h.urgent _) _).trans hurg

end

/-- After the records of `l`: the run goes on in `v`, or the last of them ended it (R165). -/
def Closed (s : State) (l : List SocketId) (v x : State) : Prop :=
  (x = v ∧ (l = [] ∨ v.finishDue = false ∨ ∃ j ∈ l, ¬ RetiresNow s j)) ∨
  (x = endRun .finished v ∧ ∀ j, s.declared j = true → j ∈ l ∧ RetiresNow s j)

/-- One turn more. -/
theorem Told.turn (hw : Stage s w) (h : Told s w l u) (hi : i ∉ l) (hd : s.declared i = true) :
    ∃ v, Told s w (l ++ [i]) v ∧ Closed s (l ++ [i]) v (startRecord s i u) := by
  have hgoes : ∀ {v x : State}, x = v → ¬ RetiresNow s i → Closed s (l ++ [i]) v x := fun hx hr =>
    .inl ⟨hx, .inr (.inr ⟨i, mem_snoc.mpr (.inr rfl), hr⟩)⟩
  by_cases hr : RetiresNow s i
  · refine ⟨_, h.retires hw hi hd hr, ?_⟩
    rw [h.turn_retires hw hi hd hr]
    have hv := h.retires hw hi hd hr
    generalize retiredAlone i _ (recorded i (tripRec s i) u) = v at *
    by_cases hdue : v.finishDue = true
    · refine .inr ⟨if_pos hdue, fun j hj => ?_⟩
      refine (hv.life j).resolve_left fun hc => ?_
      have hno := ((finishDue_iff v).mp hdue).2 j
      rw [hc, hw.life j hj] at hno
      exact hno.2 rfl
    · exact .inl ⟨if_neg hdue, .inr (.inl (by simpa using hdue))⟩
  · by_cases ht : TripsNow s i
    · refine ⟨_, h.records hw hi hr (r := tripRec s i) ?_ fun q => ?_, hgoes (h.turn_trips hw hi hd ht hr) hr⟩
      · rw [record_counted (show FailKind.thermalTrip ≠ .sensorFault by decide)]
        unfold acctStarted
        rw [if_neg hr, if_pos ht]
      · unfold startTold
        simp only [if_neg hr, if_pos ht]
        rfl
    · by_cases hdead : s.startDead i = true
      · refine ⟨_, h.records hw hi hr (r := deadRec s i) ?_ fun q => ?_, hgoes (h.turn_dead hw hi hd ht hdead) hr⟩
        · unfold acctStarted
          rw [if_neg hr, if_neg ht, if_pos hdead]
        · unfold startTold
          simp only [if_neg hr, if_neg ht, if_pos hdead]
          rfl
      · exact ⟨u, h.silent hw ht hdead hi, hgoes (turn_none ht hdead) hr⟩

theorem told_loop (hw : Stage s w) (hl : l.Nodup) (hd : ∀ i ∈ l, s.declared i = true) :
    ∃ v, Told s w l v ∧ Closed s l v (forEach l (startRecord s) w) := by
  induction l using List.reverseRecOn with
  | nil => exact ⟨w, .start hw, .inl ⟨rfl, .inl rfl⟩⟩
  | append_singleton l i ih =>
    obtain ⟨h1, -, h3⟩ := List.nodup_append.mp hl
    have hi : i ∉ l := fun hi => h3 i hi i (List.mem_singleton.mpr rfl) rfl
    have hdi := hd i (mem_snoc.mpr (.inr rfl))
    obtain ⟨v, hv, ⟨hx, -⟩ | ⟨-, hall⟩⟩ := ih h1 fun j hj => hd j (mem_snoc.mpr (.inl hj))
    · rw [forEach_append, hx]
      exact hv.turn hw hi hdi
    · exact absurd (hall i hdi).1 hi

end

end Sys2Proof.Proofs.Starts

/-! RUN-START (R10, R11, R55): the rails and heaters placed, and the zones that leave IDLE. -/

namespace Sys2Proof.Proofs.Starts

open Sys2Proof.Machine Sys2Proof.Safety Sys2Proof.Proofs.PatternStore Sys2Proof.Proofs.Requests Sys2Proof.Proofs.Frames
  Sys2Proof.Proofs.RunEnds Sys2Proof.Proofs.Sequencing

/-! ## The zones (R11, R102) -/

/-- A zone that left IDLE at the start under the record `r`. -/
def ZoneStarted (r : RunRecord) (z : ZoneId) (q q' : Seq) : Prop :=
  q'.passNo = q.passNo ∧ (zoneDeclared r.declared z = false → q'.state = .done) ∧
  (zoneDeclared r.declared z = true → q'.assigned = some r.progs[z] ∧
    q'.state = (if r.progs[z] = .noProgram then .static else .priming))

section
variable {r : RunRecord} {z : ZoneId} {s w : State}

theorem zoneStart_work (r : RunRecord) (z : ZoneId) (s : State) : ZoneWork z s (zoneStart r z s) := by
  have h := ZoneWork.modSeq z (fun q => { q with assigned := some r.progs[z] }) s
  unfold zoneStart
  split
  · simp only
    split
    · split
      · exact h.trans (.enterPriming z _)
      · exact h.trans (.enterStatic z _)
    · exact h.trans (.zoneDone z _)
  · exact .refl z s

theorem zoneStart_seq (hst : s.run.state = .active) (hidle : (s.zone z).seq.state = .idle)
    (ha : (s.zone z).seq.bufA = .empty) (hb : (s.zone z).seq.bufB = .empty) :
    ZoneStarted r z (s.zone z).seq ((zoneStart r z s).zone z).seq := by
  have hq : ((modSeq z (fun q => { q with assigned := some r.progs[z] }) s).zone z).seq =
    { (s.zone z).seq with assigned := some r.progs[z] } := modSeq_seq_self z _ s
  unfold zoneStart
  rw [if_pos ⟨hst, by rw [hidle]; decide⟩]
  generalize modSeq z (fun q => { q with assigned := some r.progs[z] }) s = u at hq
  simp only
  split
  · rename_i hd
    split
    · rename_i k hk
      have hp := enterPriming_placed (z := z) (s := u) (by rw [hq]; exact ha) (by rw [hq]; exact hb)
      refine ⟨hp.passNo.trans (by rw [hq]), fun hn => absurd (hd.symm.trans hn) (by decide), fun _ =>
        ⟨hp.assigned.trans (by rw [hq]), ?_⟩⟩
      rw [hp.state, hk, if_neg (by simp)]
    · rename_i hk
      have hp := enterStatic_placed z u
      refine ⟨hp.passNo.trans (by rw [hq]), fun hn => absurd (hd.symm.trans hn) (by decide), fun _ =>
        ⟨hp.assigned.trans (by rw [hq]), ?_⟩⟩
      rw [hp.state, hk, if_pos rfl]
  · rename_i hd
    refine ⟨?_, fun _ => ?_, fun hn => absurd hn hd⟩
    · rw [zoneDone_seq, if_pos rfl]
      show (u.zone z).seq.passNo = _
      rw [hq]
    · rw [zoneDone_seq, if_pos rfl]

theorem zonesStart_seq (hst : w.run.state = .active) (h : ∀ z, (w.zone z).seq.state = .idle ∧
    (w.zone z).seq.bufA = .empty ∧ (w.zone z).seq.bufB = .empty) (l : List ZoneId) (hl : l.Nodup) :
    (forEach l (zoneStart r) w).run = w.run ∧ (∀ z, z ∉ l → (forEach l (zoneStart r) w).zone z = w.zone z) ∧
      ∀ z ∈ l, ZoneStarted r z (w.zone z).seq ((forEach l (zoneStart r) w).zone z).seq := by
  induction l using List.reverseRecOn with
  | nil => exact ⟨rfl, fun _ _ => rfl, fun _ hz => absurd hz (List.not_mem_nil)⟩
  | append_singleton l a ih =>
    obtain ⟨h1, -, h3⟩ := List.nodup_append.mp hl
    have ha : a ∉ l := fun ha => h3 a ha a (List.mem_singleton.mpr rfl) rfl
    obtain ⟨i1, i2, i3⟩ := ih h1
    rw [forEach_append]
    show (zoneStart r a (forEach l (zoneStart r) w)).run = _ ∧
      (∀ z, z ∉ l ++ [a] → (zoneStart r a (forEach l (zoneStart r) w)).zone z = _) ∧
      ∀ z ∈ l ++ [a], ZoneStarted r z _ ((zoneStart r a (forEach l (zoneStart r) w)).zone z).seq
    generalize forEach l (zoneStart r) w = u at *
    have hua := i2 a ha
    have hwork := zoneStart_work r a u
    obtain ⟨g1, g2, g3⟩ := h a
    have hs := zoneStart_seq (r := r) (z := a) (s := u) (by rw [i1]; exact hst) (by rw [hua]; exact g1)
      (by rw [hua]; exact g2) (by rw [hua]; exact g3)
    rw [hua] at hs
    refine ⟨hwork.run.trans i1, fun z hz => ?_, fun z hz => ?_⟩
    · obtain ⟨hz1, hz2⟩ := (by simpa [not_or] using hz : z ∉ l ∧ z ≠ a)
      rw [hwork.other z hz2, i2 z hz1]
    · by_cases hza : z = a
      · subst hza; exact hs
      · rw [hwork.other z hza]
        exact i3 z (by simpa [hza] using hz)

end

/-! ## The rails and heaters (R11, R55) -/

section
variable {s : State} {r : RunRecord}

/-- Changes of the sets of sockets that are down open no rail. -/
theorem changeInhibits_quietly {l : List SocketId} (f : SocketId → Inhibit → Inhibit) (hl : l.Nodup)
    (h : ∀ i ∈ l, RailDown s i) : Touches quietRail s (changeInhibits l f s) := by
  have hloop : ∀ l : List SocketId, l.Nodup → ∀ t, (∀ i ∈ l, RailDown t i) →
      Touches quietRail t (forEach l (fun i => changeInhibitNoGrant (f i) i) t) := by
    intro l
    induction l with
    | nil => intro _ t _; exact Touches.refl _ t
    | cons a l ih =>
      intro hl t ht
      obtain ⟨ha, hl⟩ := List.nodup_cons.mp hl
      rw [forEach_cons]
      refine (changeInhibitNoGrant_quietly (.inr (ht a List.mem_cons_self))).trans (ih hl _ fun i hi => ?_)
      unfold RailDown
      rw [(changeInhibitNoGrant_elsewhere a t (f a)).railState (by rintro rfl; exact ha hi)]
      exact ht i (List.mem_cons_of_mem a hi)
  exact (hloop l hl s h).trans
    ((forEach_touches (l := [.railState, .timers, .queue]) (fun z _ t => grantSlots_touches z t) _).mono)

theorem railsPlaced_runs (r : RunRecord) (s : State) : (railsPlaced r s).run =
    { s.run with state := .active, clock := 0, acctTimer := some (afterMs 1000 s) } := by
  rw [(railsPlaced_touches r s).run, (heatersPlaced_touches s).run, stressBegun_run]

theorem railsPlaced_stage (hidle : ∀ z, (s.zone z).seq.state = .idle) : Stage s (railsPlaced r s) := by
  have ht := placed_touches r s
  have hrun := railsPlaced_runs r s
  refine ⟨by rw [hrun], by rw [hrun], by rw [hrun], ht.acct, fun j hj => ?_, ht.seq, hidle⟩
  rw [(railsPlaced_touches r s).life j, (heatersPlaced_touches s).life j, stressBegun_life, hj]
  rfl

theorem heatersPlaced_notices (s : State) : (heatersPlaced s).notices =
    routineAfter ⟨.board, 0, .runState .active s.run.holds⟩ s.notices := by
  have h0 := stressBegun_touches s
  have h1 : Touches [.therm, .law .final, .law .hold, .law .trip] (runStateNotice false (stressBegun s)) (heatersPlaced s) :=
    forEach_touches (fun i _ t => thermStart_touches i t) _
  rw [h1.notices, Reports.runStateNotice_routine_eq, stressBegun_run, h0.notices]

/-! ## The start without a record -/

/-- Where no declared socket is hot or has a dead sensor, and no rail of one is up, no record is sent. -/
theorem startRecorded_silent (h : ∀ i, s.declared i = true → s.startTripped i = false ∧ (s.sock i).therm.badRun < 2) :
    startRecorded r s = railsPlaced r s := by
  refine forEach_keeps (P := fun t => t = railsPlaced r s) (fun i hi t ht => ?_) _ rfl
  obtain ⟨h1, h2⟩ := h i (List.mem_filter.mp hi).2
  have hhot : s.hot i = false := by
    unfold State.startTripped at h1
    exact (Bool.or_eq_false_iff.mp h1).2
  have hdead : ¬ s.startDead i = true := by
    unfold State.startDead
    rw [h1, Bool.not_false, Bool.true_and, decide_eq_true_iff]
    omega
  rw [turn_none (fun hc => absurd (hhot.symm.trans hc.1) (by decide)) hdead]
  exact ht

theorem startTherm_eq (i : SocketId) (hd : s.declared i = true) : ((railsPlaced r s).sock i).therm =
    startedTherm (s.startTripped i) (s.startDead i)
      (approachTeff (s.zone (zoneOf i)).thermProf (s.sock i).therm) (s.sock i).therm := by
  rw [(railsPlaced_touches r s).therm i, heatersPlaced_therm, if_pos hd]

theorem startTherm_undeclared (i : SocketId) (hd : s.declared i = false) :
    ((railsPlaced r s).sock i).therm = (s.sock i).therm := by
  rw [(railsPlaced_touches r s).therm i, heatersPlaced_therm, if_neg (by rw [hd]; decide)]

/-- What the rails and heaters placed leave, where the declared rails were down. -/
theorem railsPlaced_quietly (h : ∀ i, s.declared i = true → RailDown s i) :
    Touches (.life :: .runState :: .clock :: .therm :: .routine :: quietRail ++ startLaws) s (railsPlaced r s) ∧
    (railsPlaced r s).notices = routineAfter ⟨.board, 0, .runState .active s.run.holds⟩ s.notices := by
  have h1 : Touches (.life :: .runState :: .clock :: .therm :: .routine :: startLaws) s (heatersPlaced s) :=
    (stressBegun_touches s).comp (heatersPlaced_touches s)
  have h2 : Touches quietRail (heatersPlaced s) (railsPlaced r s) := changeInhibits_quietly _ (allSockets_nodup.filter _) fun i hi => by
    unfold RailDown
    rw [h1.railState i]
    exact h i (List.mem_filter.mp hi).2
  exact ⟨h1.comp h2, h2.notices.trans (heatersPlaced_notices s)⟩

/-! ## The start with its records -/

theorem hot_iff (i : SocketId) : s.hot i = true ↔ ∃ x, (s.sock i).therm.reading = some x ∧
    ∃ p, (s.zone (zoneOf i)).thermProf = some p ∧ p.limit ≤ x := by
  unfold State.hot
  cases (s.zone (zoneOf i)).thermProf <;> cases (s.sock i).therm.reading <;> simp

theorem startDead_iff (i : SocketId) : s.startDead i = true ↔
    (s.sock i).rail.inhibit.thermal = false ∧ s.hot i = false ∧ 2 ≤ (s.sock i).therm.badRun := by
  unfold State.startDead State.startTripped
  simp [and_assoc]

/-- The end of the run in FINISHED leaves the urgent lane. -/
theorem endRun_sameUrgent (u : State) : SameUrgent u.notices (endRun .finished u).notices := by
  rw [endRun_notices, if_neg (by decide)]
  exact SameUrgent.trans (zonesEnded_all .finished u).urgent (sameUrgent_routine _ _)

/-- What the records of the start leave, with the end of the run that the last may bring. -/
theorem startRecorded_facts (hidle : ∀ z, (s.zone z).seq.state = .idle) :
    (∀ i, s.declared i = true → ((startRecorded r s).sock i).acct = acctStarted s i) ∧
    (∀ i, s.declared i = true → ¬ RetiresNow s i → ((startRecorded r s).sock i).life = .stressing ∧
      ((startRecorded r s).sock i).therm = ((railsPlaced r s).sock i).therm ∧
      ((startRecorded r s).sock i).rail.inhibit = ((railsPlaced r s).sock i).rail.inhibit) ∧
    (∀ i, s.declared i = true → RetiresNow s i → ((startRecorded r s).sock i).life = .retired ∧
      ((startRecorded r s).sock i).therm = heaterOff ((railsPlaced r s).sock i).therm ∧
      ((startRecorded r s).sock i).rail.inhibit.thermal = ((railsPlaced r s).sock i).rail.inhibit.thermal ∧
      ((startRecorded r s).sock i).rail.inhibit.final = true) ∧
    SameUrgent ((allSockets.filter s.declared).foldl (startTold s) (railsPlaced r s).notices) (startRecorded r s).notices ∧
    ((∃ i, s.declared i = true ∧ ¬ RetiresNow s i) → (startRecorded r s).run = (railsPlaced r s).run) ∧
    ((∀ i, s.declared i = false → (s.sock i).life = .empty) → (∃ i, s.declared i = true) →
      (∀ i, s.declared i = true → RetiresNow s i) → (startRecorded r s).run.state = .finished) := by
  have hw := railsPlaced_stage (r := r) hidle
  have hmem : ∀ i, i ∈ allSockets.filter s.declared ↔ s.declared i = true := fun i => by simp [mem_allSockets]
  have hlife0 : ∀ i, s.declared i = false → ((railsPlaced r s).sock i).life = (s.sock i).life := fun i hi => by
    rw [(railsPlaced_touches r s).life i, (heatersPlaced_touches s).life i, stressBegun_life, if_neg (by rw [hi]; decide)]
  have hstarted := railsPlaced_started r s
  obtain ⟨v, hv, hclosed⟩ := told_loop hw (allSockets_nodup.filter _) fun i hi => (hmem i).mp hi
  unfold Closed at hclosed
  unfold startRecorded
  generalize forEach (allSockets.filter s.declared) (startRecord s) (railsPlaced r s) = x at *
  generalize railsPlaced r s = w at *
  have hstays : (∃ i, s.declared i = true ∧ ¬ RetiresNow s i) → x = v := fun ⟨i, hi, hr⟩ =>
    hclosed.elim (·.1) fun hc => absurd (hc.2 i hi).2 hr
  have hend := endRun_plain .finished v
  have hendTherm := endRun_therm .finished v
  have hendInh := endRun_inhibit .finished v
  have hendUrgent := endRun_sameUrgent v
  have hendRun := (endRun_run .finished v).1
  generalize endRun .finished v = y at *
  have hx : x = v ∨ x = y := by
    obtain ⟨hx, -⟩ | ⟨hx, -⟩ := hclosed
    · exact .inl hx
    · exact .inr hx
  have hlife : ∀ i, (x.sock i).life = (v.sock i).life := fun i => by
    rcases hx with hx | hx
    · rw [hx]
    · rw [hx]; exact hend.life i
  have hacct : ∀ i, (x.sock i).acct = (v.sock i).acct := fun i => by
    rcases hx with hx | hx
    · rw [hx]
    · rw [hx]; exact hend.acct i
  refine ⟨fun i hi => (hacct i).trans (hv.acct i ((hmem i).mpr hi)), fun i hi hr => ?_, fun i hi hr => ?_, ?_,
    fun hg => by rw [hstays hg, hv.run], fun hempty hsome hall => ?_⟩
  · rw [hlife i, hstays ⟨i, hi, hr⟩, (hv.life i).resolve_right fun hc => hr hc.2, hw.life i hi]
    exact ⟨rfl, hv.placed i fun hc => hr hc.2⟩
  · obtain ⟨h1, h2⟩ := hv.off i ((hmem i).mpr hi) hr
    rw [hlife i, hv.retired i ((hmem i).mpr hi) hr]
    refine ⟨rfl, ?_⟩
    rcases hx with hx | hx
    · rw [hx, h1, h2]
      exact ⟨rfl, rfl, rfl⟩
    · rw [hx, hendTherm i, hendInh i, h1, h2]
      exact ⟨rfl, rfl, rfl⟩
  · rcases hx with hx | hx
    · rw [hx]; exact hv.urgent
    · rw [hx]; exact hv.urgent.trans hendUrgent
  · obtain ⟨i, hi⟩ := hsome
    obtain ⟨hx, hl | hdue | ⟨j, hj, hr⟩⟩ | ⟨hx, -⟩ := hclosed
    · exact absurd ((hmem i).mpr hi) (by rw [hl]; exact List.not_mem_nil)
    · refine absurd ((finishDue_iff v).mpr ⟨by unfold State.started; rw [hv.run]; exact hstarted, fun j => ?_⟩) (by rw [hdue]; decide)
      cases hj : s.declared j with
      | true => rw [hv.retired j ((hmem j).mpr hj) (hall j hj)]; exact ⟨by decide, by decide⟩
      | false =>
        rw [(hv.life j).resolve_right fun hc => absurd ((hmem j).mp hc.1) (by rw [hj]; decide), hlife0 j hj, hempty j hj]
        exact ⟨by decide, by decide⟩
    · exact absurd (hall j ((hmem j).mp hj)) hr
    · rw [hx]; exact hendRun

end

end Sys2Proof.Proofs.Starts

/-! RUN-START (R10, R11, R55): the request. -/

namespace Sys2Proof.Proofs.Starts

open Sys2Proof.Machine Sys2Proof.Safety Sys2Proof.Proofs.PatternStore Sys2Proof.Proofs.Requests Sys2Proof.Proofs.Frames
  Sys2Proof.Proofs.RunEnds Sys2Proof.Proofs.Sequencing

section
variable {s : State} {r : RunRecord}

theorem opRunStart_valid (hst : s.run.state = .ready) (hr : s.run.record = some r) (hv : s.run.permitValid = true) :
    opRunStart [] s = done false (startRun r s) [] := by
  unfold opRunStart
  rw [fixedLen_of_length (n := 0) (p := []) rfl, hst, hr]
  exact if_pos hv

theorem opRunStart_absent (hst : s.run.state = .ready) (hr : s.run.record = some r) (hv : s.run.permitValid = false) :
    opRunStart [] s = refuse .permitAbsent s := by
  unfold opRunStart
  rw [fixedLen_of_length (n := 0) (p := []) rfl, hst, hr]
  exact if_neg (by rw [hv]; decide)

/-- The zones leave IDLE after all else. -/
theorem startRun_zones (r : RunRecord) (s : State) : Touches passWork (startRecorded r s) (startRun r s) := by
  rw [startRun_eq]
  exact forEach_touches (fun z _ t => zoneStart_touches r z t) _

/-- A start without records, whole. -/
theorem startRun_silent
    (h : ∀ i, s.declared i = true → s.startTripped i = false ∧ (s.sock i).therm.badRun < 2 ∧ RailDown s i)
    (hz : ∀ z, (s.zone z).seq.state = .idle ∧ (s.zone z).seq.bufA = .empty ∧ (s.zone z).seq.bufB = .empty) :
    Touches (.life :: .runState :: .clock :: .therm :: .routine :: .context :: .checked :: .seq :: .port :: .chk ::
      quietRail ++ startLaws) s (startRun r s) ∧
    (startRun r s).run = { s.run with state := .active, clock := 0, acctTimer := some (s.now + 50000000) } ∧
    (startRun r s).notices = routineAfter ⟨.board, 0, .runState .active s.run.holds⟩ s.notices ∧
    (∀ i, s.declared i = true → ((startRun r s).sock i).life = .stressing ∧
      ((startRun r s).sock i).rail.inhibit = { (s.sock i).rail.inhibit with
        run := false, cold := (s.sock i).rail.inhibit.cold || r.powerAtTemp } ∧
      ((startRun r s).sock i).therm = { (s.sock i).therm with
        state := .approach, integral := 0, firstInband := false
        teff := approachTeff (s.zone (zoneOf i)).thermProf (s.sock i).therm }) ∧
    (∀ i, s.declared i = false → ((startRun r s).sock i).life = (s.sock i).life ∧
      ((startRun r s).sock i).rail.inhibit = (s.sock i).rail.inhibit ∧ ((startRun r s).sock i).therm = (s.sock i).therm) ∧
    ∀ z, ZoneStarted r z (s.zone z).seq ((startRun r s).zone z).seq := by
  have hsilent := startRecorded_silent (r := r) fun i hi => ⟨(h i hi).1, (h i hi).2.1⟩
  obtain ⟨hq, hn⟩ := railsPlaced_quietly (r := r) fun i hi => (h i hi).2.2
  have hrun := railsPlaced_runs r s
  have hinh := railsPlaced_inhibit r s
  have htherm := fun i hi => startTherm_eq (r := r) (s := s) i hi
  have htherm' := fun i hi => startTherm_undeclared (r := r) (s := s) i hi
  have hlife : ∀ i, ((railsPlaced r s).sock i).life = if s.declared i then .stressing else (s.sock i).life := fun i => by
    rw [(railsPlaced_touches r s).life i, (heatersPlaced_touches s).life i, stressBegun_life]
  have hzones := startRun_zones r s
  have hseqs : ∀ z, ZoneStarted r z ((railsPlaced r s).zone z).seq ((startRun r s).zone z).seq := fun z => by
    rw [startRun_eq, hsilent]
    exact (zonesStart_seq (r := r) (w := railsPlaced r s) (by rw [hrun]) (fun z => by rw [hq.seq z]; exact hz z) allZones
      allZones_nodup).2.2 z (mem_allZones z)
  rw [hsilent] at hzones
  generalize railsPlaced r s = w at *
  generalize startRun r s = t at *
  refine ⟨hq.comp hzones, (hzones.run).trans hrun, hzones.notices.trans hn, fun i hi => ?_, fun i hi => ?_, fun z => ?_⟩
  · obtain ⟨h1, h2, -⟩ := h i hi
    have hhot : s.hot i = false ∧ (s.sock i).rail.inhibit.thermal = false := by
      unfold State.startTripped at h1
      exact ⟨(Bool.or_eq_false_iff.mp h1).2, (Bool.or_eq_false_iff.mp h1).1⟩
    have hdead : s.startDead i = false := by
      rw [Bool.eq_false_iff]
      exact fun hc => absurd ((startDead_iff i).mp hc).2.2 (by omega)
    rw [hzones.life i, hlife i, if_pos hi, hzones.inhibit i, hinh i, if_pos hi, hzones.therm i, htherm i hi, h1, hdead, hhot.1]
    refine ⟨rfl, ?_, rfl⟩
    unfold startInhibit
    simp
  · rw [hzones.life i, hlife i, hzones.inhibit i, hinh i, hzones.therm i, htherm' i hi, hi]
    exact ⟨rfl, rfl, rfl⟩
  · rw [← hq.seq z]
    exact hseqs z

/-! ## The start with its records -/

theorem startTold_same {q q' : NoticeQueue} (h : SameUrgent q q') (i : SocketId) :
    SameUrgent (startTold s q i) (startTold s q' i) := by
  unfold startTold
  split_ifs
  · exact sameUrgent_after (sameUrgent_after h _) _
  · exact sameUrgent_after h _
  · exact sameUrgent_after h _
  · exact h

theorem startTold_fold (l : List SocketId) {q q' : NoticeQueue} (h : SameUrgent q q') :
    SameUrgent (l.foldl (startTold s) q) (l.foldl (startTold s) q') := by
  induction l generalizing q q' with
  | nil => exact h
  | cons i l ih => exact ih (startTold_same h i)

/-- A socket sends a record at the start (R55). -/
abbrev SendsNow (s : State) (i : SocketId) : Prop := TripsNow s i ∨ s.startDead i = true

theorem startTold_filter (l : List SocketId) (q : NoticeQueue) :
    l.foldl (startTold s) q = (l.filter (SendsNow s ·)).foldl (startTold s) q := by
  rw [List.foldl_filter]
  refine List.foldl_ext _ _ _ fun q i _ => ?_
  by_cases h : SendsNow s i
  · rw [if_pos (by simpa using h)]
  · obtain ⟨h1, h2⟩ := not_or.mp h
    rw [if_neg (by simpa using h)]
    unfold startTold
    rw [if_neg fun hc => h1 hc.1, if_neg h1, if_neg h2]

/-- The accounts of a declared socket by its case (R55, R154, R156). -/
theorem acctStarted_none {i : SocketId} (h : ¬ SendsNow s i) : acctStarted s i = (s.sock i).acct := by
  obtain ⟨h1, h2⟩ := not_or.mp h
  unfold acctStarted
  rw [if_neg fun hc => h1 hc.1, if_neg h1, if_neg h2]

theorem acctStarted_dead {i : SocketId} (h : s.startDead i = true) : acctStarted s i =
    { (s.sock i).acct with
      total := min 65535 ((s.sock i).acct.total + 1), log := (s.sock i).acct.log.take 5 ++ [deadRec s i] } := by
  have ht : ¬ TripsNow s i := fun hc => absurd (hc.1.symm.trans ((startDead_iff i).mp h).2.1) (by decide)
  unfold acctStarted
  rw [if_neg fun hc => ht hc.1, if_neg ht, if_pos h, record_board rfl]

/-- The thermal loop of a declared socket, as the start places it. -/
def thermStarted (s : State) (i : SocketId) : Thermal :=
  startedTherm (s.startTripped i) (s.startDead i)
    (approachTeff (s.zone (zoneOf i)).thermProf (s.sock i).therm) (s.sock i).therm

/-- The inhibit set of a declared socket, as the start places it. -/
def inhibitStarted (r : RunRecord) (s : State) (i : SocketId) : Inhibit :=
  startInhibit r.powerAtTemp (s.hot i) (s.startDead i) (s.sock i).rail.inhibit

/-- The start, whole. -/
theorem startRun_facts (hidle : ∀ z, (s.zone z).seq.state = .idle) :
    (∀ i, s.declared i = true → ((startRun r s).sock i).acct = acctStarted s i) ∧
    (∀ i, s.declared i = true → ¬ RetiresNow s i → ((startRun r s).sock i).life = .stressing ∧
      ((startRun r s).sock i).therm = thermStarted s i ∧
      ((startRun r s).sock i).rail.inhibit = inhibitStarted r s i) ∧
    (∀ i, s.declared i = true → RetiresNow s i → ((startRun r s).sock i).life = .retired ∧
      ((startRun r s).sock i).therm = heaterOff (thermStarted s i) ∧
      ((startRun r s).sock i).rail.inhibit.thermal = (inhibitStarted r s i).thermal ∧
      ((startRun r s).sock i).rail.inhibit.final = true) ∧
    SameUrgent ((allSockets.filter s.declared).foldl (startTold s) s.notices) (startRun r s).notices ∧
    ((∃ i, s.declared i = true ∧ ¬ RetiresNow s i) → (startRun r s).run =
      { s.run with state := .active, clock := 0, acctTimer := some (afterMs 1000 s) }) ∧
    ((∀ i, s.declared i = false → (s.sock i).life = .empty) → (∃ i, s.declared i = true) →
      (∀ i, s.declared i = true → RetiresNow s i) → (startRun r s).run.state = .finished) := by
  obtain ⟨hacct, hstays, hgoes, htold, hrun, hfin⟩ := startRecorded_facts (s := s) (r := r) hidle
  have hz := startRun_zones r s
  have htherm : ∀ i, s.declared i = true → ((railsPlaced r s).sock i).therm = thermStarted s i := startTherm_eq
  have hinh : ∀ i, s.declared i = true → ((railsPlaced r s).sock i).rail.inhibit = inhibitStarted r s i := fun i hi =>
    (railsPlaced_inhibit r s i).trans (if_pos hi)
  have hplaced := sameUrgent_of_touches (placed_touches r s)
  rw [railsPlaced_runs] at hrun
  generalize startRecorded r s = u at *
  generalize startRun r s = t at *
  generalize railsPlaced r s = w at *
  refine ⟨fun i hi => (hz.acct i).trans (hacct i hi), fun i hi hr => ?_, fun i hi hr => ?_,
    ((startTold_fold _ hplaced).trans htold).trans (sameUrgent_of_touches hz), fun h => hz.run.trans (hrun h),
    fun h1 h2 h3 => (congrArg (·.state) hz.run).trans (hfin h1 h2 h3)⟩
  · obtain ⟨h1, h2, h3⟩ := hstays i hi hr
    exact ⟨(hz.life i).trans h1, (hz.therm i).trans (h2.trans (htherm i hi)), (hz.inhibit i).trans (h3.trans (hinh i hi))⟩
  · obtain ⟨h1, h2, h3, h4⟩ := hgoes i hi hr
    rw [hz.life i, hz.therm i, hz.inhibit i, ← htherm i hi, ← hinh i hi]
    exact ⟨h1, h2, h3, h4⟩

/-- What a socket tells that sends a record at the start. -/
theorem startTold_told {i : SocketId} {q : NoticeQueue} (hs : ¬ (s.sock i).rail.inhibit.thermal = true)
    (h : (∃ x, (s.sock i).therm.reading = some x ∧ ∃ p, (s.zone (zoneOf i)).thermProf = some p ∧ p.limit ≤ x) ∨
      s.startDead i = true) :
    startTold s q i =
      if s.hot i = false then urgentAfter ⟨.socket i, 0, .fail .sensorFault (min 6 ((s.sock i).acct.log.length + 1))⟩ q
      else if s.disposition .thermalTrip = .retire ∨ nextIsLast s i = true then
        urgentAfter ⟨.socket i, 0, .retired (some .thermalTrip)⟩
          (urgentAfter ⟨.socket i, 0, .fail .thermalTrip (min 6 ((s.sock i).acct.log.length + 1))⟩ q)
      else urgentAfter ⟨.socket i, 0, .fail .thermalTrip (min 6 ((s.sock i).acct.log.length + 1))⟩ q := by
  rw [← hot_iff] at h
  by_cases hhot : s.hot i = true
  · have ht : TripsNow s i := ⟨hhot, Bool.eq_false_iff.mpr hs⟩
    rw [if_neg (by rw [hhot]; decide)]
    exact if_congr (and_iff_right ht) rfl (if_pos ht)
  · rw [if_pos (Bool.eq_false_iff.mpr hhot)]
    exact (if_neg fun hc => hhot hc.1.1).trans ((if_neg fun hc => hhot hc.1).trans (if_pos (h.resolve_left hhot)))

/-! ## Each socket by what the start finds (R55) -/

section
variable {i : SocketId}

theorem thermStarted_tripped (h : s.startTripped i = true) : thermStarted s i =
    { (s.sock i).therm with
      state := .tripped, duty := 0, grant := 0, sat := .none, integral := 0, firstInband := false } := if_pos h

theorem thermStarted_dead (h : s.startDead i = true) : thermStarted s i =
    { (s.sock i).therm with
      state := .sensorFault, duty := 0, grant := 0, sat := .none, integral := 0, firstInband := false } := by
  obtain ⟨h1, h2, -⟩ := (startDead_iff i).mp h
  unfold thermStarted startedTherm State.startTripped
  rw [h1, h2, h]
  rfl

theorem thermStarted_approach (h1 : s.startTripped i = false) (h2 : s.startDead i = false) :
    (thermStarted s i).state = .approach ∧ ∀ x, (s.sock i).therm.reading = some x → (thermStarted s i).teff = x := by
  unfold thermStarted startedTherm
  rw [h1, h2]
  refine ⟨rfl, fun x hx => ?_⟩
  show approachTeff _ _ = x
  unfold approachTeff
  rw [hx]
  rfl

theorem tripsNow_iff : TripsNow s i ↔ ¬ (s.sock i).rail.inhibit.thermal = true ∧ ∃ x, (s.sock i).therm.reading = some x ∧
    ∃ p, (s.zone (zoneOf i)).thermProf = some p ∧ p.limit ≤ x := by
  unfold TripsNow
  rw [hot_iff, Bool.not_eq_true, and_comm]

theorem startDead_iff_not : s.startDead i = true ↔ ¬ (s.sock i).rail.inhibit.thermal = true ∧
    (∀ x, ¬ ((s.sock i).therm.reading = some x ∧ ∃ p, (s.zone (zoneOf i)).thermProf = some p ∧ p.limit ≤ x)) ∧
    2 ≤ (s.sock i).therm.badRun := by
  rw [startDead_iff, ← not_exists, ← hot_iff, Bool.not_eq_true, Bool.not_eq_true]

theorem tripRec_eq {x : Int} (hx : (s.sock i).therm.reading = some x) : tripRec s i =
    { recordOf s i .thermalTrip (s.passStamp (zoneOf i)) (s.disposition .thermalTrip) (.reading x) with clock := 0 } := by
  unfold tripRec
  rw [hx]
  rfl

theorem acctStarted_retires (h : RetiresNow s i) : acctStarted s i = { counted (s.sock i).acct (tripRec s i) with
    deciding := some ⟨.thermalTrip, min 6 ((s.sock i).acct.log.length + 1)⟩, byHost := false } := if_pos h

theorem acctStarted_trips (h : TripsNow s i) (hr : ¬ RetiresNow s i) :
    acctStarted s i = counted (s.sock i).acct (tripRec s i) := (if_neg hr).trans (if_pos h)

theorem inhibitStarted_trips (h : TripsNow s i) : inhibitStarted r s i =
    { (s.sock i).rail.inhibit with
      run := false, cold := (s.sock i).rail.inhibit.cold || r.powerAtTemp, thermal := true } := by
  have hd : s.startDead i = false := Bool.eq_false_iff.mpr fun hc => absurd (h.1.symm.trans ((startDead_iff i).mp hc).2.1)
    (by decide)
  unfold inhibitStarted startInhibit
  rw [h.1, h.2, hd, Bool.or_false]
  rfl

theorem inhibitStarted_stands (h : (s.sock i).rail.inhibit.thermal = true) : inhibitStarted r s i =
    { (s.sock i).rail.inhibit with run := false, cold := (s.sock i).rail.inhibit.cold || r.powerAtTemp } := by
  have hd : s.startDead i = false := Bool.eq_false_iff.mpr fun hc => absurd (h.symm.trans ((startDead_iff i).mp hc).1)
    (by decide)
  unfold inhibitStarted startInhibit
  rw [h, hd, Bool.or_false, Bool.true_or]
  exact congrArg (fun b => Inhibit.mk _ _ _ b _ _) h.symm

theorem inhibitStarted_dead (h : s.startDead i = true) : inhibitStarted r s i =
    { (s.sock i).rail.inhibit with
      run := false, cold := (s.sock i).rail.inhibit.cold || r.powerAtTemp, sensor := true } := by
  obtain ⟨h1, h2, -⟩ := (startDead_iff i).mp h
  unfold inhibitStarted startInhibit
  rw [h, h1, h2, Bool.or_true]
  exact congrArg (fun b => Inhibit.mk _ _ _ b _ _) h1.symm

end

end

/-- Settles O31, by the validity of the permit and by what the start finds of each socket. -/
theorem runStartStartsTheRun : Obligations.RunStartStartsTheRun := by
  unfold Obligations.RunStartStartsTheRun
  intro f s r haddr hp hst hr
  refine ⟨fun hv => ?_, fun hv hquiet hz => ?_, fun hv hidle => ?_⟩
  · exact execFrame_refuses haddr ((congrArg (opRunStart · (received s)) hp).trans
      (opRunStart_absent (s := received s) hst hr hv))
  · have hop := (congrArg (opRunStart · (received s)) hp).trans (opRunStart_valid (s := received s) hst hr hv)
    obtain ⟨ht, hrun, hnotices, hdecl, hundecl, hzone⟩ := startRun_silent (s := received s) (r := r) hquiet hz
    generalize startRun r (received s) = t at *
    refine ⟨_, execFrame_answers haddr hop ht.link, hrun, rfl, hnotices, fun i => ⟨ht.bin i, ht.acct i, ht.live i⟩,
      fun i hi => ?_, hundecl, fun z => ⟨ht.railProf z, ht.thermProf z, ht.budget z, ht.armed z, (hzone z).1⟩,
      fun z => (hzone z).2.1, fun z => (hzone z).2.2, ht.mem, ht.pages, ht.programs, ht.staging, ht.straps, ht.now, ht.draws,
      ht.pending⟩
    obtain ⟨h1, h2, h3⟩ := hdecl i hi
    refine ⟨h1, h2, h3.trans ?_⟩
    rw [Resume.approachTeff_eq]
    rfl
  · have hop := (congrArg (opRunStart · (received s)) hp).trans (opRunStart_valid (s := received s) hst hr hv)
    have hexec := execFrame_answers haddr hop (startRun_touches (s := received s) hst hr).link
    have hnow := (startRun_touches (s := received s) hst hr).now
    have hrails : RailInv s → (∀ i, RailFollowsSet i s _) ∧ _ := fun hs =>
      (RailsFollow.railsFollowTheirSets (.runStart f) s _ rfl hs hexec).imp (fun h i => h i rfl) id
    obtain ⟨hacct, hstays, hgoes, htold, hrun, hfin⟩ := startRun_facts (s := received s) (r := r) hidle
    generalize startRun r (received s) = t at *
    intro hot stands dead disp final slot note down cold
    have htrips : ∀ i, TripsNow (received s) i ↔ ¬ stands i ∧ ∃ x, hot i x := fun i => tripsNow_iff
    have hdead : ∀ i, (received s).startDead i = true ↔ dead i := fun i => startDead_iff_not
    have hret : ∀ i, RetiresNow (received s) i ↔ ¬ stands i ∧ (∃ x, hot i x) ∧ final i := fun i =>
      (and_congr_left' (htrips i)).trans and_assoc
    have hno : ∀ i, stands i → ¬ TripsNow (received s) i := fun i h hc => ((htrips i).mp hc).1 h
    refine ⟨_, hexec, rfl, hnow, hrails, fun i hi h => ?_, fun i x hi h hx => ⟨fun hf => ?_, fun hf => ?_⟩, fun i hi h => ?_,
      fun i hi h1 h2 h3 => ?_, fun l hl hmem => ?_, fun ⟨i, hi, h⟩ => hrun ⟨i, hi, fun hc => h ((hret i).mp hc)⟩,
      fun h1 h2 h3 => hfin h1 h2 fun i hi => (hret i).mpr (h3 i hi)⟩
    · have hd : ¬ (received s).startDead i = true := fun hc => ((hdead i).mp hc).1 h
      obtain ⟨h1, h2, h3⟩ := hstays i hi fun hc => hno i h hc.1
      exact ⟨h1, (hacct i hi).trans (acctStarted_none (not_or.mpr ⟨hno i h, hd⟩)),
        h2.trans (thermStarted_tripped (Bool.or_eq_true_iff.mpr (.inl h))), h3.trans (inhibitStarted_stands h)⟩
    · have ht := (htrips i).mpr ⟨h, x, hx⟩
      have hr : ¬ RetiresNow (received s) i := fun hc => hf ((hret i).mp hc).2.2
      obtain ⟨h1, h2, h3⟩ := hstays i hi hr
      refine ⟨h1, (hacct i hi).trans ((acctStarted_trips ht hr).trans ?_),
        h2.trans (thermStarted_tripped (Bool.or_eq_true_iff.mpr (.inr ht.1))), h3.trans (inhibitStarted_trips ht)⟩
      rw [tripRec_eq (s := received s) hx.1]
      rfl
    · have ht := (htrips i).mpr ⟨h, x, hx⟩
      have hr := (hret i).mpr ⟨h, ⟨x, hx⟩, hf⟩
      obtain ⟨h1, h2, h3, h4⟩ := hgoes i hi hr
      refine ⟨h1, (hacct i hi).trans ((acctStarted_retires hr).trans ?_), h2.trans ?_, h3.trans ?_, h4⟩
      · rw [tripRec_eq (s := received s) hx.1]
        rfl
      · rw [thermStarted_tripped (Bool.or_eq_true_iff.mpr (.inr ht.1))]
        rfl
      · rw [inhibitStarted_trips ht]
    · have hd := (hdead i).mpr h
      obtain ⟨h1, h2, h3⟩ := hstays i hi fun hc => ((htrips i).mp hc.1).2.elim h.2.1
      exact ⟨h1, (hacct i hi).trans (acctStarted_dead hd), h2.trans (thermStarted_dead hd), h3.trans (inhibitStarted_dead hd)⟩
    · have ht : ¬ TripsNow (received s) i := fun hc => ((htrips i).mp hc).2.elim h2
      have hd : ¬ (received s).startDead i = true := fun hc => h3 ((hdead i).mp hc)
      obtain ⟨g1, g2, -⟩ := hstays i hi fun hc => ht hc.1
      refine ⟨g1, (hacct i hi).trans (acctStarted_none (not_or.mpr ⟨ht, hd⟩)), ?_⟩
      show (t.sock i).therm.state = _ ∧ ∀ x, _ → (t.sock i).therm.teff = x
      rw [g2]
      refine thermStarted_approach ?_ (Bool.eq_false_iff.mpr hd)
      exact Bool.eq_false_iff.mpr fun hc => (Bool.or_eq_true_iff.mp hc).elim h1 fun hc => ht ⟨hc, Bool.eq_false_iff.mpr h1⟩
    · have hfilter : (allSockets.filter (received s).declared).filter (SendsNow (received s) ·) = l :=
        ((RailsFollow.allSockets_pairwise.filter _).filter _).eq_of_mem_iff hl fun i => by
          rw [hmem i, List.mem_filter, List.mem_filter, decide_eq_true_iff]
          show (_ ∧ s.declared i = true) ∧ (TripsNow _ i ∨ _) ↔ _
          rw [and_iff_right (mem_allSockets i), htrips, hdead]
          exact and_congr_right fun _ => ⟨fun h => h.elim (fun h => ⟨h.1, .inl h.2⟩) fun h => ⟨h.1, .inr h⟩,
            fun h => h.2.elim (fun g => .inl ⟨h.1, g⟩) .inr⟩
      rw [startTold_filter, hfilter] at htold
      refine (congrArg (SameUrgent · t.notices) (List.foldl_ext _ _ _ fun q i hi => ?_)).mp htold
      obtain ⟨-, hs, h⟩ := (hmem i).mp hi
      exact startTold_told hs (h.imp id (hdead i).mpr)

end Sys2Proof.Proofs.Starts

/-! What a pass start, a next page and a strobe sample leave (R105, R107, R126, R129, R130), and the gap timer (R114). -/

namespace Sys2Proof.Proofs.Playback

open Sys2Proof.Machine Sys2Proof.Safety Sys2Proof.Proofs.Frames Sys2Proof.Proofs.Sequencing Sys2Proof.Proofs.Settings

/-! ## The checker at a pass start (R126) -/

/-- A socket's pass at the start of a pass of its zone. -/
def joined (k : Socket) : Pass :=
  if k.eligible then { k.pass with checked := true, count := 0, first := none, crc := 0xFFFF, lpc := 0 }
  else { k.pass with checked := false }

section
variable {z : ZoneId} {s : State}

theorem joinOne_eq (i : SocketId) (s : State) : joinOne i s = modSock i (fun k => { k with pass := joined k }) s := by
  have hj : joined (s.sock i) = if (s.sock i).eligible then
      { (s.sock i).pass with checked := true, count := 0, first := none, crc := 0xFFFF, lpc := 0 }
    else { (s.sock i).pass with checked := false } := rfl
  unfold joinOne dropPass modPass
  split
  · rename_i h
    exact modSock_congr (by rw [hj, if_pos h])
  · rename_i h
    exact modSock_congr (by rw [hj, if_neg h])

theorem eligible_iff (k : Socket) : k.eligible = true ↔ k.life = .stressing ∧ k.rail.state = .on ∧
    k.live.state ≠ .resetHeld ∧ k.live.state ≠ .ignore := by
  unfold Socket.eligible
  simp [and_assoc]

theorem joinPass_sock (z : ZoneId) (n : Nat) (p : ProgId) (s : State) (i : SocketId) : (joinPass z n p s).sock i =
    if zoneOf i = z then { s.sock i with pass := joined (s.sock i) } else s.sock i := by
  unfold joinPass
  rw [forEach_sock_of (F := fun _ i k => { k with pass := joined k }) joinOne_eq (fun _ _ _ => rfl),
    forEach_zoneSockets_sock]
  rfl

theorem joinPass_zone (z : ZoneId) (n : Nat) (p : ProgId) (s : State) : (joinPass z n p s).zone z = { s.zone z with
    chk := { opened := true, passNo := n, slot := some p, mode := (s.program p).map (·.mode),
             expect := (s.program p).bind (·.sig) } } := by
  unfold joinPass
  rw [forEach_sock_of (F := fun _ i k => { k with pass := joined k }) joinOne_eq (fun _ _ _ => rfl),
    forEach_modSock_frame]
  exact modZone_zone_self z (fun k => { k with chk := _ }) s

/-! ## The next page (R105) -/

/-- The page that should follow the one now playing. -/
def nextTag (z : ZoneId) (s : State) : Option PageTag :=
  match ((s.zone z).seq.buf (s.zone z).seq.play.buf).tag? with
  | none => none
  | some t =>
    match s.program t.slot with
    | none => none
    | some d =>
      if t.pos + 1 < d.pages.length then s.tagAt t.slot (t.pos + 1)
      else
        match (s.zone z).seq.staged with
        | some (.slot p) => s.tagAt p 0
        | some .noProgram => none
        | none => s.firstTag z

/-- The sequencer with its next page chosen, before the fetch is seen to. -/
def chosen (next : Option PageTag) (q : Seq) : Seq :=
  match next with
  | none => { q with next := none }
  | some t => { q.setBuf q.play.buf.other .empty with next := some t }

theorem chooseNext_eq (z : ZoneId) (s : State) : chooseNext z s = match nextTag z s with
    | none => modSeq z (chosen none) s
    | some t => fetchWanted z (modSeq z (chosen (some t)) s) := rfl

/-- A change of the two buffers, the fetch and the next page alone. -/
def NextOnly (q q' : Seq) : Prop :=
  q' = { q with bufA := q'.bufA, bufB := q'.bufB, fetch := q'.fetch, next := q'.next }

theorem chosen_nextOnly (next : Option PageTag) (q : Seq) : NextOnly q (chosen next q) := by
  cases next with
  | none => rfl
  | some t => cases h : q.play.buf <;> simp [NextOnly, chosen, Seq.setBuf, h, BufId.other]

theorem NextOnly.fetchOnly {q q' q'' : Seq} (h : NextOnly q q') (g : FetchOnly q' q'') : NextOnly q q'' := by
  unfold NextOnly FetchOnly at *
  rw [g, h]

theorem chooseNext_nextOnly (z : ZoneId) (s : State) : NextOnly (s.zone z).seq ((chooseNext z s).zone z).seq := by
  rw [chooseNext_eq]
  split
  · rw [modSeq_seq_self]
    exact chosen_nextOnly _ _
  · have h := fetchWanted_fetchOnly z (modSeq z (chosen (some ‹_›)) s)
    rw [modSeq_seq_self] at h
    exact (chosen_nextOnly _ _).fetchOnly h

theorem chooseNext_sockets (z : ZoneId) (s : State) : (chooseNext z s).sockets = s.sockets := by
  rw [chooseNext_eq]
  split
  · rfl
  · rw [fetchWanted_sockets]
    rfl

theorem fetchWanted_chk (z : ZoneId) (s : State) : ((fetchWanted z s).zone z).chk = (s.zone z).chk :=
  (fetchWanted_touches z s).chk z

theorem chooseNext_chk (z : ZoneId) (s : State) : ((chooseNext z s).zone z).chk = (s.zone z).chk :=
  (chooseNext_touches z s).chk z

/-! ## The start of a pass (R107) -/

/-- The sequencer in the first period of a pass from buffer `b`, before its next page is chosen. -/
def begun (b : BufId) (d : Program) (now : Nat) (q : Seq) : Seq :=
  applyVec b 0 0 now { q with
    state := .playing, passNo := (q.passNo + 1) % 4294967296, void := none, period := 0, ordinal := 0,
    divN := d.divN, fracF := d.fracF, gapTimer := none }

theorem passStart_eq {k : ProgId} {d : Program} (b : BufId) (ha : (s.zone z).seq.assigned = some (.slot k))
    (hd : s.program k = some d) : passStart z b s =
      chooseNext z (joinPass z (((s.zone z).seq.passNo + 1) % 4294967296) k (modSeq z (begun b d s.now) s)) := by
  have hslot : s.assignedSlot z = some k := by unfold State.assignedSlot; rw [ha]
  unfold passStart
  rw [hslot]
  simp only [hd, modSeq_seq_self]
  rfl

theorem passStart_facts {k : ProgId} {d : Program} (b : BufId) (ha : (s.zone z).seq.assigned = some (.slot k))
    (hd : s.program k = some d) :
    NextOnly (begun b d s.now (s.zone z).seq) ((passStart z b s).zone z).seq ∧
    ((passStart z b s).zone z).chk = { opened := true, passNo := ((s.zone z).seq.passNo + 1) % 4294967296, slot := some k,
                                       mode := some d.mode, expect := d.sig } ∧
    ∀ i, (passStart z b s).sock i = if zoneOf i = z then { s.sock i with pass := joined (s.sock i) } else s.sock i := by
  rw [passStart_eq b ha hd]
  have hjoin := joinPass_zone z (((s.zone z).seq.passNo + 1) % 4294967296) k (modSeq z (begun b d s.now) s)
  refine ⟨?_, ?_, fun i => ?_⟩
  · have h := chooseNext_nextOnly z (joinPass z (((s.zone z).seq.passNo + 1) % 4294967296) k (modSeq z (begun b d s.now) s))
    rw [hjoin] at h
    simp only [modSeq_seq_self] at h
    exact h
  · rw [chooseNext_chk, hjoin]
    show CheckZone.mk _ _ _ ((s.program k).map _) ((s.program k).bind _) = _
    rw [hd]
    rfl
  · unfold State.sock
    rw [chooseNext_sockets]
    exact joinPass_sock z _ k _ i

/-! ## The page wanted at a pass start (R105, R107) -/

theorem firstTag_eq {k : ProgId} {d : Program} {pg : PageId} (ha : (s.zone z).seq.assigned = some (.slot k))
    (hd : s.program k = some d) (hpg : d.pages[0]? = some pg) : s.firstTag z =
      some ⟨k, 0, pg, if d.pages.length = 1 then d.lastCount else (s.page pg).count.getD 0⟩ := by
  have hslot : s.assignedSlot z = some k := by unfold State.assignedSlot; rw [ha]
  unfold State.firstTag State.tagAt State.playedCount
  rw [hslot]
  simp only [Option.bind_some, hd, hpg, Option.map_some, Nat.zero_add, eq_comm (a := 1)]

theorem idleWord_eq {k : ProgId} {d : Program} (ha : (s.zone z).seq.assigned = some (.slot k))
    (hd : s.program k = some d) : s.idleWord z = d.idleWord := by
  have hslot : s.assignedSlot z = some k := by unfold State.assignedSlot; rw [ha]
  unfold State.idleWord State.zoneProgram
  rw [hslot]
  simp only [Option.bind_some, hd, Option.map_some, Option.getD_some]

/-- The buffer to start from, where one alone holds the page. -/
theorem readyBuf_of_one {q : Seq} {t : PageTag} {b : BufId} (h : (q.buf b).holds t = true)
    (ho : (q.buf b.other).holds t = false) : q.readyBuf t = some b := by
  unfold Seq.readyBuf
  by_cases hb : q.play.buf = b
  · rw [hb, ho, h]
    rfl
  · have hb' : q.play.buf.other = b := (eq_other_of_ne (Ne.symm hb)).symm
    rw [hb', h]
    rfl

theorem readyBuf_of_none {q : Seq} {t : PageTag} (ha : q.bufA.holds t = false) (hb : q.bufB.holds t = false) :
    q.readyBuf t = none := by
  have hall : ∀ c, (q.buf c).holds t = false := fun c => by cases c <;> assumption
  unfold Seq.readyBuf
  rw [hall, hall]
  rfl

/-- The wanted page is seen to: its fetch is under way where no buffer holds it. -/
theorem fetchWanted_isSome {w : PageTag} (h : s.wanted z = some w) (hh : s.held z w = false) :
    ((fetchWanted z s).zone z).seq.fetch.isSome = true := by
  unfold fetchWanted
  rw [h]
  simp only [hh, Bool.false_eq_true, if_false]
  split
  · rename_i f hf
    split
    · rw [modSeq_seq_self, (setBuf_frame _ _ _).2.1, hf]
      rfl
    · rw [hf]
      rfl
  · rw [startFetch_zone]
    rfl

end

end Sys2Proof.Proofs.Playback

/-! The ways into PRIMING (R107), and the expiry of the gap timer (R114). -/

namespace Sys2Proof.Proofs.Playback

open Sys2Proof.Machine Sys2Proof.Safety Sys2Proof.Proofs.Frames Sys2Proof.Proofs.Sequencing

section
variable {z : ZoneId} {s : State} {w : PageTag}

/-- The zone in PRIMING, before a pass starts or a fetch is seen to. -/
abbrev primed (z : ZoneId) (s : State) : State := modSeq z (toPriming (s.idleWord z)) s

theorem primed_seq (z : ZoneId) (s : State) : ((primed z s).zone z).seq = toPriming (s.idleWord z) (s.zone z).seq :=
  modSeq_seq_self z _ s

theorem primed_firstTag (z : ZoneId) (s : State) : (primed z s).firstTag z = s.firstTag z := by
  unfold State.firstTag State.assignedSlot
  rw [primed_seq]
  rfl

theorem primed_ready (hw : s.firstTag z = some w) : (primed z s).ready z = (s.zone z).seq.readyBuf w := by
  unfold State.ready
  rw [primed_firstTag, hw, primed_seq]
  rfl

/-- The zone enters PRIMING with position 0 full in a buffer: the pass starts (R107). -/
theorem enterPriming_starts {b : BufId} (hw : s.firstTag z = some w) (hb : (s.zone z).seq.readyBuf w = some b) :
    enterPriming z s = passStart z b (primed z s) := by
  rw [enterPriming_eq, primed_ready hw, hb]

theorem readyBuf_none {q : Seq} (h : q.readyBuf w = none) (c : BufId) : (q.buf c).holds w = false := by
  unfold Seq.readyBuf at h
  split_ifs at h with h1 h2
  by_cases hc : c = q.play.buf
  · rw [hc]
    exact Bool.eq_false_iff.mpr h2
  · rw [eq_other_of_ne hc]
    exact Bool.eq_false_iff.mpr h1

/-- The zone enters PRIMING with position 0 in no buffer: it waits for its fetch (R107). -/
theorem enterPriming_waits (hw : s.firstTag z = some w) (hb : (s.zone z).seq.readyBuf w = none) :
    FetchOnly (toPriming (s.idleWord z) (s.zone z).seq) ((enterPriming z s).zone z).seq ∧
    ((enterPriming z s).zone z).seq.fetch.isSome = true ∧ (enterPriming z s).sockets = s.sockets := by
  have hp : enterPriming z s = fetchWanted z (primed z s) := by rw [enterPriming_eq, primed_ready hw, hb]
  have hq := primed_seq z s
  have hfirst := (primed_firstTag z s).trans hw
  have hsockets : (primed z s).sockets = s.sockets := rfl
  rw [hp]
  generalize primed z s = u at *
  have hwanted : u.wanted z = some w := by
    unfold State.wanted
    rw [hq]
    exact hfirst
  have hbuf : ∀ c, ((u.zone z).seq.buf c).holds w = false := fun c => by rw [hq]; exact readyBuf_none hb c
  have hheld : u.held z w = false := by
    unfold State.held
    simp only [hbuf, Bool.and_false, Bool.or_self]
  exact ⟨hq ▸ fetchWanted_fetchOnly z u, fetchWanted_isSome hwanted hheld, (fetchWanted_sockets z u).trans hsockets⟩

/-- The zone enters PRIMING and its pass starts (R107, R126). -/
theorem enterPriming_begins {b : BufId} {k : ProgId} {d : Program} (ha : (s.zone z).seq.assigned = some (.slot k))
    (hd : s.program k = some d) (hw : s.firstTag z = some w) (hb : (s.zone z).seq.readyBuf w = some b) :
    NextOnly (begun b d s.now (toPriming (s.idleWord z) (s.zone z).seq)) ((enterPriming z s).zone z).seq ∧
    ((enterPriming z s).zone z).chk = { opened := true, passNo := ((s.zone z).seq.passNo + 1) % 4294967296, slot := some k,
                                        mode := some d.mode, expect := d.sig } ∧
    ∀ i, (enterPriming z s).sock i = if zoneOf i = z then { s.sock i with pass := joined (s.sock i) } else s.sock i := by
  have hq := primed_seq z s
  have h := passStart_facts (s := primed z s) b (by rw [hq]; exact ha) hd
  rw [enterPriming_starts hw hb]
  rw [hq] at h
  exact h

/-- The first period of a pass (R103). -/
theorem periodCycles_zero (n f : Nat) : periodCycles n f 0 = if 1 ≤ f / 16 then n + 1 else n := by
  unfold periodCycles
  simp [Nat.one_le_iff_ne_zero, Nat.pos_iff_ne_zero]

end

/-- Settles O56, by whether a buffer holds position 0 of the assigned program. -/
theorem gapExpiryStartsThePass : Obligations.GapExpiryStartsThePass := by
  unfold Obligations.GapExpiryStartsThePass
  intro s z e k d pg q hst htimer hassigned hd hpg now first
  have hexec : exec (.gapTimerExpiry z) s = .next (enterPriming z (advanceTo e s)) := by
    show execGapTimerExpiry z s = _
    unfold execGapTimerExpiry
    rw [hst, htimer]
  have hwork := ZoneWork.enterPriming z (advanceTo e s)
  have hfirst : (advanceTo e s).firstTag z = some first := firstTag_eq (s := advanceTo e s) hassigned hd hpg
  have hword : (advanceTo e s).idleWord z = d.idleWord := idleWord_eq (s := advanceTo e s) hassigned hd
  have hwaits := fun h => enterPriming_waits (s := advanceTo e s) hfirst h
  have hbegins := fun b h => enterPriming_begins (b := b) (s := advanceTo e s) hassigned hd hfirst h
  generalize enterPriming z (advanceTo e s) = t at *
  rw [hword] at hwaits hbegins
  refine ⟨t, hexec, hwork.rest, hwork.mem, hwork.pages, hwork.programs, hwork.staging, hwork.other, ?_, fun ha hb => ?_,
    fun b vs w hfull hother hw => ?_⟩
  · cases hready : q.readyBuf first with
    | none => rw [(hwaits hready).1]
    | some b => rw [(hbegins b hready).1]; rfl
  · obtain ⟨h1, h2, h3⟩ := hwaits (readyBuf_of_none ha hb)
    rw [h1] at *
    exact ⟨rfl, rfl, rfl, h2, h3⟩
  · have hready : q.readyBuf first = some b := readyBuf_of_one (by rw [hfull]; simp [Buffer.holds]) hother
    obtain ⟨h1, h2, h3⟩ := hbegins b hready
    have hvec : ((q.buf b).vecs[0]?.map (·.drive)).getD 0 = w.drive := by
      rw [hfull]
      show (vs[0]?.map (·.drive)).getD 0 = _
      rw [hw]
      rfl
    refine ⟨by rw [h1]; rfl, by rw [h1]; rfl, by rw [h1]; rfl, by rw [h1]; rfl, by rw [h1]; rfl, by rw [h1]; rfl, ?_,
      by rw [h1]; rfl, by rw [h1]; rfl, ?_, h2, fun i => ?_⟩
    · rw [h1]
      exact hvec
    · rw [h1]
      exact congrArg (now + ·) (periodCycles_zero d.divN d.fracF)
    · rw [h3 i]
      by_cases hz : zoneOf i = z
      · rw [if_pos hz, if_neg (not_not_intro hz)]
        unfold joined
        simp only [eligible_iff]
        rfl
      · rw [if_neg hz, if_pos hz]
        rfl

end Sys2Proof.Proofs.Playback

/-! The end of a vector's period: the strobe sample and the vector that follows (R108 to R111, R129, R130). -/

namespace Sys2Proof.Proofs.Playback

open Sys2Proof.Machine Sys2Proof.Safety Sys2Proof.Proofs.Frames Sys2Proof.Proofs.Sequencing Sys2Proof.Proofs.Settings

section
variable {z : ZoneId} {s u : State} {v : Vec} {resp : Vector Byte 8}

/-! ## The strobe sample (R129, R130) -/

/-- A socket's pass after the strobe of a vector. -/
def sampledPass (z : ZoneId) (v : Vec) (resp : Vector Byte 8) (s : State) (i : SocketId) : Pass :=
  if zoneOf i = z ∧ v.strobe = true ∧ (s.sock i).pass.checked = true then
    strobePass (s.zone z).chk.mode (s.zone z).seq.ordinal v resp[placeOf i] (s.sock i).pass
  else (s.sock i).pass

/-- The state in which the period's strobe has been sampled, if the vector has one. -/
def sampledState (z : ZoneId) (v : Vec) (resp : Vector Byte 8) (s : State) : State :=
  { s with sockets := Vector.ofFn fun i => { s.sock i with pass := sampledPass z v resp s i } }

theorem strobePass_eq (mode : Option CheckMode) (n : Nat) (v : Vec) (r : Byte) (p : Pass) : strobePass mode n v r p =
    { p with
      count := if (r ^^^ v.expect) &&& v.mask = 0 then p.count else min 65535 (p.count + 1)
      first := if (r ^^^ v.expect) &&& v.mask ≠ 0 ∧ p.count = 0 then some ⟨n, (r ^^^ v.expect) &&& v.mask⟩ else p.first
      crc := if mode = some .signature ∨ mode = some .both then crcByte p.crc (r &&& v.mask) else p.crc
      lpc := if mode = some .signature ∨ mode = some .both then p.lpc ^^^ (r &&& v.mask) else p.lpc } := by
  unfold strobePass
  simp only
  generalize (r ^^^ v.expect) &&& v.mask = d
  by_cases hd : d = 0
  · simp only [hd, if_true, ne_eq, not_true_eq_false, false_and, if_false]
    split <;> rfl
  · simp only [hd, if_false, ne_eq, not_false_eq_true, true_and]
    split <;> rfl

theorem sampledState_sock (i : SocketId) :
    (sampledState z v resp s).sock i = { s.sock i with pass := sampledPass z v resp s i } := by
  unfold sampledState State.sock
  simp

theorem sampled_eq (z : ZoneId) (v : Vec) (resp : Vector Byte 8) (s : State) :
    (if v.strobe then strobeSample z v resp s else s) = sampledState z v resp s := by
  have hs : ∀ {w : State}, w = { s with sockets := w.sockets } → (∀ i, w.sock i = (sampledState z v resp s).sock i) →
      w = sampledState z v resp s := fun {w} h1 h2 => by
    rw [h1]
    unfold sampledState
    refine congrArg (fun k => { s with sockets := k }) (Vector.ext fun n hn => ?_)
    have h := h2 ⟨n, hn⟩
    rw [sampledState_sock] at h
    rw [Vector.getElem_ofFn]
    exact h
  by_cases hv : v.strobe = true
  · rw [if_pos hv]
    have hloop : strobeSample z v resp s = forEach (zoneSockets z) (fun i => modSock i fun k => { k with
        pass := if k.pass.checked then strobePass (s.zone z).chk.mode (s.zone z).seq.ordinal v resp[placeOf i] k.pass
          else k.pass }) s := rfl
    rw [hloop]
    refine hs (forEach_modSock_frame _ _ s) fun i => ?_
    rw [forEach_zoneSockets_sock, sampledState_sock]
    unfold sampledPass
    by_cases hz : zoneOf i = z
    · simp only [hz, hv, true_and, if_true]
    · simp only [hz, false_and, if_false]
  · rw [if_neg hv]
    refine hs rfl fun i => ?_
    rw [sampledState_sock]
    unfold sampledPass
    rw [if_neg fun h => hv h.2.1]

end

end Sys2Proof.Proofs.Playback

/-! The vector that follows: the loop, the next vector, the page change and the stall (R109 to R111). -/

namespace Sys2Proof.Proofs.Playback

open Sys2Proof.Machine Sys2Proof.Safety Sys2Proof.Proofs.Frames Sys2Proof.Proofs.Sequencing Sys2Proof.Proofs.Settings

section
variable {z : ZoneId} {s : State} {t w : PageTag} {vs : List Vec} {v : Vec} {d : Program} {m : Nat}

/-! ## Which vector follows -/

/-- The current vector loops back: repeats remain (R109). -/
abbrev Loops (d : Program) (v : Vec) (p : Play) : Prop := v.loopBack = true ∧ p.loop + 1 < d.loopRep

theorem loopTarget_of_not {n k : Nat} (h : ¬ (v.loopBack = true ∧ k + 1 < n)) : loopTarget n vs v k = none := by
  unfold loopTarget
  exact if_neg (by simpa using h)

theorem loopTarget_of {n k : Nat} {x : Vec} (h : v.loopBack = true ∧ k + 1 < n) (hm : vs[m]? = some x)
    (hx : x.loopMark = true) (hfirst : ∀ j < m, flagAt Vec.loopMark vs j = false) : loopTarget n vs v k = some m := by
  have hidx : loopMarkIdx vs = some m := by
    obtain ⟨hlt, rfl⟩ := List.getElem?_eq_some_iff.mp hm
    refine List.findIdx?_eq_some_iff_getElem.mpr ⟨hlt, hx, fun j hj => ?_⟩
    have h := hfirst j hj
    unfold flagAt at h
    rw [List.getElem?_eq_getElem (by omega)] at h
    simpa using h
  unfold loopTarget
  rw [if_pos (by simpa using h), hidx]

theorem lastPosition_eq (hd : s.program t.slot = some d) : s.lastPosition t = (t.pos + 1 == d.pages.length) := by
  unfold State.lastPosition
  rw [hd]

section
variable (hd : s.program t.slot = some d)
include hd

theorem nextVector_loops {x : Vec} (h : Loops d v (s.zone z).seq.play) (hm : vs[m]? = some x) (hx : x.loopMark = true)
    (hfirst : ∀ j < m, flagAt Vec.loopMark vs j = false) :
    nextVector z t vs v s = stepVec z m ((s.zone z).seq.play.loop + 1) s := by
  unfold nextVector
  simp only [hd, Option.map_some, Option.getD_some, loopTarget_of h hm hx hfirst]

theorem nextVector_goesOn (h : ¬ Loops d v (s.zone z).seq.play) : nextVector z t vs v s =
    if v.last = true ∨ (t.pos + 1 = d.pages.length ∧ vs.length ≤ (s.zone z).seq.play.idx + 1) then endPass z s
    else if (s.zone z).seq.play.idx + 1 < vs.length then
      stepVec z ((s.zone z).seq.play.idx + 1) (s.zone z).seq.play.loop s
    else pageChange z s := by
  unfold nextVector
  simp only [hd, Option.map_some, Option.getD_some, loopTarget_of_not h, lastPosition_eq hd, Bool.or_eq_true,
    Bool.and_eq_true, beq_iff_eq, decide_eq_true_eq]

theorem nextVector_ends (h : ¬ Loops d v (s.zone z).seq.play)
    (hend : v.last = true ∨ (t.pos + 1 = d.pages.length ∧ vs.length = (s.zone z).seq.play.idx + 1)) :
    nextVector z t vs v s = endPass z s :=
  (nextVector_goesOn hd h).trans (if_pos (hend.imp id fun h => ⟨h.1, h.2.le⟩))

theorem nextVector_steps (h : ¬ Loops d v (s.zone z).seq.play) (hl : v.last = false)
    (hlt : (s.zone z).seq.play.idx + 1 < vs.length) :
    nextVector z t vs v s = stepVec z ((s.zone z).seq.play.idx + 1) (s.zone z).seq.play.loop s :=
  (nextVector_goesOn hd h).trans ((if_neg (by simp only [hl, Bool.false_eq_true, false_or, not_and]; omega)).trans
    (if_pos hlt))

theorem nextVector_changes (h : ¬ Loops d v (s.zone z).seq.play) (hl : v.last = false)
    (hlen : vs.length = (s.zone z).seq.play.idx + 1) (hpos : ¬ t.pos + 1 = d.pages.length) :
    nextVector z t vs v s = pageChange z s :=
  (nextVector_goesOn hd h).trans ((if_neg (by simp only [hl, hpos, Bool.false_eq_true, false_and, or_self, not_false_eq_true])).trans
    (if_neg (by omega)))

end

/-! ## What each leaves -/

/-- The sequencer with a vector of a buffer on its lines, one period on. -/
def played (b : BufId) (idx loop : Nat) (w : Vec) (now : Nat) (q : Seq) : Seq :=
  { q with
    state := .playing, play := ⟨b, idx, loop⟩, drive := w.drive, ordinal := q.ordinal + 1, period := (q.period + 1) % 16
    periodEnd := now + periodCycles q.divN q.fracF ((q.period + 1) % 16) }

theorem applyVec_of {b : BufId} {idx loop now : Nat} {q : Seq} {x : Vec} (h : (q.buf b).vecs[idx]? = some x) :
    applyVec b idx loop now q =
      { q with play := ⟨b, idx, loop⟩, drive := x.drive, periodEnd := now + periodCycles q.divN q.fracF q.period } := by
  unfold applyVec
  rw [h]
  rfl

theorem stepVec_eq {idx loop : Nat} {x : Vec} (hst : (s.zone z).seq.state = .playing)
    (hx : ((s.zone z).seq.buf (s.zone z).seq.play.buf).vecs[idx]? = some x) :
    stepVec z idx loop s = modSeq z (played (s.zone z).seq.play.buf idx loop x s.now) s := by
  unfold stepVec modSeq modZone
  refine congrArg (fun q => { s with zones := s.zones.set z { s.zone z with seq := q } }) ?_
  refine (applyVec_of (q := { (s.zone z).seq with
    ordinal := (s.zone z).seq.ordinal + 1, period := ((s.zone z).seq.period + 1) % 16 }) hx).trans ?_
  unfold played
  rw [← hst]

theorem enterStalled_eq (z : ZoneId) (s : State) : enterStalled z s =
    modSeq z (fun q => { q with state := .stalled, void := some (q.void.getD .stall) }) s := rfl

/-- The next page is not yet full: the zone stalls (R111). -/
theorem pageChange_stalls (h : ∀ g ws, (s.zone z).seq.next = some g →
    (s.zone z).seq.buf (s.zone z).seq.play.buf.other ≠ .full g ws) : pageChange z s = enterStalled z s := by
  unfold pageChange
  simp only
  split
  · rename_i g hg
    refine if_neg fun hb => ?_
    cases hbuf : (s.zone z).seq.buf (s.zone z).seq.play.buf.other with
    | empty | filling => rw [hbuf] at hb; exact absurd hb Bool.false_ne_true
    | full g' ws =>
      rw [hbuf] at hb
      have hgg : g' = g := by simpa [Buffer.holds] using hb
      exact h g ws hg (hgg ▸ hbuf)
  · rfl

/-- The next page is full: play goes on in it at its vector 0 (R110). -/
theorem pageChange_plays {g : PageTag} {ws : List Vec} {x : Vec} (hg : (s.zone z).seq.next = some g)
    (hb : (s.zone z).seq.buf (s.zone z).seq.play.buf.other = .full g ws) (hx : ws[0]? = some x) :
    pageChange z s = chooseNext z (modSeq z (played (s.zone z).seq.play.buf.other 0 0 x s.now) s) := by
  have hvec : ((s.zone z).seq.buf (s.zone z).seq.play.buf.other).vecs[0]? = some x := by rw [hb]; exact hx
  unfold pageChange
  simp only [hg, hb, Buffer.holds, beq_self_eq_true, if_true]
  unfold changePage modSeq modZone
  refine congrArg (fun q => chooseNext z { s with zones := s.zones.set z { s.zone z with seq := q } }) ?_
  exact applyVec_of (q := { (s.zone z).seq with
    state := .playing, ordinal := (s.zone z).seq.ordinal + 1, period := ((s.zone z).seq.period + 1) % 16 }) hvec

theorem chooseNext_none (h : nextTag z s = none) : chooseNext z s = modSeq z (chosen none) s := by
  rw [chooseNext_eq, h]

/-- A page is to follow, and no fetch is under way in a zone that plays: its fetch starts (R105). -/
theorem chooseNext_starts (hst : (s.zone z).seq.state.inPass = true) (hf : (s.zone z).seq.fetch = none)
    (h : nextTag z s = some w) : ((chooseNext z s).zone z).seq =
      { (chosen (some w) (s.zone z).seq).setBuf (s.zone z).seq.play.buf.other (.filling w) with
        fetch := some { tag := w, target := (s.zone z).seq.play.buf.other, burst := 0, data := [] } } := by
  have hq : ((modSeq z (chosen (some w)) s).zone z).seq = chosen (some w) (s.zone z).seq := modSeq_seq_self z _ s
  have hframe := setBuf_frame (s.zone z).seq (s.zone z).seq.play.buf.other .empty
  have hplay : (chosen (some w) (s.zone z).seq).play = (s.zone z).seq.play := hframe.2.2
  have hstate : (chosen (some w) (s.zone z).seq).state = (s.zone z).seq.state := hframe.1
  have hbuf : (chosen (some w) (s.zone z).seq).buf (s.zone z).seq.play.buf.other = .empty :=
    (buf_setBuf _ _ _ _).trans (if_pos rfl)
  have heq : chooseNext z s = fetchWanted z (modSeq z (chosen (some w)) s) := by rw [chooseNext_eq, h]
  have hwanted : (modSeq z (chosen (some w)) s).wanted z = some w := by
    unfold State.wanted
    rw [hq, hstate]
    have hps : (s.zone z).seq.state = .playing ∨ (s.zone z).seq.state = .stalled := by simpa [SeqState.inPass] using hst
    rcases hps with hps | hps <;> rw [hps] <;> rfl
  have hheld : (modSeq z (chosen (some w)) s).held z w = false := by
    unfold State.held
    simp only [hq, hstate, hplay, hbuf, hst]
    rfl
  rw [heq, fetchWanted_starts hwanted hheld (by rw [hq]; exact hframe.2.1.trans hf), startFetch_zone, hq, hplay]

end

end Sys2Proof.Proofs.Playback

/-! The end of a vector's period within a pass (R108 to R111). -/

namespace Sys2Proof.Proofs.Playback

open Sys2Proof.Machine Sys2Proof.Safety Sys2Proof.Proofs.Frames Sys2Proof.Proofs.Sequencing

section
variable {z : ZoneId} {s : State} {tag : PageTag} {vs : List Vec} {v : Vec}

/-- The state at the end of the period, its strobe sampled. -/
abbrev periodEnded (z : ZoneId) (v : Vec) (resp : Vector Byte 8) (s : State) : State :=
  sampledState z v resp (advanceTo (s.zone z).seq.periodEnd s)

theorem exec_periodEnd (resp : Vector Byte 8) (hst : (s.zone z).seq.state = .playing)
    (hbuf : (s.zone z).seq.buf (s.zone z).seq.play.buf = .full tag vs) (hv : vs[(s.zone z).seq.play.idx]? = some v) :
    exec (.vectorPeriodEnd z resp) s = .next (nextVector z tag vs v (periodEnded z v resp s)) := by
  have hcur : (s.zone z).seq.current = some v := by
    unfold Seq.current
    rw [hbuf]
    exact hv
  show execVectorPeriodEnd z resp s = _
  unfold execVectorPeriodEnd periodEnded
  rw [← sampled_eq]
  simp only [hst, hbuf, hcur]

theorem periodEnded_zone (z : ZoneId) (v : Vec) (resp : Vector Byte 8) (s : State) (y : ZoneId) :
    (periodEnded z v resp s).zone y = s.zone y := by
  unfold periodEnded sampledState State.zone
  rfl

theorem periodEnded_store (z : ZoneId) (v : Vec) (resp : Vector Byte 8) (s : State) :
    (periodEnded z v resp s).store = s.store := by
  unfold periodEnded sampledState
  rfl

theorem periodEnded_now (z : ZoneId) (v : Vec) (resp : Vector Byte 8) (s : State) :
    (periodEnded z v resp s).now = max s.now (s.zone z).seq.periodEnd := by
  unfold periodEnded sampledState
  rfl

theorem sampledPass_eq (resp : Vector Byte 8) (i : SocketId) : sampledPass z v resp s i =
    if zoneOf i = z ∧ v.strobe = true ∧ (s.sock i).pass.checked = true then
      { (s.sock i).pass with
        count := if (resp[placeOf i] ^^^ v.expect) &&& v.mask = 0 then (s.sock i).pass.count
          else min 65535 ((s.sock i).pass.count + 1)
        first := if (resp[placeOf i] ^^^ v.expect) &&& v.mask ≠ 0 ∧ (s.sock i).pass.count = 0 then
            some ⟨(s.zone z).seq.ordinal, (resp[placeOf i] ^^^ v.expect) &&& v.mask⟩
          else (s.sock i).pass.first
        crc := if (s.zone z).chk.mode = some .signature ∨ (s.zone z).chk.mode = some .both then
            crcByte (s.sock i).pass.crc (resp[placeOf i] &&& v.mask) else (s.sock i).pass.crc
        lpc := if (s.zone z).chk.mode = some .signature ∨ (s.zone z).chk.mode = some .both then
            (s.sock i).pass.lpc ^^^ (resp[placeOf i] &&& v.mask) else (s.sock i).pass.lpc }
    else (s.sock i).pass := by
  unfold sampledPass
  rw [strobePass_eq]

/-- The state at the end of the period with the zone's sequencer changed. -/
theorem periodEnded_seq {f : SocketId → Pass} {resp : Vector Byte 8}
    (hf : ∀ i, f i = sampledPass z v resp (advanceTo (s.zone z).seq.periodEnd s) i) (q : Machine.Seq) :
    modSeq z (fun _ => q) (periodEnded z v resp s) = { s with
      sockets := Vector.ofFn fun i => { s.sock i with pass := f i }
      zones := s.zones.set z { s.zone z with seq := q }
      now := max s.now (s.zone z).seq.periodEnd } := by
  rw [funext hf]
  unfold periodEnded sampledState modSeq modZone State.zone State.sock
  rfl

theorem program_of_store {u : State} (h : u.store = s.store) (k : ProgId) : u.program k = s.program k := by
  unfold State.program
  rw [h]

theorem tagAt_of_store {u : State} (h : u.store = s.store) (k : ProgId) (n : Nat) : u.tagAt k n = s.tagAt k n := by
  unfold State.tagAt State.playedCount State.page
  rw [program_of_store h, h]

theorem zones_set {u : State} (h : ∀ y ≠ z, u.zone y = s.zone y) : u.zones = s.zones.set z (u.zone z) := by
  refine Vector.ext fun n hn => ?_
  rw [Vector.getElem_set]
  split
  · rename_i hz
    subst hz
    rfl
  · rename_i hz
    exact h ⟨n, hn⟩ fun hc => hz (congrArg Fin.val hc).symm

/-- A next page chosen leaves all but the zone's sequencer and the port. -/
theorem chooseNext_frame (z : ZoneId) (s : State) : chooseNext z s =
    { modSeq z (fun _ => ((chooseNext z s).zone z).seq) s with store := (chooseNext z s).store } := by
  have hwork := ZoneWork.chooseNext z s
  have hzones := zones_set hwork.other
  have hrest := hwork.rest
  have hsockets := chooseNext_sockets z s
  have hown := hwork.own
  rw [chooseNext_chk] at hown
  generalize chooseNext z s = t at *
  rw [hown] at hzones
  rw [hrest, hsockets, hzones]
  refine congrArg (fun q : Machine.Seq => ({ s with
    zones := s.zones.set z { s.zone z with seq := q }, store := t.store } : State)) ?_
  unfold State.zone
  simp

theorem modSeq_modSeq (f g : Machine.Seq → Machine.Seq) : modSeq z f (modSeq z g s) = modSeq z (fun q => f (g q)) s := by
  exact modZone_modZone z _ _ s

theorem chosen_none_buf (q : Machine.Seq) (c : BufId) : (chosen none q).buf c = q.buf c := by cases c <;> rfl

theorem chosen_buf (w : PageTag) (q : Machine.Seq) (c : BufId) : (chosen (some w) q).buf c =
    if c = q.play.buf.other then .empty else q.buf c := buf_setBuf _ _ _ _

theorem chooseNext_next (z : ZoneId) (s : State) : ((chooseNext z s).zone z).seq.next = nextTag z s := by
  rw [chooseNext_eq]
  split
  · rename_i h
    rw [modSeq_seq_self, h]
    rfl
  · rename_i t h
    have hf := fetchWanted_fetchOnly z (modSeq z (chosen (some t)) s)
    rw [hf, modSeq_seq_self, h]
    rfl

theorem firstTag_congr {u : State} (ha : (u.zone z).seq.assigned = (s.zone z).seq.assigned) (h : u.store = s.store) :
    u.firstTag z = s.firstTag z := by
  unfold State.firstTag State.assignedSlot
  rw [ha]
  simp only [tagAt_of_store h]

/-- The page after page `g`, which plays from now on (R105). -/
theorem nextTag_follows {g : PageTag} {ws : List Vec} {e : Program}
    (hbuf : (s.zone z).seq.buf (s.zone z).seq.play.buf = .full g ws) (he : s.program g.slot = some e) :
    (∀ pg, e.pages[g.pos + 1]? = some pg → nextTag z s = some ⟨g.slot, g.pos + 1, pg,
      if g.pos + 2 = e.pages.length then e.lastCount else (s.page pg).count.getD 0⟩) ∧
    (e.pages.length ≤ g.pos + 1 → nextTag z s = match (s.zone z).seq.staged with
      | some .noProgram => none
      | some (.slot p) => s.tagAt p 0
      | none => s.firstTag z) := by
  have hn : nextTag z s = if g.pos + 1 < e.pages.length then s.tagAt g.slot (g.pos + 1)
      else match (s.zone z).seq.staged with
        | some (.slot p) => s.tagAt p 0
        | some .noProgram => none
        | none => s.firstTag z := by
    unfold nextTag
    rw [hbuf]
    simp only [Buffer.tag?, he] <;> rfl
  refine ⟨fun pg hpg => ?_, fun hlen => ?_⟩
  · rw [hn, if_pos (List.getElem?_eq_some_iff.mp hpg).1]
    unfold State.tagAt State.playedCount
    rw [he]
    simp only [Option.bind_some, hpg, Option.map_some]
  · rw [hn, if_neg (by omega)]
    rcases (s.zone z).seq.staged with _ | _ | _ <;> rfl

/-- A page change to a full page in a zone with no fetch under way (R104, R105, R110). -/
theorem pageChange_facts {g : PageTag} {ws : List Vec} {x : Vec} (hg : (s.zone z).seq.next = some g)
    (hfull : (s.zone z).seq.buf (s.zone z).seq.play.buf.other = .full g ws) (hx : ws[0]? = some x)
    (hfetch : (s.zone z).seq.fetch = none) :
    ZoneWork z s (pageChange z s) ∧
    pageChange z s = { modSeq z (fun _ => ((pageChange z s).zone z).seq) s with store := (pageChange z s).store } ∧
    NextOnly (played (s.zone z).seq.play.buf.other 0 0 x s.now (s.zone z).seq) ((pageChange z s).zone z).seq ∧
    ((pageChange z s).zone z).seq.buf (s.zone z).seq.play.buf.other = .full g ws ∧
    ∀ e, s.program g.slot = some e →
      (∀ pg, e.pages[g.pos + 1]? = some pg → ((pageChange z s).zone z).seq.next = some ⟨g.slot, g.pos + 1, pg,
        if g.pos + 2 = e.pages.length then e.lastCount else (s.page pg).count.getD 0⟩) ∧
      (e.pages.length ≤ g.pos + 1 → ((pageChange z s).zone z).seq.next = match (s.zone z).seq.staged with
        | some .noProgram => none
        | some (.slot p) => s.tagAt p 0
        | none => s.firstTag z) ∧
      (e.pages.length ≤ g.pos + 1 → (s.zone z).seq.staged = some .noProgram →
        ((pageChange z s).zone z).seq.buf (s.zone z).seq.play.buf = (s.zone z).seq.buf (s.zone z).seq.play.buf) ∧
      ∀ w, ((pageChange z s).zone z).seq.next = some w →
        ((pageChange z s).zone z).seq.buf (s.zone z).seq.play.buf = .filling w ∧
        ((pageChange z s).zone z).seq.fetch =
          some { tag := w, target := (s.zone z).seq.play.buf, burst := 0, data := [] } := by
  have hplays := pageChange_plays hg hfull hx
  generalize hq : (s.zone z).seq = q at *
  have hs : ((modSeq z (played q.play.buf.other 0 0 x s.now) s).zone z).seq = played q.play.buf.other 0 0 x s.now q := by
    rw [modSeq_seq_self, hq]
  have hbufs : ∀ c, (played q.play.buf.other 0 0 x s.now q).buf c = q.buf c := fun c => by cases c <;> rfl
  have hback : ∀ q', modSeq z (fun _ => q') (modSeq z (played q.play.buf.other 0 0 x s.now) s) = modSeq z (fun _ => q') s :=
    fun q' => modSeq_modSeq _ _
  have hwork0 := ZoneWork.modSeq z (played q.play.buf.other 0 0 x s.now) s
  have hstore : (modSeq z (played q.play.buf.other 0 0 x s.now) s).store = s.store := rfl
  generalize modSeq z (played q.play.buf.other 0 0 x s.now) s = u at *
  have hprog := program_of_store hstore g.slot
  have hfirst : u.firstTag z = s.firstTag z := firstTag_congr (by rw [hs, hq]; rfl) hstore
  have hframe := chooseNext_frame z u
  have hwork := hwork0.trans (ZoneWork.chooseNext z u)
  have honly := chooseNext_nextOnly z u
  have hnext := chooseNext_next z u
  have hstarts := fun w h => chooseNext_starts (w := w) (s := u) (by rw [hs]; rfl) (by rw [hs]; exact hfetch) h
  have hstays := fun h => congrArg (fun t : State => (t.zone z).seq) (chooseNext_none (z := z) (s := u) h)
  have hfollows := fun e he => nextTag_follows (s := u) (z := z) (g := g) (ws := ws) (e := e)
    (by rw [hs]; exact (hbufs _).trans hfull) he
  simp only [modSeq_seq_self] at hstays
  rw [hback] at hframe
  rw [hs] at honly hstarts hstays
  rw [hplays]
  generalize chooseNext z u = t at *
  refine ⟨hwork, hframe, honly, ?_, fun e he => ⟨fun pg hpg => ?_, fun hlen => ?_, fun hlen hnp => ?_, fun w hw => ?_⟩⟩
  · cases hn : nextTag z u with
    | none =>
      rw [hstays hn, chosen_none_buf, hbufs]
      exact hfull
    | some w =>
      rw [hstarts w hn]
      refine (buf_setBuf _ _ _ _).trans ((if_neg (other_ne _).symm).trans ?_)
      refine (chosen_buf _ _ _).trans ((if_neg (other_ne _).symm).trans ?_)
      exact (hbufs _).trans hfull
  · rw [hnext, (hfollows e (hprog.trans he)).1 pg hpg]
    unfold State.page
    rw [hstore]
  · rw [hnext, (hfollows e (hprog.trans he)).2 hlen, hs]
    simp only [tagAt_of_store hstore, hfirst] <;> rfl
  · have hn := (hfollows e (hprog.trans he)).2 hlen
    rw [hs, show (played q.play.buf.other 0 0 x s.now q).staged = some .noProgram from hnp] at hn
    rw [hstays hn, chosen_none_buf, hbufs]
  · rw [hstarts w (hnext ▸ hw)]
    rw [show (played q.play.buf.other 0 0 x s.now q).play.buf.other = q.play.buf from other_other _]
    exact ⟨(buf_setBuf _ _ _ _).trans (if_pos rfl), rfl⟩

end

/-- Settles O54, in the order of R110: the loop, the next vector, the stall and the page change. -/
theorem vectorPeriodsPlayOn : Obligations.VectorPeriodsPlayOn := by
  unfold Obligations.VectorPeriodsPlayOn
  intro s z resp tag vs v d q hst hbuf hv hd now signed sampled k long applied loops lastPage goto
  have hexec := exec_periodEnd (s := s) resp hst hbuf hv
  have hgoto : ∀ q' : Machine.Seq, goto q' = modSeq z (fun _ => q') (periodEnded z v resp s) := fun q' => by
    exact (periodEnded_seq (fun i => (sampledPass_eq (s := advanceTo q.periodEnd s) resp i).symm) q').symm
  have hz := periodEnded_zone z v resp s
  have hstore := periodEnded_store z v resp s
  have hnow := periodEnded_now z v resp s
  clear_value goto
  generalize periodEnded z v resp s = u at *
  have hdu : u.program tag.slot = some d := (program_of_store hstore _).trans hd
  have hq : (u.zone z).seq = q := by rw [hz z]
  have happlied : ∀ b idx loop w, applied b idx loop w = played b idx loop w u.now q := fun b idx loop w => by
    rw [hnow]
    rfl
  clear_value applied
  have hto : ∀ f : Machine.Seq → Machine.Seq, modSeq z f u = goto (f q) := fun f => by
    rw [hgoto]
    unfold modSeq modZone
    simp only [hq]
  have hvecs : ((u.zone z).seq.buf (u.zone z).seq.play.buf).vecs = vs := by
    rw [hq, hbuf]
    rfl
  have hloops : Loops d v (u.zone z).seq.play = loops := by rw [hq]
  refine ⟨fun m w hl hw hm hfirst => ?_, fun w hl hlast hw => ?_, fun hl hlast hlen hpos => ⟨fun hno => ?_,
    fun g ws w hseq hg hfull hw => ?_⟩⟩
  · rw [hexec, nextVector_loops hdu (hloops ▸ hl) hw hm hfirst, stepVec_eq (by rw [hq]; exact hst) (by rw [hvecs]; exact hw),
      hto, happlied, hq]
  · have hlt : (u.zone z).seq.play.idx + 1 < vs.length := by
      rw [hq]
      exact (List.getElem?_eq_some_iff.mp hw).1
    rw [hexec, nextVector_steps hdu (hloops ▸ hl) hlast hlt, stepVec_eq (by rw [hq]; exact hst)
      (by rw [hvecs, hq]; exact hw), hto, happlied, hq]
  · have hchange := nextVector_changes hdu (hloops ▸ hl) hlast (by rw [hq]; exact hlen) hpos
    rw [hexec, hchange, pageChange_stalls (by rw [hq]; exact hno), enterStalled_eq, hto]
  · have hchange := nextVector_changes hdu (hloops ▸ hl) hlast (by rw [hq]; exact hlen) hpos
    have hfetch : q.fetch = none := by
      rw [Option.eq_none_iff_forall_ne_some]
      intro x hx
      obtain ⟨htarget, hopen⟩ := (hseq z).2 x hx
      rw [htarget, hfull] at hopen
      exact Bool.noConfusion hopen
    obtain ⟨hwork, hframe, honly, hkept, hfollows⟩ := pageChange_facts (s := u) (by rw [hq]; exact hg)
      (by rw [hq]; exact hfull) hw (by rw [hq]; exact hfetch)
    rw [hexec, hchange]
    rw [hq] at honly hkept hfollows
    generalize pageChange z u = t at *
    rw [hto] at hframe
    rw [← happlied] at honly
    refine ⟨t, rfl, honly, hkept, fun e he => ?_, hframe, hwork.mem.trans (by rw [hstore]), hwork.pages.trans (by rw [hstore]),
      hwork.programs.trans (by rw [hstore]), hwork.staging.trans (by rw [hstore])⟩
    obtain ⟨h1, h2, h3, h4⟩ := hfollows e ((program_of_store hstore _).trans he)
    refine ⟨fun pg hpg => (h1 pg hpg).trans ?_, fun hlen => (h2 hlen).trans ?_, h3, h4⟩
    · unfold State.page
      rw [hstore]
    · simp only [tagAt_of_store hstore, firstTag_congr (s := s) (u := u) (by rw [hz z]) hstore] <;> rfl

end Sys2Proof.Proofs.Playback

/-! The grant decision at the end of a transfer (R95 to R97). -/

namespace Sys2Proof.Proofs.Transfers

open Sys2Proof.Machine Sys2Proof.Safety Sys2Proof.Proofs.Frames Sys2Proof.Proofs.Sequencing Sys2Proof.Proofs.Settings

/-! ## The cyclic order (R96) -/

/-- How far a zone is behind a pointer in the cyclic order. -/
abbrev behind (p y : ZoneId) : Nat := (y.val + 3 - p.val) % 4

/-- The next zone is the nearest one that passes the test. -/
theorem nextZone_nearest {ptr y : ZoneId} {p : ZoneId → Bool} (hy : p y = true)
    (hmin : ∀ x, p x = true → behind ptr y ≤ behind ptr x) : nextZone ptr p = some y := by
  have hfirst : ∀ ptr y : ZoneId, behind ptr y ≤ behind ptr (ptr + 1) → y = ptr + 1 := by decide
  have hsecond : ∀ ptr y : ZoneId, behind ptr y ≤ behind ptr (ptr + 2) → y = ptr + 1 ∨ y = ptr + 2 := by decide
  have hthird : ∀ ptr y : ZoneId, behind ptr y ≤ behind ptr (ptr + 3) → y = ptr + 1 ∨ y = ptr + 2 ∨ y = ptr + 3 := by decide
  have hall : ∀ ptr y : ZoneId, y = ptr + 1 ∨ y = ptr + 2 ∨ y = ptr + 3 ∨ y = ptr := by decide
  have hne : ∀ {x}, p x ≠ true → y ≠ x := fun h hc => h (hc ▸ hy)
  unfold nextZone
  by_cases h1 : p (ptr + 1) = true
  · rw [List.find?_cons_of_pos h1, hfirst ptr y (hmin _ h1)]
  · rw [List.find?_cons_of_neg h1]
    by_cases h2 : p (ptr + 2) = true
    · rw [List.find?_cons_of_pos h2, (hsecond ptr y (hmin _ h2)).resolve_left (hne h1)]
    · rw [List.find?_cons_of_neg h2]
      by_cases h3 : p (ptr + 3) = true
      · rw [List.find?_cons_of_pos h3,
          ((hthird ptr y (hmin _ h3)).resolve_left (hne h1)).resolve_left (hne h2)]
      · have hp := (((hall ptr y).resolve_left (hne h1)).resolve_left (hne h2)).resolve_left (hne h3)
        rw [List.find?_cons_of_neg h3, ← hp, List.find?_cons_of_pos hy]

theorem nextZone_of_none {ptr : ZoneId} {p : ZoneId → Bool} (h : ∀ y, p y = false) : nextZone ptr p = none :=
  List.find?_eq_none.mpr fun y _ => by rw [h y]; decide

/-! ## The grant (R95, R96) -/

section
variable {s u : State} {y z : ZoneId}

/-- A fetch of a STALLED or PRIMING zone waits. -/
abbrev FirstClass (s : State) (y : ZoneId) : Prop := (s.zone y).seq.fetch.isSome = true ∧
  ((s.zone y).seq.state = .stalled ∨ (s.zone y).seq.state = .priming)

/-- A fetch of another zone waits. -/
abbrev ThirdClass (s : State) (y : ZoneId) : Prop := (s.zone y).seq.fetch.isSome = true ∧
  (s.zone y).seq.state ≠ .stalled ∧ (s.zone y).seq.state ≠ .priming

/-- The vectors of the zone's next burst. -/
abbrev nextBurst (s : State) (y : ZoneId) : Nat :=
  ((s.zone y).seq.fetch.map fun h => min 64 (h.tag.count - 64 * h.burst)).getD 0

/-- The store once its port is granted to a zone's fetcher. -/
abbrev toFetcher (s : State) (y : ZoneId) : Store := { s.store with
  port := some (.burst y), portEnd := s.now + nextBurst s y,
  waitCount := if s.store.staging.isSome then min 255 (s.store.waitCount + 1) else s.store.waitCount }

/-- The store once its port is granted to the writer. -/
abbrev toWriter (s : State) : Store := { s.store with
  port := some .staging, portEnd := s.now + (s.store.staging.map (·.vecs.length)).getD 0, waitCount := 0 }

section
variable (hp : s.store.port = none)
include hp

theorem first_iff (y : ZoneId) : (s.fetchWaits y && s.urgentZone y) = true ↔ FirstClass s y := by
  simp [State.fetchWaits, State.urgentZone, hp]

theorem third_iff (y : ZoneId) : (s.fetchWaits y && !s.urgentZone y) = true ↔ ThirdClass s y := by
  simp [State.fetchWaits, State.urgentZone, hp]

theorem stagingWaits_eq : s.stagingWaits = s.store.staging.isSome := by
  simp [State.stagingWaits, hp]

theorem grantFetch_store (y : ZoneId) : (grantFetch y s).store = toFetcher s y := by
  unfold grantFetch toFetcher
  rw [stagingWaits_eq hp]
  rfl

theorem arbitrate_first (hy : FirstClass s y) (hmin : ∀ x, FirstClass s x → behind s.store.ptr1 y ≤ behind s.store.ptr1 x) :
    (arbitrate s).store = { toFetcher s y with ptr1 := y } := by
  have hn := nextZone_nearest (ptr := s.store.ptr1) ((first_iff hp y).mpr hy) fun x hx => hmin x ((first_iff hp x).mp hx)
  unfold arbitrate
  rw [if_neg (by rw [hp]; decide), hn]
  simp only [modStore_store, grantFetch_store hp]

theorem arbitrate_later (hno : ∀ x, ¬ FirstClass s x) : arbitrate s =
    if s.store.staging.isSome && decide (4 ≤ s.store.waitCount) then grantStaging s else
    match nextZone s.store.ptr3 (fun z => s.fetchWaits z && !s.urgentZone z) with
    | some z => modStore (fun st => { st with ptr3 := z }) (grantFetch z s)
    | none => if s.store.staging.isSome then grantStaging s else s := by
  have hn : nextZone s.store.ptr1 (fun z => s.fetchWaits z && s.urgentZone z) = none :=
    nextZone_of_none fun x => Bool.eq_false_iff.mpr fun hx => hno x ((first_iff hp x).mp hx)
  unfold arbitrate
  rw [if_neg (by rw [hp]; decide), hn, stagingWaits_eq hp] <;> rfl

theorem arbitrate_writer (hno : ∀ x, ¬ FirstClass s x) (hst : s.store.staging.isSome = true) (hw : 4 ≤ s.store.waitCount) :
    (arbitrate s).store = toWriter s := by
  rw [arbitrate_later hp hno, if_pos (by simp [hst, hw])]
  rfl

theorem arbitrate_third (hno : ∀ x, ¬ FirstClass s x) (hw : s.store.staging = none ∨ s.store.waitCount < 4)
    (hy : ThirdClass s y) (hmin : ∀ x, ThirdClass s x → behind s.store.ptr3 y ≤ behind s.store.ptr3 x) :
    (arbitrate s).store = { toFetcher s y with ptr3 := y } := by
  have hn := nextZone_nearest (ptr := s.store.ptr3) ((third_iff hp y).mpr hy) fun x hx => hmin x ((third_iff hp x).mp hx)
  have hnow : ¬ (s.store.staging.isSome && decide (4 ≤ s.store.waitCount)) = true := by
    rcases hw with hw | hw
    · simp [hw]
    · simp [hw]
  rw [arbitrate_later hp hno, if_neg hnow, hn]
  simp only [modStore_store, grantFetch_store hp]

theorem arbitrate_last (hno : ∀ x, ¬ FirstClass s x ∧ ¬ ThirdClass s x) : (arbitrate s).store =
    if s.store.staging.isSome = true then toWriter s else s.store := by
  have hn : nextZone s.store.ptr3 (fun z => s.fetchWaits z && !s.urgentZone z) = none :=
    nextZone_of_none fun x => Bool.eq_false_iff.mpr fun hx => (hno x).2 ((third_iff hp x).mp hx)
  rw [arbitrate_later hp fun x => (hno x).1, hn]
  by_cases hst : s.store.staging.isSome = true
  · simp only [hst, if_true]
    split <;> rfl
  · simp only [hst, Bool.false_eq_true, Bool.false_and, if_false]

end

end

end Sys2Proof.Proofs.Transfers

/-! The end of a transfer: which parts of the state it leaves alone, and the grant that follows (R95 to R98). -/

namespace Sys2Proof.Proofs.Transfers

open Sys2Proof.Machine Sys2Proof.Safety Sys2Proof.Proofs.Frames Sys2Proof.Proofs.Sequencing Sys2Proof.Proofs.Settings
  Sys2Proof.Proofs.Playback

/-! ## A halt (R117) -/

/-- The sequencer record of a zone that halts. -/
def haltedSeq (p : PageId) (n : Nat) (w : BitVec 16) (q : Machine.Seq) : Machine.Seq :=
  { (if q.state.inPass then q.countVoid else q).emptied with
    state := .halted, gapTimer := none, halt := some (p, n), fetch := none, drive := w }

/-- The zone has halted, its notice apart. -/
def haltPlaced (z : ZoneId) (p : PageId) (n : Nat) (s : State) : State :=
  if (s.zone z).seq.state.inPass then closePass z (modSeq z (haltedSeq p n (s.idleWord z)) s)
  else modSeq z (haltedSeq p n (s.idleWord z)) s

theorem haltPlaced_work (z : ZoneId) (p : PageId) (n : Nat) (s : State) : ZoneWork z s (haltPlaced z p n s) := by
  have h := ZoneWork.modSeq z (haltedSeq p n (s.idleWord z)) s
  unfold haltPlaced
  split
  · exact h.trans (.closePass z _)
  · exact h

theorem zoneHalt_eq (z : ZoneId) (p : PageId) (n : Nat) (s : State) : zoneHalt z p n s = { haltPlaced z p n s with
    notices := urgentAfter ⟨.zone z, s.run.clock, .zoneHalt p n (s.zone z).seq.passNo (s.zone z).seq.state.inPass⟩
      s.notices } := by
  have h := haltPlaced_work z p n s
  have hz : zoneHalt z p n s = sendUrgent (.zone z) (.zoneHalt p n (s.zone z).seq.passNo (s.zone z).seq.state.inPass)
      (haltPlaced z p n s) := rfl
  rw [hz, Reports.sendUrgent_eq, show (haltPlaced z p n s).run.clock = s.run.clock by rw [h.run], h.notices]

/-! ## At a busy port nothing is granted (R95) -/

section
variable {z : ZoneId} {s : State} (h : s.store.port.isSome = true)
include h

theorem startFetch_store (t : PageTag) : (startFetch z t s).store = s.store := by
  unfold startFetch
  rw [Loading.arbitrate_of_port (by exact h)]
  rfl

theorem fetchWanted_store : (fetchWanted z s).store = s.store := by
  unfold fetchWanted
  split
  · split
    · rfl
    · split
      · split <;> rfl
      · exact startFetch_store h _
  · rfl

theorem chooseNext_store : (chooseNext z s).store = s.store := by
  rw [chooseNext_eq]
  split
  · rfl
  · exact fetchWanted_store (s := modSeq z (chosen _) s) h

omit h in
theorem joinPass_store (z : ZoneId) (n : Nat) (p : ProgId) (s : State) : (joinPass z n p s).store = s.store := by
  unfold joinPass
  rw [forEach_sock_of (F := fun _ i k => { k with pass := joined k }) joinOne_eq (fun _ _ _ => rfl),
    forEach_modSock_frame]
  rfl

omit h in
theorem closePass_store (z : ZoneId) (s : State) : (closePass z s).store = s.store := by
  rw [(closePass_eq z s).1]
  rfl

theorem passStart_store (b : BufId) : (passStart z b s).store = s.store := by
  unfold passStart
  split
  · rfl
  · rw [chooseNext_store, joinPass_store]
    · rfl
    · rw [joinPass_store]
      exact h

theorem changePage_store (b : BufId) : (changePage z b s).store = s.store :=
  chooseNext_store (s := modSeq z _ s) h

omit h in
theorem zoneHalt_store (z : ZoneId) (p : PageId) (n : Nat) (s : State) : (zoneHalt z p n s).store = s.store := by
  rw [zoneHalt_eq]
  unfold haltPlaced
  show State.store (if _ then _ else _) = _
  split
  · rw [closePass_store]
    rfl
  · rfl

theorem fetchGood_store (f : Fetch) (vs : List Vec) : (fetchGood z f vs s).store = s.store := by
  rw [fetchGood_eq]
  split
  · split
    · exact changePage_store (s := filled z f vs s) h _
    · exact passStart_store (s := filled z f vs s) h _
    · rfl
  · exact fetchWanted_store (s := dropped z f s) h

theorem burstRead_store (f : Fetch) (wrong : List (Nat × Slot)) : (burstRead z f wrong s).store = s.store := by
  obtain ⟨idx, hb⟩ | ⟨vs, hb⟩ | ⟨d, hb⟩ := burstRead_cases z f wrong s <;> rw [hb]
  · exact zoneHalt_store _ _ _ _
  · exact fetchGood_store h _ _
  · rfl

end

/-! ## What a transfer leaves alone -/

theorem ZoneWork.fetchGood (z : ZoneId) (f : Fetch) (vs : List Vec) (s : State) : ZoneWork z s (fetchGood z f vs s) := by
  have hf : ZoneWork z s (filled z f vs s) := (ZoneWork.modSeq z _ s).trans (.modSeq z _ _)
  have hd : ZoneWork z s (dropped z f s) := (ZoneWork.modSeq z _ s).trans (.modSeq z _ _)
  rw [fetchGood_eq]
  split
  · split
    · exact hf.trans (.changePage z _ _)
    · exact hf.trans (.passStart z _ _)
    · exact hf
  · exact hd.trans (.fetchWanted z _)

/-- The parts of a state that no transfer at the port touches. -/
structure Aside (s t : State) : Prop where
  run : t.run = s.run
  link : t.link = s.link
  straps : t.straps = s.straps
  now : t.now = s.now
  draws : t.freeDraws = s.freeDraws
  pending : t.pending = s.pending

theorem Aside.of_work {z : ZoneId} {s t : State} (h : ZoneWork z s t) : Aside s t :=
  ⟨h.run, h.link, h.straps, h.now, h.draws, h.pending⟩

theorem zoneHalt_aside (z : ZoneId) (p : PageId) (n : Nat) (s : State) : Aside s (zoneHalt z p n s) := by
  have h := haltPlaced_work z p n s
  rw [zoneHalt_eq]
  exact ⟨h.run, h.link, h.straps, h.now, h.draws, h.pending⟩

theorem burstRead_aside (z : ZoneId) (f : Fetch) (wrong : List (Nat × Slot)) (s : State) : Aside s (burstRead z f wrong s) := by
  obtain ⟨idx, hb⟩ | ⟨vs, hb⟩ | ⟨d, hb⟩ := burstRead_cases z f wrong s <;> rw [hb]
  · exact zoneHalt_aside _ _ _ _
  · exact .of_work (ZoneWork.fetchGood z f vs s)
  · exact .of_work (.modSeq z _ s)

/-! ## The port falls free (R95) -/

theorem releasePort_eq (s : State) : releasePort s = { s with store := (releasePort s).store } := by
  obtain ⟨p, e, w, a, b, h⟩ := arbitrate_frame (modStore (fun st => { st with port := none }) s)
  unfold releasePort
  rw [h]
  rfl

theorem releasePort_zone (s : State) (y : ZoneId) : (releasePort s).zone y = s.zone y := by
  rw [releasePort_eq]
  rfl

theorem releasePort_loaded (s : State) : (releasePort s).store.mem = s.store.mem ∧
    (releasePort s).store.staging = s.store.staging ∧ (releasePort s).store.pages = s.store.pages ∧
    (releasePort s).store.programs = s.store.programs := by
  unfold releasePort
  rw [arbitrate_mem, arbitrate_staging, arbitrate_pages, arbitrate_programs]
  exact ⟨rfl, rfl, rfl, rfl⟩

/-- The grant after a transfer, by the four classes. -/
theorem releasePort_grants (s : State) :
    (∀ y, FirstClass s y → (∀ x, FirstClass s x → behind s.store.ptr1 y ≤ behind s.store.ptr1 x) →
      (releasePort s).store = { toFetcher s y with ptr1 := y }) ∧
    ((∀ y, ¬ FirstClass s y) → s.store.staging.isSome = true → 4 ≤ s.store.waitCount → (releasePort s).store = toWriter s) ∧
    (∀ y, (∀ x, ¬ FirstClass s x) → s.store.staging = none ∨ s.store.waitCount < 4 → ThirdClass s y →
      (∀ x, ThirdClass s x → behind s.store.ptr3 y ≤ behind s.store.ptr3 x) →
      (releasePort s).store = { toFetcher s y with ptr3 := y }) ∧
    ((∀ y, ¬ FirstClass s y ∧ ¬ ThirdClass s y) → s.store.staging.isSome = true → (releasePort s).store = toWriter s) ∧
    ((∀ y, ¬ FirstClass s y ∧ ¬ ThirdClass s y) → s.store.staging = none →
      (releasePort s).store = { s.store with port := none }) := by
  have hp : (modStore (fun st => { st with port := none }) s).store.port = none := rfl
  refine ⟨fun y hy hmin => arbitrate_first hp hy hmin, fun hno hst hw => arbitrate_writer hp hno hst hw,
    fun y hno hw hy hmin => arbitrate_third hp hno hw hy hmin, fun hno hst => (arbitrate_last hp hno).trans (if_pos hst),
    fun hno hst => (arbitrate_last hp hno).trans (if_neg ?_)⟩
  show ¬ s.store.staging.isSome = true
  rw [hst]
  decide

end Sys2Proof.Proofs.Transfers

/-! The grant after every transfer (R95 to R97). -/

namespace Sys2Proof.Proofs.Transfers

open Sys2Proof.Machine Sys2Proof.Safety Sys2Proof.Proofs.Frames Sys2Proof.Proofs.Sequencing

section
variable {z : ZoneId} {s : State} {f : Fetch} {c : Chunk}

theorem exec_burstDone (wrong : List (Nat × Slot)) (hp : s.store.port = some (.burst z))
    (hf : (s.zone z).seq.fetch = some f) : exec (.fetchBurstDone wrong) s =
      .next (releasePort (burstRead z f wrong (advanceTo s.store.portEnd s))) := by
  have hf' : ((advanceTo s.store.portEnd s).zone z).seq.fetch = some f := hf
  show execFetchBurstDone wrong s = _
  unfold execFetchBurstDone
  rw [hp]
  simp only [hf']

theorem exec_stagingDone (hp : s.store.port = some .staging) (hc : s.store.staging = some c) :
    exec .stagingWriteDone s = .next (releasePort (modStore (writeChunk c) (advanceTo s.store.portEnd s))) := by
  show execStagingWriteDone s = _
  unfold execStagingWriteDone
  rw [hp, hc]

/-- The state when a transfer ends, before the port is granted. -/
structure Ended (s u : State) : Prop where
  aside : Aside (advanceTo s.store.portEnd s) u
  store : u.store = { s.store with mem := u.store.mem, staging := u.store.staging }

/-- What the grant after a transfer leaves. -/
theorem Ended.granted {u : State} (h : Ended s u) : releasePort u = { s with
      store := (releasePort u).store, zones := u.zones, sockets := u.sockets, notices := u.notices
      now := max s.now s.store.portEnd } ∧
    { s.store with mem := (releasePort u).store.mem, staging := (releasePort u).store.staging } = u.store := by
  obtain ⟨⟨h1, h2, h3, h4, h5, h6⟩, hs⟩ := h
  obtain ⟨g1, g2, -, -⟩ := releasePort_loaded u
  refine ⟨?_, by rw [g1, g2]; exact hs.symm⟩
  refine (releasePort_eq u).trans ?_
  rw [show u.run = s.run from h1, show u.link = s.link from h2, show u.straps = s.straps from h3,
    show u.now = max s.now s.store.portEnd from h4, show u.freeDraws = s.freeDraws from h5,
    show u.pending = s.pending from h6]

end

/-- Settles O53, by the four classes. -/
theorem portGrantsByClass : Obligations.PortGrantsByClass := by
  unfold Obligations.PortGrantsByClass
  intro s c hc now dist
  have hended : ∃ u, exec c s = .next (releasePort u) ∧ Ended s u ∧
      (c = .stagingWriteDone → u.zones = s.zones ∧ u.sockets = s.sockets ∧ u.notices = s.notices ∧
        u.store.staging = none) ∧
      (c ≠ .stagingWriteDone → u.store.mem = s.store.mem ∧ u.store.staging = s.store.staging) := by
    obtain ⟨z, wrong, rfl, hp, hf⟩ | ⟨rfl, hp, hst⟩ := hc
    · obtain ⟨f, hf⟩ := Option.isSome_iff_exists.mp hf
      have hstore := burstRead_store (z := z) (s := advanceTo s.store.portEnd s) (by rw [advanceTo_store, hp]; rfl) f wrong
      rw [advanceTo_store] at hstore
      exact ⟨_, exec_burstDone wrong hp hf, ⟨burstRead_aside _ _ _ _, by rw [hstore]⟩, fun h => absurd h (by simp),
        fun _ => by rw [hstore]; exact ⟨rfl, rfl⟩⟩
    · obtain ⟨x, hx⟩ := Option.isSome_iff_exists.mp hst
      exact ⟨_, exec_stagingDone hp hx, ⟨⟨rfl, rfl, rfl, rfl, rfl, rfl⟩, rfl⟩, fun _ => ⟨rfl, rfl, rfl, rfl⟩,
        fun h => absurd rfl h⟩
  obtain ⟨u, hexec, hu, hstaging, hburst⟩ := hended
  obtain ⟨hwhole, hleft⟩ := hu.granted
  obtain ⟨hmem, hst, -, -⟩ := releasePort_loaded u
  have hgrants := releasePort_grants u
  have hzone : ∀ y, (releasePort u).zone y = u.zone y := releasePort_zone u
  have hnow : u.now = now := hu.aside.now
  generalize releasePort u = t at *
  refine ⟨t, hexec, ?_, fun h => ?_, fun h => ?_, ?_⟩
  · exact hwhole.trans (by rw [show t.zones = u.zones by rw [hwhole], show t.sockets = u.sockets by rw [hwhole],
      show t.notices = u.notices by rw [hwhole]])
  · obtain ⟨h1, h2, h3, h4⟩ := hstaging h
    exact ⟨(congrArg (·.zones) hwhole).trans h1, (congrArg (·.sockets) hwhole).trans h2,
      (congrArg (·.notices) hwhole).trans h3, hst.trans h4⟩
  · obtain ⟨h1, h2⟩ := hburst h
    exact ⟨hmem.trans h1, hst.trans h2⟩
  · intro first third size left writer fetcher
    have hl : left = u.store := hleft
    have hport : s.store.waitCount = u.store.waitCount ∧ s.store.ptr1 = u.store.ptr1 ∧ s.store.ptr3 = u.store.ptr3 := by
      rw [hu.store]
      exact ⟨rfl, rfl, rfl⟩
    obtain ⟨hwait, hptr1, hptr3⟩ := hport
    have hfirst : ∀ y, first y = FirstClass u y := fun y => by
      unfold FirstClass
      rw [← hzone y]
    have hthird : ∀ y, third y = ThirdClass u y := fun y => by
      unfold ThirdClass
      rw [← hzone y]
    have hwriter : writer = toWriter u := by
      unfold toWriter
      rw [← hl, hnow]
    have hfetcher : ∀ y, fetcher y = toFetcher u y := fun y => by
      unfold toFetcher nextBurst
      rw [← hl, hnow, ← hzone y]
    clear_value first third writer fetcher left
    simp only [hfirst, hthird, hwriter, hfetcher, hwait, hptr1, hptr3, hst, hl]
    exact hgrants

end Sys2Proof.Proofs.Transfers

/-! The end of a burst: bad parity, the next burst, and the end of a fetch (R97, R98, R105 to R107, R117). -/

namespace Sys2Proof.Proofs.Transfers

open Sys2Proof.Machine Sys2Proof.Safety Sys2Proof.Proofs.Frames Sys2Proof.Proofs.Sequencing Sys2Proof.Proofs.Playback

section
variable {z : ZoneId} {s : State} {f : Fetch} {vs : List Vec} {w : PageTag}

/-! ## The parity test (R98) -/

/-- The slots a burst reads. -/
def burstSlots (f : Fetch) (wrong : List (Nat × Slot)) (s : State) : List Slot :=
  (List.range (burstLen f.tag.count f.burst)).map fun k => readSlot wrong s.store.mem f.tag.page (64 * f.burst + k)

theorem burstRead_eq (wrong : List (Nat × Slot)) : burstRead z f wrong s =
    match firstParityError (burstSlots f wrong s) (64 * f.burst) with
    | some idx => zoneHalt z f.tag.page idx s
    | none =>
      if f.tag.count ≤ 64 * f.burst + 64 then fetchGood z f (f.data ++ (burstSlots f wrong s).map vecOf) s
      else modSeq z (fun q => { q with
        fetch := some { f with burst := f.burst + 1, data := f.data ++ (burstSlots f wrong s).map vecOf } }) s := rfl

theorem burstRead_bad {wrong : List (Nat × Slot)} {idx : Nat}
    (hlt : idx < 64 * f.burst + (burstSlots f wrong s).length) (hge : 64 * f.burst ≤ idx)
    (hbad : parityBad (readSlot wrong s.store.mem f.tag.page idx) = true)
    (hfirst : ∀ k, 64 * f.burst ≤ k → k < idx → parityBad (readSlot wrong s.store.mem f.tag.page k) = false) :
    burstRead z f wrong s = zoneHalt z f.tag.page idx s := by
  have hget : ∀ k (hk : k < (burstSlots f wrong s).length),
      (burstSlots f wrong s)[k] = readSlot wrong s.store.mem f.tag.page (64 * f.burst + k) := fun k hk => by
    simp only [burstSlots, List.getElem_map, List.getElem_range]
  have hidx : firstParityError (burstSlots f wrong s) (64 * f.burst) = some idx := by
    have hfind : (burstSlots f wrong s).findIdx? parityBad = some (idx - 64 * f.burst) := by
      refine List.findIdx?_eq_some_iff_getElem.mpr ⟨by omega, ?_, fun j hj => ?_⟩
      · rw [hget, show 64 * f.burst + (idx - 64 * f.burst) = idx by omega]
        exact hbad
      · rw [hget, hfirst _ (by omega) (by omega)]
        decide
    unfold firstParityError
    rw [hfind, Option.map_some, Nat.sub_add_cancel hge]
  rw [burstRead_eq, hidx]

theorem burstRead_good {wrong : List (Nat × Slot)} (h : ∀ x ∈ burstSlots f wrong s, parityBad x = false) :
    burstRead z f wrong s =
      if f.tag.count ≤ 64 * f.burst + 64 then fetchGood z f (f.data ++ (burstSlots f wrong s).map vecOf) s
      else modSeq z (fun q => { q with
        fetch := some { f with burst := f.burst + 1, data := f.data ++ (burstSlots f wrong s).map vecOf } }) s := by
  have hno : firstParityError (burstSlots f wrong s) (64 * f.burst) = none := by
    unfold firstParityError
    rw [List.findIdx?_eq_none_iff.mpr h, Option.map_none]
  rw [burstRead_eq, hno]

/-! ## A halt (R117) -/

theorem haltPlaced_facts (z : ZoneId) (p : PageId) (n : Nat) (s : State) :
    ((haltPlaced z p n s).zone z).seq = haltedSeq p n (s.idleWord z) (s.zone z).seq ∧
    ((haltPlaced z p n s).zone z).chk =
      (if (s.zone z).seq.state.inPass then { (s.zone z).chk with opened := false } else (s.zone z).chk) ∧
    ∀ i, zoneOf i = z → ((haltPlaced z p n s).sock i).pass =
      if (s.zone z).seq.state.inPass then { (s.sock i).pass with checked := false } else (s.sock i).pass := by
  have hseq : ((modSeq z (haltedSeq p n (s.idleWord z)) s).zone z) =
      { s.zone z with seq := haltedSeq p n (s.idleWord z) (s.zone z).seq } := modZone_zone_self z _ s
  unfold haltPlaced
  by_cases hp : (s.zone z).seq.state.inPass = true
  · obtain ⟨h1, h2⟩ := closePass_eq z (modSeq z (haltedSeq p n (s.idleWord z)) s)
    have hz : (closePass z (modSeq z (haltedSeq p n (s.idleWord z)) s)).zone z =
        { s.zone z with seq := haltedSeq p n (s.idleWord z) (s.zone z).seq, chk := { (s.zone z).chk with opened := false } } := by
      rw [h1]
      refine (modZone_zone_self z (fun k => { k with chk := { k.chk with opened := false } }) _).trans ?_
      rw [hseq]
    simp only [hp, if_true]
    refine ⟨by rw [hz], by rw [hz], fun i hi => ?_⟩
    rw [h2, if_pos hi]
    rfl
  · simp only [hp, Bool.false_eq_true, if_false]
    exact ⟨by rw [hseq], by rw [hseq], fun i _ => rfl⟩

/-! ## The end of a fetch (R106) -/

theorem filled_work (z : ZoneId) (f : Fetch) (vs : List Vec) (s : State) : ZoneWork z s (filled z f vs s) :=
  (ZoneWork.modSeq z _ s).trans (.modSeq z _ _)

theorem filled_state : ((filled z f vs s).zone z).seq.state = (s.zone z).seq.state := by
  rw [filled_seq]
  exact (setBuf_frame _ _ _).1

theorem fetchGood_filled (hw : s.wanted z = some f.tag) (h1 : (s.zone z).seq.state ≠ .stalled)
    (h2 : (s.zone z).seq.state ≠ .priming) : fetchGood z f vs s = filled z f vs s := by
  rw [fetchGood_eq, if_pos hw, filled_state]
  split
  · exact absurd ‹_› h1
  · exact absurd ‹_› h2
  · rfl

theorem fetchGood_priming (hw : s.wanted z = some f.tag) (h : (s.zone z).seq.state = .priming) :
    fetchGood z f vs s = passStart z f.target (filled z f vs s) := by
  rw [fetchGood_eq, if_pos hw, filled_state, h]

theorem fetchGood_stalled (hw : s.wanted z = some f.tag) (h : (s.zone z).seq.state = .stalled) :
    fetchGood z f vs s = changePage z f.target (filled z f vs s) := by
  rw [fetchGood_eq, if_pos hw, filled_state, h]

theorem fetchGood_dropped (hw : s.wanted z ≠ some f.tag) :
    fetchGood z f vs s = fetchWanted z (dropped z f s) := by
  rw [fetchGood_eq, if_neg hw]

end

end Sys2Proof.Proofs.Transfers

/-! The end of a fetch by the zone's state (R105 to R107, R110), and the end of every burst. -/

namespace Sys2Proof.Proofs.Transfers

open Sys2Proof.Machine Sys2Proof.Safety Sys2Proof.Proofs.Frames Sys2Proof.Proofs.Sequencing Sys2Proof.Proofs.Playback

section
variable {z : ZoneId} {s : State} {f : Fetch} {vs : List Vec} {w : PageTag}

theorem filled_buffers : ((filled z f vs s).zone z).seq =
    { (s.zone z).seq.setBuf f.target (.full f.tag vs) with fetch := none } := by
  rw [filled_seq]
  cases f.target <;> rfl

/-- The sequencer of a zone whose fetched page is not wanted. -/
def unwanted (f : Fetch) (q : Machine.Seq) : Machine.Seq :=
  { (if q.buf f.target = .filling f.tag then q.setBuf f.target .empty else q) with fetch := none }

theorem dropped_seq : ((dropped z f s).zone z).seq = unwanted f (s.zone z).seq := by
  have hbuf : (noFetch (s.zone z).seq).buf f.target = (s.zone z).seq.buf f.target := by cases f.target <;> rfl
  unfold dropped unwanted
  rw [modSeq_seq_self, modSeq_seq_self, hbuf]
  split
  · cases f.target <;> rfl
  · rfl

theorem unwanted_frame (f : Fetch) (q : Machine.Seq) : (unwanted f q).state = q.state ∧ (unwanted f q).next = q.next ∧
    (unwanted f q).play = q.play ∧ (unwanted f q).assigned = q.assigned := by
  unfold unwanted
  split
  · cases f.target <;> exact ⟨rfl, rfl, rfl, rfl⟩
  · exact ⟨rfl, rfl, rfl, rfl⟩

theorem dropped_wanted : (dropped z f s).wanted z = s.wanted z := by
  obtain ⟨h1, h2, -, h4⟩ := unwanted_frame f (s.zone z).seq
  have hfirst : (dropped z f s).firstTag z = s.firstTag z := firstTag_congr (by rw [dropped_seq]; exact h4) rfl
  unfold State.wanted
  rw [dropped_seq, h1, h2, hfirst]

/-- The zone's fetch is of a page that is not wanted: it is dropped, and the wanted page's fetch starts (R105, R106). -/
theorem fetchGood_unwanted (hw : s.wanted z ≠ some f.tag) :
    (s.wanted z = none → ((fetchGood z f vs s).zone z).seq = unwanted f (s.zone z).seq) ∧
    ∀ w, s.wanted z = some w →
      ((dropped z f s).held z w = true → ((fetchGood z f vs s).zone z).seq = unwanted f (s.zone z).seq) ∧
      ((dropped z f s).held z w = false → ((fetchGood z f vs s).zone z).seq =
        { (unwanted f (s.zone z).seq).setBuf (s.zone z).seq.play.buf.other (.filling w) with
          fetch := some { tag := w, target := (s.zone z).seq.play.buf.other, burst := 0, data := [] } }) := by
  have hplay := (unwanted_frame f (s.zone z).seq).2.2.1
  have hfetch : ((dropped z f s).zone z).seq.fetch = none := by rw [dropped_seq]; rfl
  rw [fetchGood_dropped hw]
  refine ⟨fun h => ?_, fun w h => ⟨fun hh => ?_, fun hh => ?_⟩⟩
  · rw [fetchWanted_none (dropped_wanted.trans h), dropped_seq]
  · rw [fetchWanted_held (dropped_wanted.trans h) hh, dropped_seq]
  · rw [fetchWanted_starts (dropped_wanted.trans h) hh hfetch, startFetch_zone, dropped_seq, hplay]

theorem dropped_held (w : PageTag) : (dropped z f s).held z w =
    (((unwanted f (s.zone z).seq).buf (s.zone z).seq.play.buf.other).holds w ||
      (!(s.zone z).seq.state.inPass && ((unwanted f (s.zone z).seq).buf (s.zone z).seq.play.buf).holds w)) := by
  obtain ⟨h1, -, h3, -⟩ := unwanted_frame f (s.zone z).seq
  unfold State.held
  simp only [dropped_seq, h1, h3]

/-- A first page there is, so a program that is defined is assigned. -/
theorem firstTag_program (h : s.firstTag z = some w) : ∃ k d, (s.zone z).seq.assigned = some (.slot k) ∧
    s.program k = some d := by
  unfold State.firstTag at h
  obtain ⟨k, hk, ht⟩ := Option.bind_eq_some_iff.mp h
  unfold State.tagAt at ht
  obtain ⟨d, hd, -⟩ := Option.bind_eq_some_iff.mp ht
  refine ⟨k, d, ?_, hd⟩
  unfold State.assignedSlot at hk
  split at hk
  · rename_i p hp
    rw [hp, Option.some.inj hk]
  · exact absurd hk (by simp)

/-- The wanted page of a PRIMING zone has come: its pass starts (R107). -/
theorem fetchGood_begins (hst : (s.zone z).seq.state = .priming) (hw : s.firstTag z = some f.tag) :
    ∃ d, NextOnly (begun f.target d s.now { (s.zone z).seq.setBuf f.target (.full f.tag vs) with fetch := none })
        ((fetchGood z f vs s).zone z).seq ∧
      ((fetchGood z f vs s).zone z).chk.opened = true := by
  obtain ⟨k, d, ha, hd⟩ := firstTag_program hw
  have hassigned : ((filled z f vs s).zone z).seq.assigned = some (.slot k) := by
    rw [filled_buffers, ← ha]
    cases f.target <;> rfl
  obtain ⟨h1, h2, -⟩ := passStart_facts (s := filled z f vs s) f.target hassigned hd
  rw [fetchGood_priming (by unfold State.wanted; rw [hst]; exact hw) hst]
  rw [filled_buffers] at h1
  exact ⟨d, h1, by rw [h2]⟩

/-- The next page of a STALLED zone has come: its pass goes on (R110, R111). -/
theorem fetchGood_resumes (hst : (s.zone z).seq.state = .stalled) (hw : (s.zone z).seq.next = some f.tag) :
    NextOnly (applyVec f.target 0 0 s.now { (s.zone z).seq.setBuf f.target (.full f.tag vs) with
        fetch := none, state := .playing, ordinal := (s.zone z).seq.ordinal + 1, period := ((s.zone z).seq.period + 1) % 16 })
      ((fetchGood z f vs s).zone z).seq := by
  have h := chooseNext_nextOnly z (modSeq z (fun q => applyVec f.target 0 0 s.now
    { q with state := .playing, ordinal := q.ordinal + 1, period := (q.period + 1) % 16 }) (filled z f vs s))
  rw [modSeq_seq_self, filled_buffers] at h
  rw [fetchGood_stalled (by unfold State.wanted; rw [hst]; exact hw) hst]
  refine Eq.trans (b := _) h ?_
  cases f.target <;> rfl

end

end Sys2Proof.Proofs.Transfers

/-! Fetch bursts (R97, R98, R105 to R107, R117). -/

namespace Sys2Proof.Proofs.Transfers

open Sys2Proof.Machine Sys2Proof.Safety Sys2Proof.Proofs.Frames Sys2Proof.Proofs.Sequencing Sys2Proof.Proofs.Playback

section
variable {z : ZoneId} {s : State} {f : Fetch}

/-- A burst works on its zone alone, its notice apart. -/
theorem burstRead_work (z : ZoneId) (f : Fetch) (wrong : List (Nat × Slot)) (s : State) :
    ∃ v, ZoneWork z s v ∧ burstRead z f wrong s = { v with notices := (burstRead z f wrong s).notices } := by
  obtain ⟨idx, hb⟩ | ⟨vs, hb⟩ | ⟨d, hb⟩ := burstRead_cases z f wrong s <;> rw [hb]
  · exact ⟨_, haltPlaced_work z f.tag.page idx s, by rw [zoneHalt_eq]⟩
  · exact ⟨_, ZoneWork.fetchGood z f vs s, rfl⟩
  · exact ⟨_, .modSeq z (fun q => { q with fetch := some { f with burst := f.burst + 1, data := d } }) s, rfl⟩

theorem haltedSeq_frame (p : PageId) (n : Nat) (w : BitVec 16) (q : Machine.Seq) :
    (haltedSeq p n w q).passNo = q.passNo ∧ (haltedSeq p n w q).assigned = q.assigned ∧
    (haltedSeq p n w q).staged = q.staged ∧
    (haltedSeq p n w q).voidCount = if q.state.inPass then min 4294967295 (q.voidCount + 1) else q.voidCount := by
  unfold haltedSeq
  split
  · exact ⟨rfl, rfl, rfl, rfl⟩
  · exact ⟨rfl, rfl, rfl, rfl⟩

theorem setBuf_passNo (q : Machine.Seq) (b : BufId) (x : Buffer) : (q.setBuf b x).passNo = q.passNo := by cases b <;> rfl

theorem setBuf_void (q : Machine.Seq) (b : BufId) (x : Buffer) : (q.setBuf b x).void = q.void := by cases b <;> rfl

theorem not_inPass_iff {q : Machine.Seq} (h : (q.state = .playing ∨ q.state = .stalled) ∨ q.state = .priming ∨ q.state = .gap) :
    (!q.state.inPass) = true ↔ q.state = .priming ∨ q.state = .gap := by
  unfold SeqState.inPass
  rcases h with (h | h) | h | h <;> rw [h] <;> decide

/-! ## The page wanted (R106) -/

theorem wanted_of_inPass (h : (s.zone z).seq.state = .playing ∨ (s.zone z).seq.state = .stalled) :
    s.wanted z = (s.zone z).seq.next := by
  unfold State.wanted
  rcases h with h | h <;> rw [h]

theorem wanted_of_first (h : (s.zone z).seq.state = .priming ∨ (s.zone z).seq.state = .gap) :
    s.wanted z = s.firstTag z := by
  unfold State.wanted
  rcases h with h | h <;> rw [h]

theorem wanted_of_rest (h : (s.zone z).seq.state = .held ∨ (s.zone z).seq.state = .halted) : s.wanted z = none := by
  unfold State.wanted
  rcases h with h | h <;> rw [h]

/-- A burst read without bad parity tells nothing. -/
theorem burstRead_quiet {wrong : List (Nat × Slot)} (h : ∀ x ∈ burstSlots f wrong s, parityBad x = false) :
    (burstRead z f wrong s).notices = s.notices := by
  rw [burstRead_good h]
  split
  · exact (ZoneWork.fetchGood z f _ s).notices
  · rfl

end

/-- Settles O46, by the parity of the burst, what is left to read, and which page the zone wants. -/
theorem fetchBurstsFillOrHalt : Obligations.FetchBurstsFillOrHalt := by
  unfold Obligations.FetchBurstsFillOrHalt
  intro s z g wrong hp hf start read got q
  have hexec := exec_burstDone wrong hp hf
  obtain ⟨v, hv, hwork⟩ := burstRead_work z g wrong (advanceTo s.store.portEnd s)
  have hquiet := burstRead_quiet (z := z) (f := g) (wrong := wrong) (s := advanceTo s.store.portEnd s)
  have hbad := fun idx h1 h2 h3 h4 => burstRead_bad (z := z) (f := g) (wrong := wrong) (idx := idx)
    (s := advanceTo s.store.portEnd s) h1 h2 h3 h4
  have hgood := burstRead_good (z := z) (f := g) (wrong := wrong) (s := advanceTo s.store.portEnd s)
  obtain ⟨hmem, hstaging, hpages, hprograms⟩ := releasePort_loaded (burstRead z g wrong (advanceTo s.store.portEnd s))
  have hport := releasePort_eq (burstRead z g wrong (advanceTo s.store.portEnd s))
  generalize burstRead z g wrong (advanceTo s.store.portEnd s) = u at *
  have huz : ∀ y, u.zone y = v.zone y := fun y => by rw [hwork]; rfl
  have hus : ∀ i, u.sock i = v.sock i := fun i => by rw [hwork]; rfl
  have hust : u.store = v.store := by rw [hwork]
  have hz : ∀ y, (releasePort u).zone y = u.zone y := fun y => by rw [hport]; rfl
  have hs : ∀ i, (releasePort u).sock i = u.sock i := fun i => by rw [hport]; rfl
  have hn : (releasePort u).notices = u.notices := by rw [hport]
  have hrest : (releasePort u).run = s.run ∧ (releasePort u).now = max s.now s.store.portEnd ∧
      (releasePort u).link = s.link ∧ (releasePort u).straps = s.straps ∧ (releasePort u).freeDraws = s.freeDraws ∧
      (releasePort u).pending = s.pending := by
    rw [hport, hwork]
    exact ⟨hv.run, hv.now, hv.link, hv.straps, hv.draws, hv.pending⟩
  generalize releasePort u = t at *
  obtain ⟨h1, h2, h3, h4, h5, h6⟩ := hrest
  refine ⟨t, hexec, h1, h2, h3, h4, h5, h6, hmem.trans (by rw [hust]; exact hv.mem), hpages.trans (by rw [hust]; exact hv.pages),
    hprograms.trans (by rw [hust]; exact hv.programs), hstaging.trans (by rw [hust]; exact hv.staging),
    fun y hy => (hz y).trans ((huz y).trans (hv.other y hy)), ?_, fun i => ?_, fun idx hlt hge hpar hfirst => ?_, fun hpar => ?_⟩
  · rw [hz, huz]
    exact hv.own
  · rw [hs, hus]
    exact ⟨hv.sock i, hv.apart i⟩
  · have hu := hbad idx hlt hge hpar hfirst
    obtain ⟨hseq, hchk, hpass⟩ := haltPlaced_facts z g.tag.page idx (advanceTo s.store.portEnd s)
    obtain ⟨f1, f2, f3, f4⟩ := haltedSeq_frame g.tag.page idx (s.idleWord z) q
    have hseq : (t.zone z).seq = haltedSeq g.tag.page idx (s.idleWord z) q := by rw [hz, hu, zoneHalt_eq]; exact hseq
    have hn := hn.trans (congrArg (·.notices) hu)
    rw [hseq, hn, hz, hu, zoneHalt_eq]
    refine ⟨rfl, rfl, rfl, rfl, rfl, rfl, rfl, f1, f2, f3, f4, hchk, fun i hi => ?_, rfl⟩
    rw [hs, hu, zoneHalt_eq]
    exact hpass i hi
  · have hu := hgood hpar
    have hends : g.tag.count ≤ start + 64 →
        (t.zone z).seq = ((fetchGood z g (g.data ++ got.map vecOf) (advanceTo s.store.portEnd s)).zone z).seq ∧
        (t.zone z).chk = ((fetchGood z g (g.data ++ got.map vecOf) (advanceTo s.store.portEnd s)).zone z).chk := fun hle => by
      rw [hz, hu, if_pos hle]
      exact ⟨rfl, rfl⟩
    refine ⟨hn.trans (hquiet hpar), fun hlt => ?_, fun hle hst hw => ?_, fun hle hst hw => ?_, fun hle hst hw _ => ?_,
      fun hle hst hw _ => ?_, fun hle hst => ?_, fun wanted hle hw hne => ?_⟩
    · rw [hz, hu, if_neg (by omega)]
      exact modSeq_seq_self z _ _
    · rw [(hends hle).1, fetchGood_filled (s := advanceTo s.store.portEnd s) ((wanted_of_inPass (.inl hst)).trans hw) (ne_of_eq_of_ne hst (by decide))
        (ne_of_eq_of_ne hst (by decide))]
      exact filled_buffers
    · rw [(hends hle).1, fetchGood_filled (s := advanceTo s.store.portEnd s) ((wanted_of_first (.inr hst)).trans hw) (ne_of_eq_of_ne hst (by decide))
        (ne_of_eq_of_ne hst (by decide))]
      exact filled_buffers
    · obtain ⟨d, hbegun, hopened⟩ := fetchGood_begins (s := advanceTo s.store.portEnd s) (f := g)
        (vs := g.data ++ got.map vecOf) hst hw
      obtain ⟨hseq, hchk⟩ := hends hle
      rw [hchk, hseq, hbegun]
      refine ⟨rfl, ?_, rfl, rfl, rfl, rfl, hopened⟩
      show ((q.setBuf _ _).passNo + 1) % _ = _
      rw [setBuf_passNo]
    · have hresumed := fetchGood_resumes (s := advanceTo s.store.portEnd s) (f := g) (vs := g.data ++ got.map vecOf) hst hw
      rw [(hends hle).1, hresumed]
      refine ⟨rfl, ?_, rfl, rfl, rfl, ?_⟩
      · show (q.setBuf _ _).passNo = _
        rw [setBuf_passNo]
      · show (q.setBuf _ _).void = _
        rw [setBuf_void]
    · have hwanted : (advanceTo s.store.portEnd s).wanted z = none := wanted_of_rest hst
      rw [(hends hle).1]
      exact (fetchGood_unwanted (by rw [hwanted]; simp)).1 hwanted
    · intro q' other held
      have hwanted : (advanceTo s.store.portEnd s).wanted z = wanted := by
        obtain ⟨hst, rfl⟩ | ⟨hst, rfl⟩ := hw
        · exact wanted_of_inPass (s := advanceTo s.store.portEnd s) hst
        · exact wanted_of_first (s := advanceTo s.store.portEnd s) hst
      obtain ⟨hnone, hsome⟩ := fetchGood_unwanted (s := advanceTo s.store.portEnd s) (f := g)
        (vs := g.data ++ got.map vecOf) (by rw [hwanted]; exact hne)
      have hheld : ∀ w, held w ↔ (dropped z g (advanceTo s.store.portEnd s)).held z w = true := fun w => by
        rw [dropped_held, Bool.or_eq_true, Bool.and_eq_true,
          not_inPass_iff (q := ((advanceTo s.store.portEnd s).zone z).seq) (hw.imp (·.1) (·.1))]
        exact Iff.rfl
      rw [hwanted] at hnone hsome
      rw [(hends hle).1]
      refine ⟨hnone, fun w hww => ⟨fun h => (hsome w hww).1 ((hheld w).mp h), fun h => (hsome w hww).2 ?_,
        fun k d pg hst ha hd hpg => ?_⟩⟩
      · exact Bool.eq_false_iff.mpr fun hc => h ((hheld w).mpr hc)
      · have hfirst : wanted = s.firstTag z := by
          obtain ⟨h, -⟩ | ⟨-, h⟩ := hw
          · rcases h with h | h <;> rw [h] at hst <;> exact absurd hst (by decide)
          · exact h
        rw [hfirst, firstTag_eq ha hd hpg] at hww
        exact (Option.some.inj hww).symm

end Sys2Proof.Proofs.Transfers

/-! The place of a zone after the end of a pass: the swap, STATIC, GAP, PRIMING and the next pass (R112, R113). -/

namespace Sys2Proof.Proofs.PassEnds

open Sys2Proof.Machine Sys2Proof.Safety Sys2Proof.Proofs.Frames Sys2Proof.Proofs.Sequencing Sys2Proof.Proofs.Playback

section
variable {z : ZoneId} {s t u : State} {k : ProgId} {d : Program} {w : PageTag}

/-! ## The swap (R112, R148) -/

/-- The entry that is assigned after the swap. -/
def entryOf (q : Machine.Seq) : Option ProgSel := if q.staged.isSome then q.staged else q.assigned

/-- The sequencer after the swap. -/
abbrev swappedSeq (q : Machine.Seq) : Machine.Seq := { q with assigned := entryOf q, staged := none }

theorem swappedSeq_none {q : Machine.Seq} (h : q.staged = none) : swappedSeq q = q := by
  cases q
  cases h
  rfl

theorem reprogrammed_cycles (part : Option HbPart) (now : Nat) (active : Bool) (k : Socket) :
    (reprogrammed part now active k).cycles = k.live.cycles := by
  unfold reprogrammed
  split
  · rfl
  · rfl
  · rfl
  · rfl
  · split <;> rfl
  · split <;> rfl
  · rfl
  · rfl
  · rfl

/-- A socket in a failure cycle, or that owes one, stands through a change of program (R148). -/
theorem reprogrammed_standing (part : Option HbPart) (now : Nat) (active : Bool) {k : Socket}
    (h : k.live.state = .resetHeld ∨ k.live.state = .paused) : reprogrammed part now active k = k.live := by
  unfold reprogrammed
  rcases h with h | h <;> rw [h]

/-- What the swap leaves. -/
structure Swapped (z : ZoneId) (s t : State) : Prop where
  only : t = { s with zones := t.zones, sockets := t.sockets }
  other : ∀ y ≠ z, t.zone y = s.zone y
  own : t.zone z = { s.zone z with seq := swappedSeq (s.zone z).seq }
  sock : ∀ i, t.sock i = { s.sock i with live := (t.sock i).live }
  apart : ∀ i, zoneOf i ≠ z → t.sock i = s.sock i
  live : (s.zone z).seq.staged = none → ∀ i, (t.sock i).live = (s.sock i).live
  cycles : ∀ i, (t.sock i).live.cycles = (s.sock i).live.cycles
  standing : ∀ i, (s.sock i).live.state = .resetHeld ∨ (s.sock i).live.state = .paused → (t.sock i).live = (s.sock i).live

theorem assignNow_own (z : ZoneId) (e : ProgSel) (s : State) : (assignNow z e s).zone z =
    { s.zone z with seq := { (s.zone z).seq with assigned := some e, staged := none } } := by
  obtain ⟨h, -⟩ := only_sockets (assignNow_zone z e s)
  unfold State.zone
  rw [h]
  exact modZone_zone_self z _ s

theorem swapProgram_swapped (z : ZoneId) (s : State) : Swapped z s (swapProgram z s) := by
  cases hst : (s.zone z).seq.staged with
  | none =>
    have hs : swapProgram z s = s := by
      unfold swapProgram
      rw [hst]
    have hq := swappedSeq_none hst
    rw [hs]
    exact ⟨rfl, fun _ _ => rfl, by rw [hq], fun _ => rfl, fun _ _ => rfl, fun _ _ => rfl, fun _ => rfl, fun _ _ => rfl⟩
  | some e =>
    have hs : swapProgram z s = assignNow z e s := by
      unfold swapProgram
      rw [hst]
      rfl
    have hzone := assignNow_zone z e s
    have hne := fun y (hy : y ≠ z) => assignNow_zone_ne hy e s
    have hown := assignNow_own z e s
    have hsock := assignNow_sock z e s
    rw [hs]
    generalize assignNow z e s = t at *
    have hentry : entryOf (s.zone z).seq = some e := by unfold entryOf; rw [hst]; rfl
    refine ⟨?_, hne, by rw [hown, swappedSeq, hentry], fun i => ?_, fun i hi => by rw [hsock, if_neg hi],
      fun h => absurd (hst.symm.trans h) (by simp), fun i => ?_, fun i hi => ?_⟩
    · rw [hzone]
      rfl
    · rw [hsock]
      split <;> rfl
    · rw [hsock]
      split
      · exact reprogrammed_cycles _ _ _ _
      · rfl
    · rw [hsock]
      split
      · exact reprogrammed_standing _ _ _ hi
      · rfl

/-! ## What the place leaves (R113) -/

/-- A sequencer that keeps its programs and its void count. -/
def Kept (q q' : Machine.Seq) : Prop := q'.assigned = q.assigned ∧ q'.staged = q.staged ∧ q'.voidCount = q.voidCount

theorem Kept.trans {q q' q'' : Machine.Seq} (h : Kept q q') (g : Kept q' q'') : Kept q q'' :=
  ⟨g.1.trans h.1, g.2.1.trans h.2.1, g.2.2.trans h.2.2⟩

theorem Kept.of_nextOnly {q q' : Machine.Seq} (h : NextOnly q q') : Kept q q' := by
  rw [h]
  exact ⟨rfl, rfl, rfl⟩

theorem Kept.of_fetchOnly {q q' : Machine.Seq} (h : FetchOnly q q') : Kept q q' := by
  rw [h]
  exact ⟨rfl, rfl, rfl⟩

/-- What a place leaves of the zone and of the passes. -/
structure Places (z : ZoneId) (s t : State) : Prop where
  work : ZoneWork z s t
  kept : Kept (s.zone z).seq (t.zone z).seq
  counts : ∀ i, (t.sock i).pass.nChecked = (s.sock i).pass.nChecked ∧ (t.sock i).pass.nFailed = (s.sock i).pass.nFailed

theorem Places.trans {u : State} (h : Places z s t) (g : Places z t u) : Places z s u :=
  ⟨h.work.trans g.work, h.kept.trans g.kept,
    fun i => ⟨(g.counts i).1.trans (h.counts i).1, (g.counts i).2.trans (h.counts i).2⟩⟩

/-- A place that leaves every socket. -/
theorem Places.of_sockets (h : ZoneWork z s t) (hk : Kept (s.zone z).seq (t.zone z).seq) (hs : t.sockets = s.sockets) :
    Places z s t :=
  ⟨h, hk, fun i => by unfold State.sock; rw [hs]; exact ⟨rfl, rfl⟩⟩

theorem Places.modSeq {f : Machine.Seq → Machine.Seq} (hf : Kept (s.zone z).seq (f (s.zone z).seq)) :
    Places z s (modSeq z f s) :=
  .of_sockets (.modSeq z f s) (by rw [modSeq_seq_self]; exact hf) rfl

theorem fetchWanted_places (z : ZoneId) (s : State) : Places z s (fetchWanted z s) :=
  .of_sockets (.fetchWanted z s) (.of_fetchOnly (fetchWanted_fetchOnly z s)) (fetchWanted_sockets z s)

theorem joined_counts (k : Socket) : (joined k).nChecked = k.pass.nChecked ∧ (joined k).nFailed = k.pass.nFailed := by
  unfold joined
  split <;> exact ⟨rfl, rfl⟩

theorem chooseNext_sock (z : ZoneId) (s : State) (i : SocketId) : (chooseNext z s).sock i = s.sock i := by
  unfold State.sock
  rw [chooseNext_sockets]

/-- A pass has been opened from buffer `b` under program slot `k`, defined or not. -/
def opened (z : ZoneId) (b : BufId) (k : ProgId) (s : State) : State :=
  modSeq z (fun q => applyVec b 0 0 s.now { q with
    state := .playing, passNo := (q.passNo + 1) % (top32 + 1), void := none, period := 0, ordinal := 0
    divN := ((s.program k).map (·.divN)).getD 4, fracF := ((s.program k).map (·.fracF)).getD 0, gapTimer := none }) s

theorem passStart_places (z : ZoneId) (b : BufId) (s : State) : Places z s (passStart z b s) := by
  have hwork := ZoneWork.passStart z b s
  cases hslot : s.assignedSlot z with
  | none =>
    have hs : passStart z b s = s := by
      unfold passStart
      rw [hslot]
    rw [hs]
    exact ⟨.refl z s, ⟨rfl, rfl, rfl⟩, fun _ => ⟨rfl, rfl⟩⟩
  | some k =>
    have hs : passStart z b s = chooseNext z (joinPass z ((((opened z b k s).zone z).seq).passNo) k (opened z b k s)) := by
      unfold passStart
      rw [hslot]
      rfl
    refine ⟨hwork, ?_, fun i => ?_⟩
    · have h := chooseNext_nextOnly z (joinPass z ((opened z b k s).zone z).seq.passNo k (opened z b k s))
      rw [← hs, joinPass_zone, opened, modSeq_seq_self] at h
      refine Kept.trans ?_ (.of_nextOnly h)
      exact ⟨rfl, rfl, rfl⟩
    · rw [hs, chooseNext_sock, joinPass_sock]
      split
      · exact joined_counts _
      · exact ⟨rfl, rfl⟩

theorem enterStatic_places (z : ZoneId) (s : State) : Places z s (enterStatic z s) :=
  .of_sockets (.enterStatic z s) (by rw [enterStatic_seq]; exact ⟨rfl, rfl, rfl⟩) (enterStatic_sockets z s)

theorem enterPriming_places (z : ZoneId) (s : State) : Places z s (enterPriming z s) := by
  have h : Places z s (primed z s) := .modSeq ⟨rfl, rfl, rfl⟩
  rw [enterPriming_eq]
  split
  · exact h.trans (passStart_places z _ _)
  · exact h.trans (fetchWanted_places z _)

/-- The zone in GAP, before its fetch is seen to. -/
abbrev gapped (z : ZoneId) (n : Nat) (s : State) : State := modSeq z (toGap (afterMs n s) (s.idleWord z)) s

theorem enterGap_eq (z : ZoneId) (n : Nat) (s : State) : enterGap z n s = fetchWanted z (gapped z n s) := rfl

theorem enterGap_places (z : ZoneId) (n : Nat) (s : State) : Places z s (enterGap z n s) :=
  (Places.modSeq ⟨rfl, rfl, rfl⟩).trans (fetchWanted_places z (gapped z n s))

theorem keptFirst_places (z : ZoneId) (s : State) : Places z s (keptFirst z s) :=
  .modSeq (by rw [Seq.keepFirst_frame]; exact ⟨rfl, rfl, rfl⟩)

theorem placeZone_places (z : ZoneId) (s : State) : Places z s (placeZone z s) := by
  unfold placeZone
  split
  · exact enterStatic_places z s
  · simp only
    split
    · exact (keptFirst_places z s).trans (enterGap_places z _ _)
    · exact (keptFirst_places z s).trans (enterPriming_places z _)

end

end Sys2Proof.Proofs.PassEnds

/-! The place of a zone by the entry assigned after the swap (R113). -/

namespace Sys2Proof.Proofs.PassEnds

open Sys2Proof.Machine Sys2Proof.Safety Sys2Proof.Proofs.Frames Sys2Proof.Proofs.Sequencing Sys2Proof.Proofs.Playback

section
variable {z : ZoneId} {s : State} {k : ProgId} {d : Program} {w : PageTag}

/-! ## The buffers that the end of a pass keeps -/

theorem keepFirst_drops {q : Machine.Seq} {t : Option PageTag} (h : (q.buf q.play.buf.other).tag? ≠ t) :
    q.keepFirst t = { q with bufA := .empty, bufB := .empty } := if_pos h

theorem keepFirst_buf (q : Machine.Seq) (c : BufId) (w : PageTag) : (q.keepFirst (some w)).buf c =
    if (q.buf q.play.buf.other).tag? ≠ some w then .empty
    else if c = q.play.buf ∧ (q.buf q.play.buf).tag? ≠ some w then .empty else q.buf c := by
  unfold Seq.keepFirst
  by_cases h1 : (q.buf q.play.buf.other).tag? = some w
  · rw [if_neg (not_not_intro h1), if_neg (not_not_intro h1)]
    by_cases h2 : (q.buf q.play.buf).tag? = some w
    · rw [if_neg (not_not_intro h2), if_neg fun h => h.2 h2]
    · rw [if_pos h2, buf_setBuf]
      by_cases hc : c = q.play.buf
      · rw [if_pos hc, if_pos ⟨hc, h2⟩]
      · rw [if_neg hc, if_neg fun h => hc h.1]
  · rw [if_pos h1, if_pos h1]
    cases c <;> rfl

theorem holds_iff (b : Buffer) : b.holds w = true ↔ ∃ vs, b = .full w vs := by
  cases b with
  | empty => simp [Buffer.holds]
  | filling t => simp [Buffer.holds]
  | full t vs => simp [Buffer.holds]

theorem tag_of_holds {b : Buffer} (h : b.holds w = true) : b.tag? = some w := by
  obtain ⟨vs, rfl⟩ := (holds_iff b).mp h
  rfl

theorem tag_iff (b : Buffer) : b.tag? = some w ↔ b.holds w = true ∨ b = .filling w := by
  cases b with
  | empty => simp [Buffer.tag?, Buffer.holds]
  | filling t => simp [Buffer.tag?, Buffer.holds]
  | full t vs => simp [Buffer.tag?, Buffer.holds]

/-- Which of the two buffers still holds the page. -/
theorem keepFirst_holds {q : Machine.Seq} {tag : PageTag} {vs : List Vec} (hbuf : q.buf q.play.buf = .full tag vs) :
    (((q.keepFirst (some w)).buf q.play.buf.other).holds w = true ↔ (q.buf q.play.buf.other).holds w = true) ∧
    (((q.keepFirst (some w)).buf q.play.buf).holds w = true ↔ (q.buf q.play.buf.other).tag? = some w ∧ tag = w) := by
  rw [keepFirst_buf, keepFirst_buf]
  by_cases h1 : (q.buf q.play.buf.other).tag? = some w
  · rw [if_neg (not_not_intro h1), if_neg (not_not_intro h1), if_neg fun h => other_ne _ h.1, hbuf]
    refine ⟨Iff.rfl, ?_⟩
    by_cases h3 : tag = w
    · rw [if_neg fun h => h.2 (congrArg some h3)]
      simp [Buffer.holds, h1, h3]
    · rw [if_pos ⟨rfl, fun h => h3 (Option.some.inj h)⟩]
      simp [Buffer.holds, h3]
  · rw [if_pos h1, if_pos h1]
    refine ⟨⟨fun h => absurd h Bool.false_ne_true, fun h => absurd (tag_of_holds h) h1⟩,
      ⟨fun h => absurd h Bool.false_ne_true, fun h => absurd h.1 h1⟩⟩

/-- The buffer a pass starts from right after the end of a pass (R113, R114). -/
theorem keepFirst_ready {q : Machine.Seq} {tag : PageTag} {vs : List Vec} (hbuf : q.buf q.play.buf = .full tag vs) :
    ((q.buf q.play.buf.other).holds w = true ∨ (q.buf q.play.buf.other = .filling w ∧ tag = w) →
      ∃ b, (q.keepFirst (some w)).readyBuf w = some b) ∧
    (¬ ((q.buf q.play.buf.other).holds w = true ∨ (q.buf q.play.buf.other = .filling w ∧ tag = w)) →
      (q.keepFirst (some w)).readyBuf w = none) := by
  have hplay : (q.keepFirst (some w)).play = q.play := by rw [Seq.keepFirst_frame]
  obtain ⟨ho, hs⟩ := keepFirst_holds (w := w) hbuf
  rw [tag_iff] at hs
  unfold Seq.readyBuf
  rw [hplay]
  by_cases h1 : (q.buf q.play.buf.other).holds w = true
  · rw [if_pos (ho.mpr h1)]
    exact ⟨fun _ => ⟨_, rfl⟩, fun h => absurd (.inl h1) h⟩
  · rw [if_neg fun h => h1 (ho.mp h)]
    by_cases h2 : q.buf q.play.buf.other = .filling w ∧ tag = w
    · rw [if_pos (hs.mpr ⟨.inr h2.1, h2.2⟩)]
      exact ⟨fun _ => ⟨_, rfl⟩, fun h => absurd (.inr h2) h⟩
    · rw [if_neg fun h => h2 ⟨(hs.mp h).1.resolve_left h1, (hs.mp h).2⟩]
      exact ⟨fun h => absurd h (not_or.mpr ⟨h1, h2⟩), fun _ => rfl⟩

/-! ## The place by the entry -/

theorem placeZone_static (h : (s.zone z).seq.assigned = some .noProgram) : placeZone z s = enterStatic z s := by
  have hslot : s.zoneProgram z = none := by
    unfold State.zoneProgram State.assignedSlot
    rw [h]
    rfl
  unfold placeZone
  rw [hslot]

section
variable (ha : (s.zone z).seq.assigned = some (.slot k)) (hd : s.program k = some d)
include ha hd

theorem placeZone_slot : placeZone z s =
    if 0 < d.gap then enterGap z d.gap (keptFirst z s) else enterPriming z (keptFirst z s) := by
  have hslot : s.zoneProgram z = some d := by
    unfold State.zoneProgram State.assignedSlot
    rw [ha]
    exact hd
  unfold placeZone
  rw [hslot]

omit hd in
theorem keptFirst_assigned : ((keptFirst z s).zone z).seq.assigned = some (.slot k) := by
  rw [keptFirst_seq, Seq.keepFirst_frame]
  exact ha

theorem keptFirst_idleWord : (keptFirst z s).idleWord z = d.idleWord := idleWord_eq (keptFirst_assigned ha) hd

omit hd ha in
theorem keptFirst_firstTag : (keptFirst z s).firstTag z = s.firstTag z :=
  firstTag_congr (by rw [keptFirst_seq, Seq.keepFirst_frame]) rfl

/-- The zone has entered GAP. -/
theorem placeZone_gap (hg : 0 < d.gap) :
    FetchOnly (toGap (s.now + d.gap * 50000) d.idleWord ((s.zone z).seq.keepFirst (s.firstTag z)))
      ((placeZone z s).zone z).seq ∧ (placeZone z s).sockets = s.sockets := by
  have hword := keptFirst_idleWord ha hd
  rw [placeZone_slot ha hd, if_pos hg, enterGap_eq]
  have h := fetchWanted_fetchOnly z (gapped z d.gap (keptFirst z s))
  rw [modSeq_seq_self, keptFirst_seq, hword] at h
  exact ⟨h, fetchWanted_sockets z _⟩

end

/-- The fetch of position 0 starts into the buffer not played last, with both buffers empty. -/
theorem fetchWanted_first (hst : (s.zone z).seq.state = .priming ∨ (s.zone z).seq.state = .gap)
    (hw : s.firstTag z = some w) (hb : ∀ c, (s.zone z).seq.buf c = .empty) (hf : (s.zone z).seq.fetch = none) :
    ((fetchWanted z s).zone z).seq = { (s.zone z).seq.setBuf (s.zone z).seq.play.buf.other (.filling w) with
      fetch := some { tag := w, target := (s.zone z).seq.play.buf.other, burst := 0, data := [] } } := by
  have hheld : s.held z w = false := by
    unfold State.held
    simp only [hb]
    simp [Buffer.holds]
  rw [fetchWanted_starts ((Transfers.wanted_of_first hst).trans hw) hheld hf, startFetch_zone]

section
variable {pg : PageId} {tag : PageTag} {vs : List Vec} (ha : (s.zone z).seq.assigned = some (.slot k))
  (hd : s.program k = some d) (hw : s.firstTag z = some w)
include ha hd hw

/-- Where the buffer not just played is for another page, the fetch of position 0 starts into it (R113). -/
theorem placeZone_fetches (ho : ((s.zone z).seq.buf (s.zone z).seq.play.buf.other).tag? ≠ some w)
    (hf : (s.zone z).seq.fetch = none) :
    ((placeZone z s).zone z).seq.fetch =
      some { tag := w, target := (s.zone z).seq.play.buf.other, burst := 0, data := [] } ∧
    ((placeZone z s).zone z).seq.buf (s.zone z).seq.play.buf.other = .filling w ∧
    ((placeZone z s).zone z).seq.buf (s.zone z).seq.play.buf = .empty := by
  have hq : ((keptFirst z s).zone z).seq = { (s.zone z).seq with bufA := .empty, bufB := .empty } := by
    rw [keptFirst_seq, hw]
    exact keepFirst_drops ho
  have hfirst := keptFirst_firstTag.trans hw
  have hwaits : ∀ v : State, (v.zone z).seq.state = .priming ∨ (v.zone z).seq.state = .gap → v.firstTag z = some w →
      (v.zone z).seq.bufA = .empty → (v.zone z).seq.bufB = .empty → (v.zone z).seq.fetch = none →
      (v.zone z).seq.play = (s.zone z).seq.play →
      ((fetchWanted z v).zone z).seq.fetch =
        some { tag := w, target := (s.zone z).seq.play.buf.other, burst := 0, data := [] } ∧
      ((fetchWanted z v).zone z).seq.buf (s.zone z).seq.play.buf.other = .filling w ∧
      ((fetchWanted z v).zone z).seq.buf (s.zone z).seq.play.buf = .empty := fun v h1 h2 h3 h4 h5 h6 => by
    have hb : ∀ c, (v.zone z).seq.buf c = .empty := fun c => by cases c <;> assumption
    rw [fetchWanted_first h1 h2 hb h5, h6]
    exact ⟨rfl, (buf_setBuf _ _ _ _).trans (if_pos rfl),
      (buf_setBuf _ _ _ _).trans ((if_neg (other_ne _).symm).trans (hb _))⟩
  rw [placeZone_slot ha hd]
  split
  · have hg : ((gapped z d.gap (keptFirst z s)).zone z).seq = _ := modSeq_seq_self z _ _
    refine hwaits (gapped z d.gap (keptFirst z s)) ?_ ?_ ?_ ?_ ?_ ?_
    · exact .inr (by rw [hg])
    · exact (firstTag_congr (s := keptFirst z s) (u := gapped z d.gap (keptFirst z s)) (by rw [hg]) rfl).trans hfirst
    · rw [hg, hq]
    · rw [hg, hq]
    · rw [hg, hq]; exact hf
    · rw [hg, hq]
  · have hg := primed_seq z (keptFirst z s)
    rw [enterPriming_of_empty (by rw [hq]) (by rw [hq])]
    refine hwaits (primed z (keptFirst z s)) ?_ ?_ ?_ ?_ ?_ ?_
    · exact .inl (by rw [hg])
    · exact (primed_firstTag z _).trans hfirst
    · rw [hg, hq]
    · rw [hg, hq]
    · rw [hg, hq]; exact hf
    · rw [hg, hq]

/-- A new pass starts where position 0 is full in the buffer that the end of the pass leaves it in, and the zone waits in
PRIMING elsewhere (R113, R114). -/
theorem placeZone_plays (hbuf : (s.zone z).seq.buf (s.zone z).seq.play.buf = .full tag vs) (hg : d.gap = 0) :
    let other := (s.zone z).seq.buf (s.zone z).seq.play.buf.other
    let full := other.holds w = true ∨ (other = .filling w ∧ tag = w)
    (full → ((placeZone z s).zone z).seq.state = .playing ∧
      ((placeZone z s).zone z).seq.passNo = ((s.zone z).seq.passNo + 1) % 4294967296 ∧
      ((placeZone z s).zone z).seq.ordinal = 0 ∧ ((placeZone z s).zone z).seq.void = none) ∧
    (¬ full → ((placeZone z s).zone z).seq.state = .priming ∧
      ((placeZone z s).zone z).seq.passNo = (s.zone z).seq.passNo ∧ ((placeZone z s).zone z).seq.drive = d.idleWord) := by
  intro other full
  have hword := keptFirst_idleWord ha hd
  have hassigned := keptFirst_assigned (s := s) ha
  have hfirst := keptFirst_firstTag.trans hw
  have hq := keptFirst_seq z s
  have hready := keepFirst_ready (w := w) hbuf
  have hpass : ((keptFirst z s).zone z).seq.passNo = (s.zone z).seq.passNo := by rw [hq, Seq.keepFirst_frame]
  rw [hw] at hq
  rw [← hq] at hready
  rw [placeZone_slot ha hd, if_neg (by omega)]
  refine ⟨fun h => ?_, fun h => ?_⟩
  · obtain ⟨b, hb⟩ := hready.1 h
    obtain ⟨h1, -, -⟩ := enterPriming_begins hassigned hd hfirst hb
    rw [h1]
    exact ⟨rfl, congrArg (fun n => (n + 1) % 4294967296) hpass, rfl, rfl⟩
  · obtain ⟨h1, -, -⟩ := enterPriming_waits hfirst (hready.2 h)
    rw [h1]
    exact ⟨rfl, hpass, hword⟩

end

end

end Sys2Proof.Proofs.PassEnds

/-! The verdicts' records, one after the other: what they leave of the sockets and zones that they are not about
(R131, R132, R157). -/

namespace Sys2Proof.Proofs.PassEnds

open Sys2Proof.Machine Sys2Proof.Safety Sys2Proof.Proofs.Frames Sys2Proof.Proofs.Sequencing Sys2Proof.Proofs.RailEvents
  Sys2Proof.Proofs.RunEnds

/-! ## A retirement leaves the other zones -/

section
variable {i j : SocketId} {y z : ZoneId} {s t u v : State}

theorem openRail_zone_ne (hy : y ≠ zoneOf i) (d : RailState) (s : State) : (openRail d i s).zone y = s.zone y := by
  have hopened : (railOpened d i s).zone y = s.zone y := modZone_zone_ne hy _ _
  unfold openRail
  split
  · show (setPower i 0 (railOpened d i s)).zone y = _
    rw [setPower_zone_ne 0 hy]
    exact hopened
  · exact hopened

theorem changeInhibit_zone_ne (hy : y ≠ zoneOf i) (f : Inhibit → Inhibit) (s : State) :
    (changeInhibit f i s).zone y = s.zone y := by
  refine (grantSlots_zone_ne hy).trans ?_
  obtain ⟨-, -, h⟩ | ⟨-, -, -, h⟩ | ⟨-, -, -, h⟩ | ⟨-, -, h⟩ := changeInhibitNoGrant_cases f i s
  · rw [h, openRail_zone_ne hy]; rfl
  · rw [h]; exact modZone_zone_ne hy _ _
  · rw [h]; rfl
  · rw [h]; rfl

theorem zoneTold_zone_ne (hy : y ≠ z) (s : State) : (zoneTold z s).zone y = s.zone y := by
  unfold zoneTold
  split
  · exact (ZoneWork.zoneDone z s).other y hy
  · rfl

theorem finalEffects_zone_ne (hy : y ≠ zoneOf i) (s : State) : (finalEffects i s).zone y = s.zone y := by
  have h1 : (addCause .final i s).zone y = s.zone y := changeInhibit_zone_ne hy (Inhibit.put .final true) s
  have h2 : (finalCut i s).zone y = s.zone y := (changeInhibit_zone_ne hy warm _).trans h1
  rw [finalEffects_told, zoneTold_zone_ne hy]
  unfold finalBlocks
  generalize finalCut i s = u at h2
  exact h2

theorem retiredAlone_zone_ne (hy : y ≠ zoneOf i) (d : Option Deciding) (s : State) :
    (retiredAlone i d s).zone y = s.zone y := by
  have h := finalEffects_zone_ne hy (modSock i (retiredSock d) s)
  unfold retiredAlone
  generalize finalEffects i (modSock i (retiredSock d) s) = u at *
  exact h

/-- A retirement in a zone with another socket under stress leaves the zone's sequencer. -/
theorem retiredAlone_seq (hj : j ≠ i) (hlife : (s.sock j).life = .stressing) (d : Option Deciding) :
    ((retiredAlone i d s).zone (zoneOf j)).seq = (s.zone (zoneOf j)).seq := by
  have h0 := retiredSock_plain i d s
  have h1 : Touches (.live :: .checked :: .therm :: railWork) (modSock i (retiredSock d) s)
      (finalBlocks i (modSock i (retiredSock d) s)) := finalBlocks_touches
  have hn := sendUrgent_touches (.socket i) (.retired (d.map (·.kind))) (finalEffects i (modSock i (retiredSock d) s))
  unfold retiredAlone
  rw [hn.seq, finalEffects_told]
  generalize finalBlocks i (modSock i (retiredSock d) s) = u at h1
  rw [zoneTold_seq, h1.seq, h0.seq]
  rw [h1.life j, retiredSock_sock, if_neg hj, hlife]

theorem retiredAlone_on (h : RailLaws s) (d : Option Deciding) : RailsOn i s (retiredAlone i d s) := by
  have R := railsOn_rule i s
  have h1 : RailsOn i s (modSock i (retiredSock d) s) := R.touch ⟨h, fun _ _ => .rfl⟩ (retiredSock_plain i d s)
  exact R.touch (R.finalEffects h1 ⟨rfl, rfl⟩) (sendUrgent_touches _ _ _)

end

/-! ## What stands through the verdicts on the sockets of `J` -/

/-- A property that stands through the counts, the records, the reset cycles and the retirements of the sockets of `J`. -/
structure VerdictRule (J : SocketId → Prop) (P : State → Prop) : Prop where
  pass : ∀ {j v}, J j → P v → ∀ b, P (modPass j (judgedPass b) v)
  record : ∀ {j v}, J j → P v → ∀ r, P (recorded j r v)
  cycle : ∀ {j v}, J j → P v → P (resetCycle j v)
  retire : ∀ {j v}, J j → P v → ∀ d, P (retire j d v)

section
variable {J : SocketId → Prop} {P : State → Prop} {j : SocketId} {v : State} (R : VerdictRule J P) (hj : J j)
include R hj

theorem VerdictRule.recordWith (h : P v) (k : FailKind) (d : Detail) (n : Option Nat) (x : Disp) :
    P (recordWith j k d n x v) := by
  unfold Machine.recordWith
  split
  · rw [acceptRecord_eq]
    split
    · exact R.retire hj (R.record hj h _) _
    · exact R.record hj h _
  · exact h

theorem VerdictRule.resetRequest (h : P v) : P (resetRequest j v) := by
  unfold Machine.resetRequest
  split
  · exact R.recordWith hj (R.cycle hj h) _ _ _ _
  · exact R.cycle hj h

theorem VerdictRule.mismatchRecord (h : P v) (k : FailKind) (d : Detail) (n : Nat) : P (mismatchRecord j k d n v) := by
  have h1 := R.recordWith hj h k d (some n) (v.dispTaken k)
  unfold Machine.mismatchRecord
  simp only
  split
  · exact R.resetRequest hj h1
  · exact h1

theorem VerdictRule.verdicts (h : P v) (c : CheckZone) (p : Pass) : P (signatureVerdict c j p (strobeVerdict c j p v)) := by
  have h1 : P (strobeVerdict c j p v) := by
    unfold strobeVerdict
    split
    · exact R.mismatchRecord hj h _ _ _
    · exact h
  unfold signatureVerdict
  split
  · exact R.mismatchRecord hj h1 _ _ _
  · exact h1

theorem VerdictRule.judgeOne (h : P v) (c : CheckZone) : P (judgeOne c j v) := by
  rw [judgeOne_eq]
  exact R.verdicts hj (R.pass hj h _) c _

end

/-! ## A zone with a socket under stress -/

section
variable {i : SocketId} {y z : ZoneId} {s : State}

/-- A zone stands as it did, with a socket of it under stress. -/
def Apart (y : ZoneId) (i : SocketId) (s v : State) : Prop := v.zone y = s.zone y ∧ (v.sock i).life = .stressing

theorem resetCycle_zone (j : SocketId) (v : State) (y : ZoneId) : (resetCycle j v).zone y = v.zone y := by
  unfold resetCycle
  split
  · rfl
  · simp only
    split_ifs <;> rfl

/-- The verdicts of a zone leave the other zones that have a socket under stress. -/
theorem apart_rule (hi : zoneOf i = y) : VerdictRule (zoneOf · ≠ y) (Apart y i s) where
  pass {j v} hj h b := ⟨h.1, ((modPass_touches j (judgedPass b) v).life i).trans h.2⟩
  record {j v} hj h r := by
    have ht := recorded_touches j r v
    refine ⟨?_, (ht.life i).trans h.2⟩
    rw [recorded_eq]
    exact h.1
  cycle {j v} hj h := by
    exact ⟨(resetCycle_zone j v y).trans h.1, ((resetCycle_touches j v).life i).trans h.2⟩
  retire {j v} hj h d := by
    have hij : i ≠ j := by rintro rfl; exact hj hi
    rw [retire_goes hij (.inr h.2)]
    exact ⟨(retiredAlone_zone_ne (Ne.symm hj) d v).trans h.1, by rw [(retiredAlone_lives j d v i).1, if_neg hij]; exact h.2⟩

/-! ## A socket under stress -/

/-- Since `s` the run, the sequencer of socket `i`, its time and its lines have stood; the socket is under stress with
accounts `a` and heartbeat monitor `l`. -/
structure Under (i : SocketId) (s : State) (a : Accounts) (l : Liveness) (v : State) : Prop where
  run : v.run = s.run
  life : (v.sock i).life = .stressing
  acct : (v.sock i).acct = a
  live : (v.sock i).live = l
  seq : (v.zone (zoneOf i)).seq = (s.zone (zoneOf i)).seq
  on : (v.sock i).rail.state = .on ↔ (s.sock i).rail.state = .on
  programs : v.store.programs = s.store.programs
  now : v.now = s.now
  rails : RailLaws v

variable {a : Accounts} {l : Liveness}

/-- What is read of a socket under stress. -/
abbrev underPieces : List Piece :=
  [.runState, .record, .clock, .permit, .life, .acct, .live, .seq, .railState, .programs, .now, .law .rails]

/-- What touches none of this leaves it. -/
theorem Under.of_touches {m : List Piece} {v w : State} (h : Under i s a l v) (ht : Touches m v w)
    (hd : disjoint underPieces m = true := by rfl) : Under i s a l w := by
  have hout : ∀ p : Piece, p.isIn underPieces = true → p.isIn m = false := fun p hp =>
    Piece.isIn_eq_false_of_disjoint hd hp
  exact ⟨(ht.run (hout _ rfl) (hout _ rfl) (hout _ rfl) (hout _ rfl)).trans h.run, (ht.life i (hout _ rfl)).trans h.life,
    (ht.acct i (hout _ rfl)).trans h.acct, (ht.live i (hout _ rfl)).trans h.live, (ht.seq _ (hout _ rfl)).trans h.seq,
    by rw [ht.railState i (hout _ rfl)]; exact h.on, (ht.programs (hout _ rfl)).trans h.programs,
    (ht.now (hout _ rfl)).trans h.now, ht.law .rails (hout _ rfl) h.rails⟩

theorem resetCycle_sock {j : SocketId} (hij : i ≠ j) (v : State) : (resetCycle j v).sock i = v.sock i := by
  unfold resetCycle
  split
  · rfl
  · simp only
    split_ifs
    · exact (modSock_sock_ne hij _ _).trans (modSock_sock_ne hij _ _)
    · exact (modSock_sock_ne hij _ _).trans (modSock_sock_ne hij _ _)
    · exact (modSock_sock_ne hij _ _).trans ((modSock_sock_ne hij _ _).trans (modSock_sock_ne hij _ _))

/-- What moves the accounts, the liveness or the lifecycle of another socket alone. -/
theorem Under.of_else {m : List Piece} {v w : State} (h : Under i s a l v) (ht : Touches m v w)
    (hlife : (w.sock i).life = (v.sock i).life) (hacct : (w.sock i).acct = (v.sock i).acct)
    (hlive : (w.sock i).live = (v.sock i).live) (hseq : (w.zone (zoneOf i)).seq = (v.zone (zoneOf i)).seq)
    (hon : (w.sock i).rail.state = .on ↔ (v.sock i).rail.state = .on) (hrails : RailLaws w)
    (hd : disjoint [.runState, .record, .clock, .permit, .programs, .now] m = true := by rfl) : Under i s a l w := by
  have hout : ∀ p : Piece, p.isIn [.runState, .record, .clock, .permit, .programs, .now] = true → p.isIn m = false :=
    fun p hp => Piece.isIn_eq_false_of_disjoint hd hp
  exact ⟨(ht.run (hout _ rfl) (hout _ rfl) (hout _ rfl) (hout _ rfl)).trans h.run, hlife.trans h.life,
    hacct.trans h.acct, hlive.trans h.live, hseq.trans h.seq, hon.trans h.on, (ht.programs (hout _ rfl)).trans h.programs,
    (ht.now (hout _ rfl)).trans h.now, hrails⟩

/-- The verdicts on other sockets leave a socket under stress. -/
theorem under_rule (i : SocketId) (s : State) (a : Accounts) (l : Liveness) :
    VerdictRule (· ≠ i) (Under i s a l) where
  pass {j v} _ h b := h.of_touches (judgeCounts_touches j (judgedPass b) (fun _ => rfl) v)
  record {j v} hj h r := by
    have ht := recorded_touches j r v
    exact h.of_else ht (ht.life i) (by rw [recorded_acct, if_neg (Ne.symm hj)]) (ht.live i) (ht.seq _)
      (by rw [ht.railState i]) (ht.law .rails rfl h.rails)
  cycle {j v} hj h := by
    have ht := resetCycle_touches j v
    exact h.of_else ht (ht.life i) (ht.acct i) (by rw [resetCycle_sock (Ne.symm hj)]) (ht.seq _) (by rw [ht.railState i])
      (ht.law .rails rfl h.rails)
  retire {j v} hj h d := by
    have hij : i ≠ j := Ne.symm hj
    have helse := retiredAlone_elsewhere (i := j) (d := d) (s := v)
    have hon := retiredAlone_on (i := j) h.rails d
    rw [retire_goes hij (.inr h.life)]
    exact h.of_else (retiredAlone_touches j d v) (by rw [(retiredAlone_lives j d v i).1, if_neg hij])
      (by rw [(retiredAlone_lives j d v i).2, if_neg hij]) (helse.live hij) (retiredAlone_seq hij h.life d) (hon.2 i hij) hon.1

/-- A retired socket keeps its lifecycle and its accounts through the verdicts on the others. -/
theorem lives_rule (i : SocketId) (x : Lifecycle) (a : Accounts) :
    VerdictRule (· ≠ i) (fun v => (v.sock i).life = x ∧ (v.sock i).acct = a) where
  pass {j v} _ h b := by
    have ht := judgeCounts_touches j (judgedPass b) (fun _ => rfl) v
    rw [ht.life i, ht.acct i]
    exact h
  record {j v} hj h r := by
    rw [(recorded_touches j r v).life i, recorded_acct, if_neg (Ne.symm hj)]
    exact h
  cycle {j v} _ h := by
    have ht := resetCycle_touches j v
    rw [ht.life i, ht.acct i]
    exact h
  retire {j v} hj h d := by
    rw [(retire_lives i (Ne.symm hj)).1, (retire_lives i (Ne.symm hj)).2]
    exact h

end

end Sys2Proof.Proofs.PassEnds

/-! The verdict on one socket: its records, the reset cycles that they ask for, and its retirement (R132, R144, R156). -/

namespace Sys2Proof.Proofs.PassEnds

open Sys2Proof.Machine Sys2Proof.Safety Sys2Proof.Proofs.Frames Sys2Proof.Proofs.Sequencing Sys2Proof.Proofs.Heartbeats

section
variable {i : SocketId} {s v : State} {a : Accounts} {l : Liveness} {r : FailRec} {k : FailKind} {d : Detail} {n : Nat}

/-- The next counted fail on accounts `a` reaches the retire limit (R156). -/
def lastAt (s : State) (a : Accounts) : Bool := (s.run.record.map fun r => a.counted + 1 == r.retireLimit).getD false

/-- One reset request more stays within the cycle limit (R144). -/
def Fits (s : State) (z : ZoneId) (l : Liveness) : Prop :=
  s.cycleLimit z = 0 ∨ min 255 (l.cycles + 1) ≤ s.cycleLimit z

/-- The heartbeat monitor after a reset request that it takes (R144, R147). -/
def cycled (s : State) (z : ZoneId) (l : Liveness) : Liveness :=
  if l.state = .paused then { l with cycles := min 255 (l.cycles + 1), owed := true }
  else { l with cycles := min 255 (l.cycles + 1), state := .resetHeld, timer := some (s.now / 50000 + s.tReset z) }

/-- A socket retired with accounts `a`. -/
def Retired (i : SocketId) (a : Accounts) (v : State) : Prop := (v.sock i).life = .retired ∧ (v.sock i).acct = a

/-- The accounts of a socket that record number `m` from here on retires, deciding. -/
def decided (a b : Accounts) (k : FailKind) (m : Nat) : Accounts :=
  { b with deciding := some ⟨k, min 6 (a.log.length + m)⟩, byHost := false }

section
variable (h : Under i s a l v)
include h

theorem Under.hbPart : v.hbPart (zoneOf i) = s.hbPart (zoneOf i) :=
  (program_congr (by rw [h.seq]) h.programs).2

theorem Under.cycleLimit : v.cycleLimit (zoneOf i) = s.cycleLimit (zoneOf i) := by
  unfold State.cycleLimit
  rw [h.hbPart]

theorem Under.tReset : v.tReset (zoneOf i) = s.tReset (zoneOf i) := by
  unfold State.tReset
  rw [h.hbPart]

theorem Under.exhausts : v.exhausts i = true ↔ (s.sock i).rail.state = .on ∧ ¬ Fits s (zoneOf i) l := by
  unfold State.exhausts Fits
  rw [h.cycleLimit, h.live, ← h.on, not_or, Bool.and_eq_true, Bool.and_eq_true, beq_iff_eq, bne_iff_ne, decide_eq_true_iff,
    and_assoc, not_le]
  exact Iff.rfl

theorem Under.taking (hst : s.run.state = .active ∨ s.run.state = .held) : taking v i = true :=
  taking_iff.mpr ⟨by rw [h.run]; exact hst, h.life⟩

theorem Under.nextIsLast : nextIsLast v i = lastAt s a := by
  unfold Safety.nextIsLast lastAt
  rw [h.run, h.acct]

theorem Under.disposition (k : FailKind) : v.disposition k = s.disposition k := by
  unfold State.disposition
  rw [h.run]

theorem Under.recordOf (hc : a.credit = (s.sock i).acct.credit) (k : FailKind) (p : Option Nat) (x : Disp) (d : Detail) :
    recordOf v i k p x d = Safety.recordOf s i k p x d := by
  unfold Safety.recordOf
  rw [h.run, h.acct, hc]

theorem Under.passStamp : v.passStamp (zoneOf i) = s.passStamp (zoneOf i) := by
  unfold State.passStamp
  rw [h.seq]

theorem Under.recorded (hk : r.kind ≠ .sensorFault) : Under i s (counted a r) l (recorded i r v) := by
  have ht := recorded_touches i r v
  have hacct : ((Frames.recorded i r v).sock i).acct = counted a r := by
    rw [recorded_acct, if_pos rfl, record_counted hk, h.acct]
  exact ⟨ht.run.trans h.run, (ht.life i).trans h.life, hacct, (ht.live i).trans h.live, (ht.seq _).trans h.seq,
    by rw [ht.railState i]; exact h.on, ht.programs.trans h.programs, ht.now.trans h.now, ht.law .rails rfl h.rails⟩

/-- A reset request in the wait of a hold: a reset is owed (R144, R147). -/
theorem Under.cycle_owes (hon : (s.sock i).rail.state = .on) (hx : v.exhausts i = false) (hst : l.state = .paused) :
    resetCycle i v = modLive i (fun l => { l with cycles := min 255 (l.cycles + 1), owed := true }) v := by
  have hvon := h.on.mpr hon
  have hlim : ¬ (v.cycleLimit (zoneOf i) ≠ 0 ∧ incTo 255 (v.sock i).live.cycles > v.cycleLimit (zoneOf i)) := by
    simp only [State.exhausts, hvon, beq_self_eq_true, Bool.true_and, Bool.and_eq_false_iff, bne_eq_false_iff_eq,
      decide_eq_false_iff_not] at hx
    exact fun ⟨h1, h2⟩ => hx.elim h1 fun h => h h2
  unfold resetCycle
  rw [if_neg (not_not.mpr hvon)]
  simp only [modLive_live_self]
  rw [if_neg (by exact hlim), if_pos (by rw [h.live]; exact hst)]
  unfold setOwed
  rw [modLive_modLive]
  rfl

/-- The monitor's part of a reset request leaves everything but the monitor. -/
theorem Under.after_cycle : Under i s a ((resetCycle i v).sock i).live (resetCycle i v) := by
  have ht := resetCycle_touches i v
  exact ⟨ht.run.trans h.run, (ht.life i).trans h.life, (ht.acct i).trans h.acct, rfl, (ht.seq _).trans h.seq,
    by rw [ht.railState i]; exact h.on, ht.programs.trans h.programs, ht.now.trans h.now, ht.law .rails rfl h.rails⟩

theorem Under.cycled (hon : (s.sock i).rail.state = .on) (hf : Fits s (zoneOf i) l) :
    Under i s a (cycled s (zoneOf i) l) (resetCycle i v) := by
  have hx : v.exhausts i = false := Bool.eq_false_iff.mpr fun hc => (h.exhausts.mp hc).2 hf
  have hlive : ((resetCycle i v).sock i).live = PassEnds.cycled s (zoneOf i) l := by
    unfold PassEnds.cycled
    by_cases hst : l.state = .paused
    · rw [h.cycle_owes hon hx hst, if_pos hst, modLive_live_self, h.live]
    · rw [resetCycle_starts (h.on.mpr hon) hx (by rw [h.live]; exact hst), if_neg hst, modSock_sock_self, h.live, h.now,
        h.tReset]
  exact hlive ▸ h.after_cycle

variable (hst : s.run.state = .active ∨ s.run.state = .held) (hc : a.credit = (s.sock i).acct.credit)
include hst hc

/-- A HEARTBEAT-EXHAUSTED record retires its socket (R144). -/
theorem Under.exhausted : Retired i
    (decided a (counted a (Safety.recordOf s i .heartbeatExhausted (s.passStamp (zoneOf i)) .retire .nothing))
      .heartbeatExhausted 1) (failRecord i .heartbeatExhausted .nothing v) := by
  have hlast : lastRecord v i .heartbeatExhausted = true := by
    unfold lastRecord
    rw [h.taking hst]
    rfl
  have hr : recordNow v i .heartbeatExhausted .nothing =
      Safety.recordOf s i .heartbeatExhausted (s.passStamp (zoneOf i)) .retire .nothing := by
    unfold recordNow
    rw [h.recordOf hc, h.passStamp]
    rfl
  have hkind : (recordNow v i .heartbeatExhausted .nothing).kind ≠ .sensorFault := by simp [recordNow, Safety.recordOf]
  rw [failRecord_last (by simp) hlast]
  refine ⟨retire_self.1, ?_⟩
  rw [retire_recorded_acct hkind, hr, h.acct]
  rfl

variable (hk : k = .strobeMismatch ∨ k = .signatureMismatch) (d : Detail) (n : Nat)
include hk

/-- The record of a mismatch, before the reset request that it may ask for. -/
theorem Under.mismatch_eq : mismatchRecord i k d n v =
    if s.disposition k = .retire ∨ lastAt s a = true then
      retire i (some ⟨k, min 6 (a.log.length + 1)⟩)
        (Frames.recorded i (Safety.recordOf s i k (some n) (s.disposition k) d) v)
    else if s.disposition k = .reset then
      resetRequest i (Frames.recorded i (Safety.recordOf s i k (some n) (s.disposition k) d) v)
    else Frames.recorded i (Safety.recordOf s i k (some n) (s.disposition k) d) v := by
  have hkind : k ≠ .sensorFault := by rcases hk with rfl | rfl <;> simp
  have hdisp : v.dispTaken k = s.disposition k := by
    rw [← h.disposition]
    rcases hk with rfl | rfl <;> rfl
  have htake := h.taking hst
  unfold mismatchRecord
  simp only
  rw [hdisp, recordWith_taken htake hkind, h.nextIsLast, h.acct, h.recordOf hc, accepts_eq_taking, htake, Bool.true_and]
  by_cases hf : s.disposition k = .retire ∨ lastAt s a = true
  · rw [if_pos hf, if_pos hf, if_neg]
    rw [retire_self.1, Bool.and_eq_true]
    exact fun hc => absurd hc.2 (by decide)
  · rw [if_neg hf, if_neg hf, (recorded_touches i _ v).life i, h.life]
    simp only [beq_self_eq_true, Bool.and_true, beq_iff_eq]

/-- A mismatch under RETIRE, or at the retire limit (R156). -/
theorem Under.mismatch_retires (hf : s.disposition k = .retire ∨ lastAt s a = true) : Retired i
    (decided a (counted a (Safety.recordOf s i k (some n) (s.disposition k) d)) k 1) (mismatchRecord i k d n v) := by
  have hkind : k ≠ .sensorFault := by rcases hk with rfl | rfl <;> simp
  rw [h.mismatch_eq hst hc hk, if_pos hf]
  refine ⟨retire_self.1, ?_⟩
  rw [retire_recorded_acct (r := Safety.recordOf s i k (some n) (s.disposition k) d) hkind, h.acct]
  rfl

variable (hret : s.disposition k ≠ .retire) (hlast : lastAt s a = false)
include hret hlast

/-- A mismatch that asks for nothing that the monitor takes (R144, R156). -/
theorem Under.mismatch_stays (hask : ¬ (s.disposition k = .reset ∧ (s.sock i).rail.state = .on)) :
    Under i s (counted a (Safety.recordOf s i k (some n) (s.disposition k) d)) l (mismatchRecord i k d n v) := by
  have hkind : k ≠ .sensorFault := by rcases hk with rfl | rfl <;> simp
  have hrec := h.recorded (r := Safety.recordOf s i k (some n) (s.disposition k) d) hkind
  rw [h.mismatch_eq hst hc hk, if_neg (not_or.mpr ⟨hret, by simp [hlast]⟩)]
  split
  · rename_i hreset
    have hoff : (s.sock i).rail.state ≠ .on := fun hon => hask ⟨hreset, hon⟩
    have hx : ¬ ((Frames.recorded i (Safety.recordOf s i k (some n) (s.disposition k) d) v).exhausts i = true) :=
      fun hx => hoff (hrec.exhausts.mp hx).1
    unfold resetRequest
    rw [if_neg hx]
    unfold resetCycle
    rw [if_pos (mt hrec.on.mp hoff)]
    exact hrec
  · exact hrec

variable (hreset : s.disposition k = .reset) (hon : (s.sock i).rail.state = .on)
include hreset hon

/-- A mismatch under RESET within the cycle limit (R144, R156). -/
theorem Under.mismatch_cycles (hf : Fits s (zoneOf i) l) :
    Under i s (counted a (Safety.recordOf s i k (some n) (s.disposition k) d)) (PassEnds.cycled s (zoneOf i) l)
      (mismatchRecord i k d n v) := by
  have hkind : k ≠ .sensorFault := by rcases hk with rfl | rfl <;> simp
  have hrec := h.recorded (r := Safety.recordOf s i k (some n) (s.disposition k) d) hkind
  rw [h.mismatch_eq hst hc hk, if_neg (not_or.mpr ⟨hret, by simp [hlast]⟩), if_pos hreset]
  unfold resetRequest
  rw [if_neg fun hx => (hrec.exhausts.mp hx).2 hf]
  exact hrec.cycled hon hf

/-- A mismatch under RESET past the cycle limit: HEARTBEAT-EXHAUSTED follows at once (R144). -/
theorem Under.mismatch_spent (hf : ¬ Fits s (zoneOf i) l) :
    let b := counted a (Safety.recordOf s i k (some n) (s.disposition k) d)
    Retired i (decided b (counted b (Safety.recordOf s i .heartbeatExhausted (s.passStamp (zoneOf i)) .retire .nothing))
      .heartbeatExhausted 1) (mismatchRecord i k d n v) := by
  intro b
  have hkind : k ≠ .sensorFault := by rcases hk with rfl | rfl <;> simp
  have hrec := h.recorded (r := Safety.recordOf s i k (some n) (s.disposition k) d) hkind
  rw [h.mismatch_eq hst hc hk, if_neg (not_or.mpr ⟨hret, by simp [hlast]⟩), if_pos hreset]
  unfold resetRequest
  rw [if_pos (hrec.exhausts.mpr ⟨hon, hf⟩)]
  exact hrec.after_cycle.exhausted hst hc

end

end

end Sys2Proof.Proofs.PassEnds

/-! The verdict on one socket as a whole: one mismatch, or STROBE-MISMATCH before SIGNATURE-MISMATCH (R132, R144). -/

namespace Sys2Proof.Proofs.PassEnds

open Sys2Proof.Machine Sys2Proof.Safety Sys2Proof.Proofs.Frames Sys2Proof.Proofs.Sequencing Sys2Proof.Proofs.Heartbeats

section
variable {i : SocketId} {s v : State} {z : ZoneId} {a b : Accounts} {l : Liveness} {r : FailRec} {k : FailKind}
  {e m : Nat}

/-- The heartbeat monitor after `m` reset requests that it takes in one verdict. -/
def asked (s : State) (z : ZoneId) (l : Liveness) (m : Nat) : Liveness :=
  if m = 0 then l
  else if l.state = .paused then { l with cycles := min 255 (l.cycles + m), owed := true }
  else { l with cycles := min 255 (l.cycles + m), state := .resetHeld, timer := some (s.now / 50000 + s.tReset z) }

/-- `m` reset requests of one verdict stay within the cycle limit (R144). -/
def FitsAll (s : State) (z : ZoneId) (l : Liveness) (m : Nat) : Prop :=
  s.cycleLimit z = 0 ∨ min 255 (l.cycles + m) ≤ s.cycleLimit z

/-- The record asks for a reset cycle of a powered socket (R144, R156). -/
def Asks (s : State) (i : SocketId) (r : FailRec) : Prop := r.disp = .reset ∧ (s.sock i).rail.state = .on

/-- The HEARTBEAT-EXHAUSTED record of a socket, at this time. -/
def spentRec (s : State) (i : SocketId) : FailRec :=
  recordOf s i .heartbeatExhausted (s.passStamp (zoneOf i)) .retire .nothing

theorem cycled_asked (s : State) (z : ZoneId) (l : Liveness) (m : Nat) :
    cycled s z (asked s z l m) = asked s z l (m + 1) := by
  have hinc : ∀ c : Nat, min 255 (min 255 (c + m) + 1) = min 255 (c + (m + 1)) := fun c => by omega
  unfold cycled asked
  rw [if_neg (Nat.succ_ne_zero m)]
  by_cases hm : m = 0
  · subst hm
    rfl
  · rw [if_neg hm]
    by_cases hp : l.state = .paused
    · simp only [if_pos hp, hinc]
    · simp only [if_neg hp, hinc]
      rfl

theorem fits_asked (s : State) (z : ZoneId) (l : Liveness) (m : Nat) :
    Fits s z (asked s z l m) ↔ FitsAll s z l (m + 1) := by
  unfold Fits FitsAll asked
  by_cases hm : m = 0
  · subst hm
    exact Iff.rfl
  · rw [if_neg hm]
    have h : ∀ c : Nat, min 255 (min 255 (c + m) + 1) = min 255 (c + (m + 1)) := fun c => by omega
    split <;> exact or_congr_right (by rw [h])

/-- What one mismatch record `r` of kind `k` makes of a socket with accounts `b` and `m` reset requests taken; `a` and `l`
are its accounts and its monitor before the verdict, `e` records ago. -/
def Judged (i : SocketId) (s : State) (a b : Accounts) (l : Liveness) (e m : Nat) (k : FailKind) (r : FailRec)
    (w : State) : Prop :=
  (r.disp = .retire ∨ lastAt s b = true → Retired i (decided a (counted b r) k (e + 1)) w) ∧
  (r.disp ≠ .retire → lastAt s b = false →
    (¬ Asks s i r → Under i s (counted b r) (asked s (zoneOf i) l m) w) ∧
    (Asks s i r → FitsAll s (zoneOf i) l (m + 1) → Under i s (counted b r) (asked s (zoneOf i) l (m + 1)) w) ∧
    (Asks s i r → ¬ FitsAll s (zoneOf i) l (m + 1) →
      Retired i (decided a (counted (counted b r) (spentRec s i)) .heartbeatExhausted (e + 2)) w))

theorem decided_congr {a b x : Accounts} {n o : Nat} (h : min 6 (a.log.length + n) = min 6 (b.log.length + o)) :
    decided a x k n = decided b x k o := by
  unfold decided
  rw [h]

theorem counted_length (b : Accounts) (r : FailRec) : (counted b r).log.length = min 5 b.log.length + 1 := by
  simp [counted]

theorem Under.judged (h : Under i s b (asked s (zoneOf i) l m) v) (hst : s.run.state = .active ∨ s.run.state = .held)
    (hc : b.credit = (s.sock i).acct.credit) (hk : k = .strobeMismatch ∨ k = .signatureMismatch) (d : Detail) (n : Nat)
    (he : min 6 (b.log.length + 1) = min 6 (a.log.length + (e + 1))) :
    Judged i s a b l e m k (Safety.recordOf s i k (some n) (s.disposition k) d) (mismatchRecord i k d n v) := by
  refine ⟨fun hf => ?_, fun hret hlast => ⟨fun hask => ?_, fun hask hf => ?_, fun hask hf => ?_⟩⟩
  · exact decided_congr (k := k) he ▸ h.mismatch_retires hst hc hk d n hf
  · exact h.mismatch_stays hst hc hk d n hret hlast hask
  · exact cycled_asked s _ l m ▸ h.mismatch_cycles hst hc hk d n hret hlast hask.1 hask.2 ((fits_asked ..).mpr hf)
  · have h2 := h.mismatch_spent hst hc hk d n hret hlast hask.1 hask.2 fun hn => hf ((fits_asked ..).mp hn)
    refine (decided_congr (k := .heartbeatExhausted) ?_) ▸ h2
    rw [counted_length]
    omega

/-- A retired socket's mismatches are discarded (R153). -/
theorem Retired.mismatch (h : Retired i a v) (k : FailKind) (d : Detail) (n : Nat) : mismatchRecord i k d n v = v := by
  have htake : taking v i = false := Bool.eq_false_iff.mpr fun hc => by
    have := (taking_iff.mp hc).2
    rw [h.1] at this
    cases this
  unfold mismatchRecord
  simp only
  rw [recordWith_untaken htake, accepts_eq_taking, htake]
  rfl

/-! ## Both mismatches -/

/-- The record of a strobe mismatch (R132). -/
def strobeRec (s : State) (i : SocketId) (c : CheckZone) (p : Pass) : FailRec :=
  recordOf s i .strobeMismatch (some c.passNo) (s.disposition .strobeMismatch)
    (.strobe (p.first.getD ⟨0, 0⟩).ordinal (p.first.getD ⟨0, 0⟩).bits p.count)

/-- The record of a signature mismatch (R132). -/
def signRec (s : State) (i : SocketId) (c : CheckZone) (p : Pass) : FailRec :=
  recordOf s i .signatureMismatch (some c.passNo) (s.disposition .signatureMismatch) (.signature p.crc p.lpc)

open Classical in
/-- What the verdict on one checked socket makes of it (R132, R144, R156; log entry 37). -/
structure Verdict (i : SocketId) (s : State) (a : Accounts) (l : Liveness) (c : CheckZone) (p : Pass) (w : State) :
    Prop where
  clean : strobeFailed c.mode p = false → signatureFailed c.mode c.expect p = false → Under i s a l w
  strobe : strobeFailed c.mode p = true → signatureFailed c.mode c.expect p = false →
    Judged i s a a l 0 0 .strobeMismatch (strobeRec s i c p) w
  sign : strobeFailed c.mode p = false → signatureFailed c.mode c.expect p = true →
    Judged i s a a l 0 0 .signatureMismatch (signRec s i c p) w
  both : strobeFailed c.mode p = true → signatureFailed c.mode c.expect p = true →
    let ra := strobeRec s i c p
    (ra.disp = .retire ∨ lastAt s a = true → Retired i (decided a (counted a ra) .strobeMismatch 1) w) ∧
    (ra.disp ≠ .retire → lastAt s a = false →
      (Asks s i ra → ¬ FitsAll s (zoneOf i) l 1 →
        Retired i (decided a (counted (counted a ra) (spentRec s i)) .heartbeatExhausted 2) w) ∧
      (¬ Asks s i ra ∨ FitsAll s (zoneOf i) l 1 →
        Judged i s a (counted a ra) l 1 (if Asks s i ra then 1 else 0) .signatureMismatch (signRec s i c p) w))

theorem Under.verdict (h : Under i s a l v) (hst : s.run.state = .active ∨ s.run.state = .held)
    (hc : a.credit = (s.sock i).acct.credit) (c : CheckZone) (p : Pass) :
    Verdict i s a l c p (signatureVerdict c i p (strobeVerdict c i p v)) := by
  have hsecond : ∀ b m e, min 6 (b.log.length + 1) = min 6 (a.log.length + (e + 1)) → b.credit = (s.sock i).acct.credit →
      ∀ w, Under i s b (asked s (zoneOf i) l m) w →
      Judged i s a b l e m .signatureMismatch (signRec s i c p)
        (mismatchRecord i .signatureMismatch (.signature p.crc p.lpc) c.passNo w) :=
    fun b m e he hb w hw => hw.judged hst hb (.inr rfl) _ _ he
  have hfirst : Judged i s a a l 0 0 .strobeMismatch (strobeRec s i c p) (mismatchRecord i .strobeMismatch
      (.strobe (p.first.getD ⟨0, 0⟩).ordinal (p.first.getD ⟨0, 0⟩).bits p.count) c.passNo v) :=
    Under.judged (m := 0) h hst hc (.inl rfl) _ _ rfl
  have hlen : min 6 ((counted a (strobeRec s i c p)).log.length + 1) = min 6 (a.log.length + (1 + 1)) := by
    rw [counted_length]
    omega
  unfold signatureVerdict strobeVerdict
  generalize mismatchRecord i .strobeMismatch _ c.passNo v = w at *
  refine ⟨fun h1 h2 => ?_, fun h1 h2 => ?_, fun h1 h2 => ?_, fun h1 h2 => ?_⟩
  · rw [h1, h2]
    exact h
  · rw [h1, h2]
    exact hfirst
  · rw [h1, h2]
    exact hsecond a 0 0 rfl hc v h
  · rw [h1, h2]
    intro ra
    obtain ⟨hret, hgo⟩ := hfirst
    refine ⟨fun hf => ?_, fun hr hl => ⟨fun ha hf => ?_, fun ha => ?_⟩⟩
    · exact ((hret hf).mismatch _ _ _).symm ▸ hret hf
    · have hsp := (hgo hr hl).2.2 ha hf
      exact (hsp.mismatch _ _ _).symm ▸ hsp
    · obtain ⟨hno, hyes, -⟩ := hgo hr hl
      refine hsecond _ _ 1 hlen hc w ?_
      by_cases hask : Asks s i ra
      · rw [if_pos hask]
        exact hyes hask (ha.resolve_left (not_not_intro hask))
      · rw [if_neg hask]
        exact hno hask

end

end Sys2Proof.Proofs.PassEnds

/-! The verdicts of a zone's pass, taken together: the counts of every socket, the verdict on one of them, and the end of a
pass without a record (R112, R131 to R133). -/

namespace Sys2Proof.Proofs.PassEnds

open Sys2Proof.Machine Sys2Proof.Safety Sys2Proof.Proofs.Frames Sys2Proof.Proofs.Sequencing Sys2Proof.Proofs.Heartbeats
  Sys2Proof.Proofs.Settings Sys2Proof.Proofs.Reports

section
variable {i j : SocketId} {s v w : State} {y z : ZoneId} {a b : Accounts} {l : Liveness} {c : CheckZone} {p : Pass}

/-! ## The counts (R131) -/

/-- A socket's pass context, its checked flag apart. -/
abbrev contextOf (k : Socket) : Pass := { k.pass with checked := false }

/-- A verdict finds a mismatch of a kind that the mode checks. -/
def badPass (c : CheckZone) (p : Pass) : Bool := strobeFailed c.mode p || signatureFailed c.mode c.expect p

theorem contextOf_of_touches {m : List Piece} (h : Touches m s v) (i : SocketId)
    (hp : Piece.context.isIn m = false := by rfl) : contextOf (v.sock i) = contextOf (s.sock i) := by
  unfold contextOf
  rw [h.context i hp]

theorem judgeOne_context (c : CheckZone) (i : SocketId) (s : State) (j : SocketId) :
    contextOf ((judgeOne c i s).sock j) =
      if j = i then judgedPass (badPass c (contextOf (s.sock i))) (contextOf (s.sock i)) else contextOf (s.sock j) := by
  rw [judgeOne_eq]
  simp only
  rw [contextOf_of_touches (signatureVerdict_touches c i _ _), contextOf_of_touches (strobeVerdict_touches c i _ _),
    contextOf, modPass_sock]
  by_cases hj : j = i
  · subst hj
    rw [if_pos rfl, if_pos rfl]
    rfl
  · rw [if_neg hj, if_neg hj]

theorem checkedSockets_nodup (z : ZoneId) (s : State) :
    ((zoneSockets z).filter fun i => (s.sock i).pass.checked).Nodup := (zoneSockets_nodup z).filter _

theorem mem_checkedSockets (z : ZoneId) (s : State) (i : SocketId) :
    i ∈ ((zoneSockets z).filter fun i => (s.sock i).pass.checked) ↔ zoneOf i = z ∧ (s.sock i).pass.checked = true := by
  rw [List.mem_filter, mem_zoneSockets]

theorem judgePass_context (z : ZoneId) (s : State) (i : SocketId) : contextOf ((judgePass z s).sock i) =
    if zoneOf i = z ∧ (s.sock i).pass.checked = true then
      judgedPass (badPass (s.zone z).chk (s.sock i).pass) (contextOf (s.sock i))
    else contextOf (s.sock i) := by
  have hclose := contextOf_of_touches (closePass_touches z s) i
  have h := forEach_at (g := fun t j => contextOf (t.sock j)) (f := judgeOne (s.zone z).chk)
    (h := fun _ p => judgedPass (badPass (s.zone z).chk p) p) (fun i s j => judgeOne_context _ i s j) _
    (checkedSockets_nodup z s) (closePass z s) i
  simp only [mem_checkedSockets, hclose] at h
  exact h

/-! ## One socket's verdict among the others (R132) -/

theorem Judged.map {e m : Nat} {k : FailKind} {r : FailRec} (h : Judged i s a b l e m k r v)
    (hu : ∀ x y, Under i s x y v → Under i s x y w) (hr : ∀ x, Retired i x v → Retired i x w) :
    Judged i s a b l e m k r w :=
  ⟨fun hf => hr _ (h.1 hf), fun h1 h2 => ⟨fun ha => hu _ _ ((h.2 h1 h2).1 ha),
    fun ha hf => hu _ _ ((h.2 h1 h2).2.1 ha hf), fun ha hf => hr _ ((h.2 h1 h2).2.2 ha hf)⟩⟩

theorem Verdict.map (h : Verdict i s a l c p v) (hu : ∀ x y, Under i s x y v → Under i s x y w)
    (hr : ∀ x, Retired i x v → Retired i x w) : Verdict i s a l c p w :=
  ⟨fun h1 h2 => hu _ _ (h.clean h1 h2), fun h1 h2 => (h.strobe h1 h2).map hu hr, fun h1 h2 => (h.sign h1 h2).map hu hr,
    fun h1 h2 => ⟨fun hf => hr _ ((h.both h1 h2).1 hf), fun h3 h4 => ⟨fun ha hf => hr _ (((h.both h1 h2).2 h3 h4).1 ha hf),
      fun ha => (((h.both h1 h2).2 h3 h4).2 ha).map hu hr⟩⟩⟩

/-- The verdict reads everything of the context but the checked flag. -/
theorem Verdict.of_context {p' : Pass} (h : Verdict i s a l c p v) (hp : contextOf { s.sock i with pass := p } =
    contextOf { s.sock i with pass := p' }) : Verdict i s a l c p' v := by
  have h' : Verdict i s a l c { p with checked := false } v := ⟨h.clean, h.strobe, h.sign, h.both⟩
  have hp' : ({ p with checked := false } : Pass) = { p' with checked := false } := hp
  rw [hp'] at h'
  exact ⟨h'.clean, h'.strobe, h'.sign, h'.both⟩

theorem closePass_under (hlife : (s.sock i).life = .stressing) (hr : RailLaws s) :
    Under i s (s.sock i).acct (s.sock i).live (closePass z s) := by
  have ht := closePass_touches z s
  exact ⟨ht.run, (ht.life i).trans hlife, ht.acct i, ht.live i, ht.seq _, by rw [ht.railState i], ht.programs, ht.now,
    ht.law .rails rfl hr⟩

/-- What the verdicts of the pass make of a checked socket. -/
theorem judgePass_verdict (htake : taking s i = true) (hr : RailLaws s) (hi : zoneOf i = z)
    (hch : (s.sock i).pass.checked = true) :
    Verdict i s (s.sock i).acct (s.sock i).live (s.zone z).chk (s.sock i).pass (judgePass z s) := by
  obtain ⟨hst, hlife⟩ := taking_iff.mp htake
  have hnodup := checkedSockets_nodup z s
  obtain ⟨l1, l2, hl⟩ := List.append_of_mem ((mem_checkedSockets z s i).mpr ⟨hi, hch⟩)
  have h0 := closePass_under (z := z) hlife hr
  have hctx0 := contextOf_of_touches (closePass_touches z s) i
  unfold judgePass
  simp only
  rw [hl] at hnodup ⊢
  rw [forEach_append, forEach_cons]
  have hne1 : ∀ j ∈ l1, j ≠ i := fun j hj => by
    rintro rfl
    exact (List.disjoint_of_nodup_append hnodup) hj List.mem_cons_self
  have hne2 : ∀ j ∈ l2, j ≠ i := fun j hj => by
    rintro rfl
    exact (List.nodup_cons.mp (List.Nodup.of_append_right hnodup)).1 hj
  generalize (s.zone z).chk = c
  have h1 : Under i s (s.sock i).acct (s.sock i).live (forEach l1 (judgeOne c) (closePass z s)) :=
    forEach_keeps (P := Under i s (s.sock i).acct (s.sock i).live)
      (fun j hj _ ht => (under_rule i s _ _).judgeOne (hne1 j hj) ht c) _ h0
  have hctx1 : contextOf ((forEach l1 (judgeOne c) (closePass z s)).sock i) = contextOf (s.sock i) :=
    (forEach_same (g := fun t => contextOf (t.sock i)) (fun j hj t => by
      rw [judgeOne_context, if_neg (Ne.symm (hne1 j hj))]) (closePass z s)).trans hctx0
  generalize forEach l1 (judgeOne c) (closePass z s) = u at h1 hctx1
  have h2 : Verdict i s (s.sock i).acct (s.sock i).live c (u.sock i).pass (judgeOne c i u) := by
    rw [judgeOne_eq]
    exact (h1.of_touches (judgeCounts_touches i (judgedPass _) (fun _ => rfl) u)).verdict hst rfl c (u.sock i).pass
  exact (h2.of_context hctx1).map
    (fun x y ht => forEach_keeps (P := Under i s x y)
      (fun j hj _ ht => (under_rule i s x y).judgeOne (hne2 j hj) ht c) _ ht)
    (fun x ht => forEach_keeps (P := Retired i x)
      (fun j hj _ ht => (lives_rule i _ x).judgeOne (hne2 j hj) ht c) _ ht)

/-! ## The end of a pass without a record -/

theorem judgeOne_clean (h : badPass c (s.sock i).pass = false) : judgeOne c i s = modPass i (judgedPass false) s := by
  obtain ⟨h1, h2⟩ := Bool.or_eq_false_iff.mp h
  rw [judgeOne_eq]
  unfold signatureVerdict strobeVerdict
  simp only [h1, h2, Bool.or_self]
  rfl

theorem forEach_judgeOne_clean : ∀ (l : List SocketId), l.Nodup → ∀ s : State,
    (∀ i ∈ l, badPass c (s.sock i).pass = false) →
    forEach l (judgeOne c) s = forEach l (fun i => modPass i (judgedPass false)) s := by
  intro l
  induction l with
  | nil => intro _ s _; rfl
  | cons i l ih =>
    intro hl s hs
    obtain ⟨hi, hl⟩ := List.nodup_cons.mp hl
    rw [forEach_cons, forEach_cons, judgeOne_clean (hs i List.mem_cons_self)]
    refine ih hl _ fun j hj => ?_
    rw [modPass_sock, if_neg (by rintro rfl; exact hi hj)]
    exact hs j (List.mem_cons_of_mem i hj)

/-- What the end of a pass leaves where no record arrives: the counts, the void count and the notices apart, all is as it
was. -/
structure Settled (z : ZoneId) (s t : State) : Prop where
  only : t = { s with zones := t.zones, sockets := t.sockets, notices := t.notices }
  other : ∀ y ≠ z, t.zone y = s.zone y
  own : t.zone z = { s.zone z with
    seq := { (s.zone z).seq with voidCount := (t.zone z).seq.voidCount }, chk := { (s.zone z).chk with opened := false } }
  sock : ∀ i, t.sock i = { s.sock i with pass := (t.sock i).pass }
  apart : ∀ i, zoneOf i ≠ z → t.sock i = s.sock i
  pass : ∀ i, zoneOf i = z → (t.sock i).pass = { (s.sock i).pass with
    checked := false, nChecked := (t.sock i).pass.nChecked, nFailed := (t.sock i).pass.nFailed }

/-- A pass that is closed alone. -/
theorem closePass_settled (z : ZoneId) (s : State) : Settled z s (closePass z s) ∧
    (closePass z s).notices = s.notices ∧ ((closePass z s).zone z).seq = (s.zone z).seq ∧
    ∀ i, ((closePass z s).sock i).pass.nChecked = (s.sock i).pass.nChecked ∧
      ((closePass z s).sock i).pass.nFailed = (s.sock i).pass.nFailed := by
  obtain ⟨hclose, hsock⟩ := closePass_eq z s
  have hzone : ∀ y, (closePass z s).zone y = (modChk z (fun c => { c with opened := false }) s).zone y := fun y => by
    rw [hclose]
    rfl
  have hself : (modChk z (fun c => { c with opened := false }) s).zone z =
      { s.zone z with chk := { (s.zone z).chk with opened := false } } := modZone_zone_self z _ s
  generalize closePass z s = t at *
  refine ⟨⟨?_, fun y hy => (hzone y).trans (modZone_zone_ne hy _ _), ?_, fun i => ?_, fun i hi => ?_, fun i hi => ?_⟩, ?_, ?_,
    fun i => ?_⟩
  · rw [hclose]
    rfl
  · rw [hzone, hself]
  · rw [hsock]
    split <;> rfl
  · rw [hsock, if_neg hi]
  · rw [hsock, if_pos hi]
    rfl
  · rw [hclose]
    rfl
  · rw [hzone, hself]
  · rw [hsock]
    split <;> exact ⟨rfl, rfl⟩

/-- A judged pass without a mismatch counts a pass more for each checked socket (R131). -/
theorem judgePass_clean (hclean : ∀ i, zoneOf i = z → (s.sock i).pass.checked = true →
      badPass (s.zone z).chk (s.sock i).pass = false) :
    Settled z s (judgePass z s) ∧ (judgePass z s).notices = s.notices ∧
      ((judgePass z s).zone z).seq = (s.zone z).seq := by
  obtain ⟨⟨h1, h2, h3, h4, h5, h6⟩, hn, hseq, -⟩ := closePass_settled z s
  have heq : judgePass z s = forEach ((zoneSockets z).filter fun i => (s.sock i).pass.checked)
      (fun i => modPass i (judgedPass false)) (closePass z s) := by
    refine forEach_judgeOne_clean _ (checkedSockets_nodup z s) _ fun i hi => ?_
    obtain ⟨hz, hc⟩ := (mem_checkedSockets z s i).mp hi
    have hp := hclean i hz hc
    rw [(closePass_eq z s).2, if_pos hz]
    exact hp
  have hframe := forEach_modSock_frame (fun _ k => { k with pass := judgedPass false k.pass })
    ((zoneSockets z).filter fun i => (s.sock i).pass.checked) (closePass z s)
  have hsock := forEach_modSock (fun _ k => { k with pass := judgedPass false k.pass }) _ (closePass z s)
    (checkedSockets_nodup z s)
  change judgePass z s = forEach _ (fun i => modSock i fun k => { k with pass := judgedPass false k.pass }) _ at heq
  rw [← heq] at hframe hsock
  simp only [mem_checkedSockets] at hsock
  have hzone : ∀ y, (judgePass z s).zone y = (closePass z s).zone y := fun y => by rw [hframe]; rfl
  have hnotices : (judgePass z s).notices = (closePass z s).notices := by rw [hframe]
  generalize judgePass z s = t at *
  generalize closePass z s = u at *
  refine ⟨⟨?_, fun y hy => (hzone y).trans (h2 y hy), ?_, fun i => ?_, fun i hi => ?_, fun i hi => ?_⟩,
    hnotices.trans hn, by rw [hzone, hseq]⟩
  · rw [hframe, h1]
  · rw [hzone]
    exact h3
  · rw [hsock, h4 i]
    split <;> rfl
  · rw [hsock, if_neg fun h => hi h.1]
    exact h5 i hi
  · rw [hsock]
    split
    · rw [h6 i hi]
      rfl
    · exact h6 i hi

/-- A void pass is counted and told, and not judged (R112, R133). -/
theorem voidEnd_settled {x : VoidCause} (hvoid : (s.zone z).seq.void = some x) :
    Settled z s (voidEnd z s) ∧
      (voidEnd z s).notices = routineAfter ⟨.zone z, s.run.clock, .passVoid (s.zone z).seq.passNo x⟩ s.notices ∧
      ((voidEnd z s).zone z).seq.voidCount = min 4294967295 ((s.zone z).seq.voidCount + 1) ∧
      ∀ i, ((voidEnd z s).sock i).pass.nChecked = (s.sock i).pass.nChecked ∧
        ((voidEnd z s).sock i).pass.nFailed = (s.sock i).pass.nFailed := by
  obtain ⟨⟨h1, h2, h3, h4, h5, h6⟩, hn, hseq, hcounts⟩ := closePass_settled z s
  have hvz : (voidEnd z s).zone = (modSeq z Seq.countVoid (closePass z s)).zone := rfl
  have hvs : (voidEnd z s).sock = (closePass z s).sock := rfl
  have hself : (modSeq z Seq.countVoid (closePass z s)).zone z =
      { (closePass z s).zone z with seq := ((closePass z s).zone z).seq.countVoid } := modZone_zone_self z _ _
  have hclock : (closePass z s).run = s.run := by rw [h1]
  have hvn : (voidEnd z s).notices =
      routineAfter ⟨.zone z, s.run.clock, .passVoid (s.zone z).seq.passNo x⟩ s.notices := by
    unfold voidEnd passVoidNotice
    rw [sendRoutine_eq, modSeq_seq_self, hseq]
    show routineAfter ⟨.zone z, (closePass z s).run.clock,
      .passVoid (s.zone z).seq.passNo ((s.zone z).seq.void.getD .hold)⟩ (closePass z s).notices = _
    rw [hclock, hn, hvoid]
    rfl
  have hrest : voidEnd z s = { closePass z s with zones := (voidEnd z s).zones, notices := (voidEnd z s).notices } := rfl
  rw [hseq] at hself
  refine ⟨⟨?_, fun y hy => ?_, ?_, fun i => ?_, fun i hi => ?_, fun i hi => ?_⟩, hvn, ?_, fun i => ?_⟩
  · rw [hrest, h1]
  · rw [hvz, modSeq_zone, if_neg hy]
    exact h2 y hy
  · rw [hvz, hself, h3]
    rfl
  · rw [hvs]
    exact h4 i
  · rw [hvs]
    exact h5 i hi
  · rw [hvs]
    exact h6 i hi
  · rw [hvz, hself]
    rfl
  · rw [hvs]
    exact hcounts i

end

end Sys2Proof.Proofs.PassEnds

/-! The end of a pass as a whole: what follows the verdicts (R112, R113). -/

namespace Sys2Proof.Proofs.PassEnds

open Sys2Proof.Machine Sys2Proof.Safety Sys2Proof.Proofs.Frames Sys2Proof.Proofs.Sequencing Sys2Proof.Proofs.Playback

section
variable {i : SocketId} {s t u w : State} {y z : ZoneId} {q : Machine.Seq} {k : ProgId} {d : Program}

/-! ## What the swap and the place leave of the sockets -/

/-- Between `s` and `t` no verdict falls: the sockets keep their lives, accounts and counts, and a failure cycle stands. -/
structure Spared (z : ZoneId) (s t : State) : Prop where
  other : ∀ y ≠ z, t.zone y = s.zone y
  life : ∀ i, (t.sock i).life = (s.sock i).life
  acct : ∀ i, (t.sock i).acct = (s.sock i).acct
  counts : ∀ i, (t.sock i).pass.nChecked = (s.sock i).pass.nChecked ∧ (t.sock i).pass.nFailed = (s.sock i).pass.nFailed
  cycles : ∀ i, (t.sock i).live.cycles = (s.sock i).live.cycles
  standing : ∀ i, (s.sock i).live.state = .resetHeld ∨ (s.sock i).live.state = .paused → (t.sock i).live = (s.sock i).live

theorem Spared.refl (z : ZoneId) (s : State) : Spared z s s :=
  ⟨fun _ _ => rfl, fun _ => rfl, fun _ => rfl, fun _ => ⟨rfl, rfl⟩, fun _ => rfl, fun _ _ => rfl⟩

theorem Swapped.spared (h : Swapped z s w) (g : Places z w t) : Spared z s t := by
  have hsock := fun i => (g.work.sock i).trans (by rw [h.sock i] : { w.sock i with pass := (t.sock i).pass } =
    { s.sock i with live := (w.sock i).live, pass := (t.sock i).pass })
  have hlive := fun i => (congrArg Socket.live (hsock i) :)
  have hpass : ∀ i, (w.sock i).pass = (s.sock i).pass := fun i => (congrArg Socket.pass (h.sock i) :)
  exact ⟨fun y hy => (g.work.other y hy).trans (h.other y hy), fun i => (congrArg Socket.life (hsock i) :),
    fun i => (congrArg Socket.acct (hsock i) :), fun i => by rw [← hpass i]; exact g.counts i,
    fun i => (congrArg Liveness.cycles (hlive i)).trans (h.cycles i), fun i hi => (hlive i).trans (h.standing i hi)⟩

theorem endPass_spared (z : ZoneId) (s : State) : Spared z (passJudged z s) (endPass z s) := by
  rw [endPass_eq]
  split
  · exact (swapProgram_swapped z _).spared (placeZone_places z _)
  · exact .refl z _

/-- The verdicts of a zone leave the other zones that have a socket under stress (R157). -/
theorem endPass_apart (hy : y ≠ z) (hi : zoneOf i = y) (hlife : (s.sock i).life = .stressing) :
    (endPass z s).zone y = s.zone y := by
  refine ((endPass_spared z s).other y hy).trans ?_
  unfold passJudged
  split
  · have h0 : Apart y i s (closePass z s) :=
      ⟨(closePass_settled z s).1.other y hy, ((closePass_touches z s).life i).trans hlife⟩
    have h : Apart y i s (judgePass z s) := forEach_keeps (P := Apart y i s) (fun j hj _ ht =>
      (apart_rule hi).judgeOne (fun hz => hy (hz.symm.trans ((mem_checkedSockets z s j).mp hj).1)) ht _) _ h0
    exact h.1
  · cases hvoid : (s.zone z).seq.void with
    | none => contradiction
    | some x => exact (voidEnd_settled hvoid).1.other y hy

/-! ## The place after a pass without a record -/

/-- The state after the swap, where no record arrived. -/
structure Turned (z : ZoneId) (s w : State) : Prop where
  seq : ∃ n, (w.zone z).seq = { swappedSeq (s.zone z).seq with voidCount := n }
  store : w.store = s.store
  now : w.now = s.now
  run : w.run = s.run
  sock : ∀ i, w.sock i = { s.sock i with pass := (w.sock i).pass, live := (w.sock i).live }
  apart : ∀ i, zoneOf i ≠ z → w.sock i = s.sock i
  live : (s.zone z).seq.staged = none → ∀ i, (w.sock i).live = (s.sock i).live
  pass : ∀ i, zoneOf i = z → (w.sock i).pass = { (s.sock i).pass with
    checked := false, nChecked := (w.sock i).pass.nChecked, nFailed := (w.sock i).pass.nFailed }

theorem Settled.turned (h : Settled z s u) : Turned z s (swapProgram z u) := by
  have g := swapProgram_swapped z u
  generalize swapProgram z u = w at *
  obtain ⟨h1, -, h3, h4, h5, h6⟩ := h
  have hu : (u.zone z).seq = { (s.zone z).seq with voidCount := (u.zone z).seq.voidCount } := congrArg Zone.seq h3
  have hseq : (w.zone z).seq = swappedSeq (u.zone z).seq := congrArg Zone.seq g.own
  have hpass : ∀ i, (w.sock i).pass = (u.sock i).pass := fun i => (congrArg Socket.pass (g.sock i) :)
  have hstaged : (u.zone z).seq.staged = (s.zone z).seq.staged := (congrArg Machine.Seq.staged hu :)
  generalize (u.zone z).seq.voidCount = n at hu
  refine ⟨⟨n, by rw [hseq, hu]; rfl⟩, ?_, ?_, ?_, fun i => ?_, fun i hi => (g.apart i hi).trans (h5 i hi), fun hs i => ?_,
    fun i hi => ?_⟩
  · rw [g.only, h1]
  · rw [g.only, h1]
  · rw [g.only, h1]
  · rw [g.sock i, h4 i]
  · rw [g.live (hstaged.trans hs) i]
    exact (congrArg Socket.live (h4 i) :)
  · rw [hpass]
    exact h6 i hi

/-- The end of a pass where no record arrived. -/
theorem endPass_settled (h : Settled z s (passJudged z s)) (hst : (s.zone z).seq.state = .playing) :
    endPass z s = placeZone z (swapProgram z (passJudged z s)) := by
  have hstate : ((passJudged z s).zone z).seq.state = (s.zone z).seq.state :=
    by rw [h.own]
  rw [endPass_eq, if_pos (hstate.trans hst)]

section
variable (T : Turned z s w)
include T

/-- What every place leaves. -/
theorem Turned.place : (placeZone z w).run = s.run ∧
    ((placeZone z w).zone z).seq.assigned = entryOf (s.zone z).seq ∧ ((placeZone z w).zone z).seq.staged = none ∧
    ∀ i, (placeZone z w).sock i =
        { s.sock i with pass := ((placeZone z w).sock i).pass, live := ((placeZone z w).sock i).live } ∧
      (zoneOf i ≠ z → (placeZone z w).sock i = s.sock i) ∧
      ((s.zone z).seq.staged = none → ((placeZone z w).sock i).live = (s.sock i).live) := by
  obtain ⟨hwork, ⟨ha, hs, -⟩, -⟩ := placeZone_places z w
  obtain ⟨n, hseq⟩ := T.seq
  generalize placeZone z w = t at *
  rw [hseq] at ha hs
  have hlive : ∀ i, (t.sock i).live = (w.sock i).live := fun i => (congrArg Socket.live (hwork.sock i) :)
  refine ⟨hwork.run.trans T.run, ha, hs, fun i => ⟨?_, fun hi => (hwork.apart i hi).trans (T.apart i hi), fun h => ?_⟩⟩
  · rw [hlive i, hwork.sock i, T.sock i]
  · exact (hlive i).trans (T.live h i)

/-- The passes of the zone after a place that leaves the sockets. -/
theorem Turned.passes (h : t.sockets = w.sockets) (hi : zoneOf i = z) : (t.sock i).pass = { (s.sock i).pass with
    checked := false, nChecked := (t.sock i).pass.nChecked, nFailed := (t.sock i).pass.nFailed } := by
  have hsock : t.sock i = w.sock i := by
    unfold State.sock
    rw [h]
  rw [hsock]
  exact T.pass i hi

theorem Turned.place_static (he : entryOf (s.zone z).seq = some .noProgram) :
    ((placeZone z w).zone z).seq.state = .static ∧ ((placeZone z w).zone z).seq.drive = 0 ∧
      ((placeZone z w).zone z).seq.bufA = .empty ∧ ((placeZone z w).zone z).seq.bufB = .empty ∧
      ((placeZone z w).zone z).seq.fetch = none ∧ (placeZone z w).sockets = w.sockets := by
  obtain ⟨n, hseq⟩ := T.seq
  rw [placeZone_static (by rw [hseq]; exact he), enterStatic_seq]
  exact ⟨rfl, rfl, rfl, rfl, rfl, enterStatic_sockets z w⟩

variable (he : entryOf (s.zone z).seq = some (.slot k)) (hd : s.program k = some d)
include he hd

theorem Turned.place_gap (hg : 0 < d.gap) :
    ((placeZone z w).zone z).seq.state = .gap ∧
      ((placeZone z w).zone z).seq.gapTimer = some (s.now + d.gap * 50000) ∧
      ((placeZone z w).zone z).seq.drive = d.idleWord ∧
      ((placeZone z w).zone z).seq.passNo = (s.zone z).seq.passNo ∧ (placeZone z w).sockets = w.sockets := by
  obtain ⟨n, hseq⟩ := T.seq
  obtain ⟨h, hs⟩ := placeZone_gap (s := w) (z := z) (by rw [hseq]; exact he) ((program_of_store T.store k).trans hd) hg
  have hpass : ((w.zone z).seq.keepFirst (w.firstTag z)).passNo = (s.zone z).seq.passNo := by
    rw [Seq.keepFirst_frame, hseq]
  rw [h, T.now]
  exact ⟨rfl, rfl, rfl, hpass, hs⟩

variable {pg : PageId} (hpg : d.pages[0]? = some pg)
include hpg

theorem Turned.firstTag : w.firstTag z =
    some ⟨k, 0, pg, if d.pages.length = 1 then d.lastCount else (s.page pg).count.getD 0⟩ := by
  obtain ⟨n, hseq⟩ := T.seq
  have h := firstTag_eq (s := w) (z := z) (by rw [hseq]; exact he) ((program_of_store T.store k).trans hd) hpg
  unfold State.page at h ⊢
  rw [h, T.store]

theorem Turned.place_first {tag : PageTag} {vs : List Vec}
    (hbuf : (s.zone z).seq.buf (s.zone z).seq.play.buf = .full tag vs) :
    let first : PageTag := ⟨k, 0, pg, if d.pages.length = 1 then d.lastCount else (s.page pg).count.getD 0⟩
    let other := (s.zone z).seq.buf (s.zone z).seq.play.buf.other
    let full := other.holds first = true ∨ (other = .filling first ∧ tag = first)
    (other.tag? ≠ some first → (s.zone z).seq.fetch = none →
      ((placeZone z w).zone z).seq.fetch =
        some { tag := first, target := (s.zone z).seq.play.buf.other, burst := 0, data := [] } ∧
      ((placeZone z w).zone z).seq.buf (s.zone z).seq.play.buf.other = .filling first ∧
      ((placeZone z w).zone z).seq.buf (s.zone z).seq.play.buf = .empty) ∧
    (d.gap = 0 → full → ((placeZone z w).zone z).seq.state = .playing ∧
      ((placeZone z w).zone z).seq.passNo = ((s.zone z).seq.passNo + 1) % 4294967296 ∧
      ((placeZone z w).zone z).seq.ordinal = 0 ∧ ((placeZone z w).zone z).seq.void = none) ∧
    (d.gap = 0 → ¬ full → ((placeZone z w).zone z).seq.state = .priming ∧
      ((placeZone z w).zone z).seq.passNo = (s.zone z).seq.passNo ∧
      ((placeZone z w).zone z).seq.drive = d.idleWord) := by
  intro first other full
  have hw := T.firstTag he hd hpg
  obtain ⟨n, hseq⟩ := T.seq
  have ha : (w.zone z).seq.assigned = some (.slot k) := by rw [hseq]; exact he
  have hdw := (program_of_store T.store k).trans hd
  have hb : (w.zone z).seq.buf = (s.zone z).seq.buf := by rw [hseq]; rfl
  have hp : (w.zone z).seq.play = (s.zone z).seq.play := by rw [hseq]
  have hf : (w.zone z).seq.fetch = (s.zone z).seq.fetch := by rw [hseq]
  have hn : (w.zone z).seq.passNo = (s.zone z).seq.passNo := by rw [hseq]
  have h1 := placeZone_fetches (s := w) (z := z) ha hdw hw
  have h2 := fun hg => placeZone_plays (s := w) (z := z) (tag := tag) (vs := vs) ha hdw hw (by rw [hb, hp]; exact hbuf) hg
  rw [hb, hp, hf] at h1
  rw [hb, hp, hn] at h2
  exact ⟨h1, fun hg hfull => (h2 hg).1 hfull, fun hg hfull => (h2 hg).2 hfull⟩

end

end

end Sys2Proof.Proofs.PassEnds

/-! What the end of a pass makes of a checked socket, told by the state at the end of the last period, and O55. -/

namespace Sys2Proof.Proofs.PassEnds

open Sys2Proof.Machine Sys2Proof.Safety Sys2Proof.Proofs.Frames Sys2Proof.Proofs.Sequencing Sys2Proof.Proofs.Playback

section
variable {i : SocketId} {s t u w : State} {z : ZoneId} {a b : Accounts} {l : Liveness} {r : FailRec} {k : FailKind}
  {e m now : Nat} {c : CheckZone} {p : Pass}

/-- A verdict reads the same in both states, the pass contexts and the time apart. -/
structure Alike (z : ZoneId) (s u : State) : Prop where
  run : u.run = s.run
  zone : u.zone z = s.zone z
  store : u.store = s.store
  acct : ∀ i, (u.sock i).acct = (s.sock i).acct
  live : ∀ i, (u.sock i).live = (s.sock i).live
  rail : ∀ i, (u.sock i).rail = (s.sock i).rail

section
variable (A : Alike z s u)
include A

theorem Alike.recordOf (i : SocketId) (k : FailKind) (n : Option Nat) (x : Disp) (d : Detail) :
    recordOf u i k n x d = Safety.recordOf s i k n x d := by
  unfold Safety.recordOf
  rw [A.run, A.acct]

theorem Alike.disposition (k : FailKind) : u.disposition k = s.disposition k := by
  unfold State.disposition
  rw [A.run]

theorem Alike.lastAt (a : Accounts) : lastAt u a = PassEnds.lastAt s a := by
  unfold PassEnds.lastAt
  rw [A.run]

theorem Alike.hbPart : u.hbPart z = s.hbPart z := (program_congr (by rw [A.zone]) (by rw [A.store])).2

theorem Alike.fits (l : Liveness) (n : Nat) : FitsAll u z l n ↔ FitsAll s z l n := by
  unfold FitsAll State.cycleLimit
  rw [A.hbPart]

theorem Alike.tReset : u.tReset z = s.tReset z := by
  unfold State.tReset
  rw [A.hbPart]

theorem Alike.asks (i : SocketId) (r : FailRec) : Asks u i r ↔ Asks s i r := by
  unfold Asks
  rw [A.rail]

theorem Alike.spentRec (hi : zoneOf i = z) : spentRec u i = PassEnds.spentRec s i := by
  unfold PassEnds.spentRec State.passStamp
  rw [A.recordOf, hi, A.zone]

theorem Alike.strobeRec (i : SocketId) (c : CheckZone) (p : Pass) : strobeRec u i c p = PassEnds.strobeRec s i c p := by
  unfold PassEnds.strobeRec
  rw [A.recordOf, A.disposition]

theorem Alike.signRec (i : SocketId) (c : CheckZone) (p : Pass) : signRec u i c p = PassEnds.signRec s i c p := by
  unfold PassEnds.signRec
  rw [A.recordOf, A.disposition]

end

/-! ## A verdict after the swap and the place -/

/-- A socket that stays under stress with accounts `a`, after `m` reset requests that its monitor, `l` before, takes. -/
def GoesOn (i : SocketId) (now reset : Nat) (a : Accounts) (l : Liveness) (m : Nat) (t : State) : Prop :=
  ((t.sock i).acct = a ∧ (t.sock i).life = .stressing) ∧
  (m = 0 → (t.sock i).live.cycles = l.cycles) ∧
  (0 < m → (t.sock i).live =
    if l.state = .paused then { l with cycles := min 255 (l.cycles + m), owed := true }
    else { l with cycles := min 255 (l.cycles + m), state := .resetHeld, timer := some (now / 50000 + reset) })

/-- What one mismatch record makes of a socket, read at the end (R132, R144, R156). -/
def Told (z : ZoneId) (i : SocketId) (now : Nat) (s : State) (a b : Accounts) (l : Liveness) (e m : Nat) (k : FailKind)
    (r : FailRec) (t : State) : Prop :=
  (r.disp = .retire ∨ lastAt s b = true → Retired i (decided a (counted b r) k (e + 1)) t) ∧
  (r.disp ≠ .retire → lastAt s b = false →
    (¬ Asks s i r → GoesOn i now (s.tReset z) (counted b r) l m t) ∧
    (Asks s i r → FitsAll s z l (m + 1) → GoesOn i now (s.tReset z) (counted b r) l (m + 1) t) ∧
    (Asks s i r → ¬ FitsAll s z l (m + 1) →
      Retired i (decided a (counted (counted b r) (spentRec s i)) .heartbeatExhausted (e + 2)) t))

theorem asked_standing (hm : 0 < m) :
    (asked s z l m).state = .resetHeld ∨ (asked s z l m).state = .paused := by
  unfold asked
  rw [if_neg (Nat.ne_of_gt hm)]
  split
  · exact .inr ‹_›
  · exact .inl rfl

section
variable (S : Spared z u t)
include S

theorem Spared.retired (h : Retired i a u) : Retired i a t := ⟨(S.life i).trans h.1, (S.acct i).trans h.2⟩

theorem Spared.goesOn (h : Under i s a (asked s (zoneOf i) l m) u) :
    GoesOn i s.now (s.tReset (zoneOf i)) a l m t := by
  refine ⟨⟨(S.acct i).trans h.acct, (S.life i).trans h.life⟩, fun hm => ?_, fun hm => ?_⟩
  · rw [S.cycles i, h.live, asked, if_pos hm]
  · rw [S.standing i (by rw [h.live]; exact asked_standing hm), h.live, asked, if_neg (Nat.ne_of_gt hm)]

end

/-- One mismatch, read at the end from the state before the last sample. -/
theorem Judged.told (A : Alike z s u) (S : Spared z w t) (hi : zoneOf i = z) (hnow : u.now = now)
    (h : Judged i u a b l e m k r w) : Told z i now s a b l e m k r t := by
  subst hi hnow
  unfold Judged at h
  rw [A.lastAt, A.asks, A.fits, A.spentRec rfl] at h
  have hgo : ∀ {x n}, Under i u x (asked u (zoneOf i) l n) w → GoesOn i u.now (s.tReset (zoneOf i)) x l n t :=
    fun {x n} hx => A.tReset ▸ S.goesOn hx
  exact ⟨fun hf => S.retired (h.1 hf), fun h1 h2 => ⟨fun ha => hgo ((h.2 h1 h2).1 ha),
    fun ha hf => hgo ((h.2 h1 h2).2.1 ha hf), fun ha hf => S.retired ((h.2 h1 h2).2.2 ha hf)⟩⟩

/-! ## Mismatches -/

theorem strobeFailed_iff (c : CheckZone) (p : Pass) : strobeFailed c.mode p = true ↔
    (c.mode = some .strobe ∨ c.mode = some .both) ∧ 0 < p.count := by
  simp [strobeFailed]

theorem signatureFailed_iff (c : CheckZone) (p : Pass) : signatureFailed c.mode c.expect p = true ↔
    (c.mode = some .signature ∨ c.mode = some .both) ∧ c.expect ≠ some ⟨p.crc, p.lpc⟩ := by
  simp [signatureFailed]

theorem badPass_iff (c : CheckZone) (p : Pass) : badPass c p = true ↔
    ((c.mode = some .strobe ∨ c.mode = some .both) ∧ 0 < p.count) ∨
      ((c.mode = some .signature ∨ c.mode = some .both) ∧ c.expect ≠ some ⟨p.crc, p.lpc⟩) := by
  rw [badPass, Bool.or_eq_true, strobeFailed_iff, signatureFailed_iff]

/-- The counts of a judged pass (R131). -/
theorem endPass_counts (hvoid : (s.zone z).seq.void = none) (i : SocketId) :
    ((endPass z s).sock i).pass.nChecked =
      (if zoneOf i = z ∧ (s.sock i).pass.checked = true then min 4294967295 ((s.sock i).pass.nChecked + 1)
        else (s.sock i).pass.nChecked) ∧
    ((endPass z s).sock i).pass.nFailed =
      (if (zoneOf i = z ∧ (s.sock i).pass.checked = true) ∧ badPass (s.zone z).chk (s.sock i).pass = true then
          min 4294967295 ((s.sock i).pass.nFailed + 1)
        else (s.sock i).pass.nFailed) := by
  have hjudged : passJudged z s = judgePass z s := if_pos hvoid
  obtain ⟨h1, h2⟩ := (endPass_spared z s).counts i
  have hctx := judgePass_context z s i
  have hc := congrArg Pass.nChecked hctx
  have hf := congrArg Pass.nFailed hctx
  rw [hjudged] at h1 h2
  rw [h1, h2]
  generalize judgePass z s = j at *
  by_cases hj : zoneOf i = z ∧ (s.sock i).pass.checked = true
  · rw [if_pos hj] at hc hf ⊢
    refine ⟨hc, hf.trans ?_⟩
    by_cases hb : badPass (s.zone z).chk (s.sock i).pass = true
    · rw [if_pos ⟨hj, hb⟩]
      exact if_pos hb
    · rw [if_neg fun h => hb h.2]
      exact if_neg hb
  · rw [if_neg hj] at hc hf ⊢
    rw [if_neg fun h => hj h.1]
    exact ⟨hc, hf⟩

end

end Sys2Proof.Proofs.PassEnds

/-! The end of a pass (R112, R113, R131 to R133, R144, R156). -/

namespace Sys2Proof.Proofs.PassEnds

open Sys2Proof.Machine Sys2Proof.Safety Sys2Proof.Proofs.Frames Sys2Proof.Proofs.Sequencing Sys2Proof.Proofs.Playback

section
variable {i : SocketId} {s t u : State} {z : ZoneId} {resp : Vector Byte 8} {v : Vec}

theorem sampledPass_kept (z : ZoneId) (v : Vec) (resp : Vector Byte 8) (s : State) (i : SocketId) :
    (sampledPass z v resp s i).checked = (s.sock i).pass.checked ∧
    (sampledPass z v resp s i).nChecked = (s.sock i).pass.nChecked ∧
    (sampledPass z v resp s i).nFailed = (s.sock i).pass.nFailed := by
  rw [sampledPass_eq]
  split <;> exact ⟨rfl, rfl, rfl⟩

/-- The end of the last period: the last strobe is sampled, and the zone is as it was. -/
structure LastPeriod (z : ZoneId) (f : SocketId → Pass) (s u : State) : Prop extends Alike z s u where
  only : u = { s with sockets := u.sockets, now := u.now }
  sock : ∀ i, u.sock i = { s.sock i with pass := f i }
  kept : ∀ i, (f i).checked = (s.sock i).pass.checked ∧ (f i).nChecked = (s.sock i).pass.nChecked ∧
    (f i).nFailed = (s.sock i).pass.nFailed
  apart : ∀ i, zoneOf i ≠ z → f i = (s.sock i).pass
  rails : RailLaws s → RailLaws u

theorem periodEnded_touches (z : ZoneId) (v : Vec) (resp : Vector Byte 8) (s : State) :
    Touches [.context, .now] s (periodEnded z v resp s) := by
  unfold periodEnded
  rw [← sampled_eq]
  exact (advanceTo_touches _ s).comp (ite_touches (strobeSample_touches z v resp _) (Touches.refl _ _))

theorem periodEnded_last (z : ZoneId) (v : Vec) (resp : Vector Byte 8) (s : State) :
    LastPeriod z (sampledPass z v resp (advanceTo (s.zone z).seq.periodEnd s)) s (periodEnded z v resp s) := by
  have hsock : ∀ i, (periodEnded z v resp s).sock i =
      { s.sock i with pass := sampledPass z v resp (advanceTo (s.zone z).seq.periodEnd s) i } :=
    sampledState_sock (z := z) (v := v) (resp := resp) (s := advanceTo (s.zone z).seq.periodEnd s)
  have hkept := sampledPass_kept z v resp (advanceTo (s.zone z).seq.periodEnd s)
  have hapart : ∀ i, zoneOf i ≠ z → sampledPass z v resp (advanceTo (s.zone z).seq.periodEnd s) i = (s.sock i).pass :=
    fun i hi => if_neg fun h => hi h.1
  have hrails := (periodEnded_touches z v resp s).law .rails
  have honly : periodEnded z v resp s =
      { s with sockets := (periodEnded z v resp s).sockets, now := (periodEnded z v resp s).now } := by
    unfold periodEnded sampledState
    rfl
  have hzone := periodEnded_zone z v resp s z
  have hstore := periodEnded_store z v resp s
  generalize periodEnded z v resp s = u at *
  generalize sampledPass z v resp (advanceTo (s.zone z).seq.periodEnd s) = f at *
  exact ⟨⟨by rw [honly], hzone, hstore, fun i => by rw [hsock], fun i => by rw [hsock], fun i => by rw [hsock]⟩,
    honly, hsock, hkept, hapart, hrails⟩

/-! ## The end of a pass from the state before the last sample -/

section
variable {f : SocketId → Pass} (L : LastPeriod z f s u)
include L

theorem LastPeriod.pass (i : SocketId) : (u.sock i).pass = f i := by rw [L.sock]

theorem LastPeriod.joined (i : SocketId) : (zoneOf i = z ∧ (u.sock i).pass.checked = true) ↔
    zoneOf i = z ∧ (s.sock i).pass.checked = true := by
  rw [L.pass, (L.kept i).1]

end

/-- What the end of a pass leaves where no record arrived, beside the place of the zone. -/
theorem endPass_quietly (h : Settled z s (passJudged z s)) (hst : (s.zone z).seq.state = .playing) :
    ((endPass z s).zone z).seq.voidCount = ((passJudged z s).zone z).seq.voidCount ∧
      (endPass z s).notices = (passJudged z s).notices ∧ ∀ i, ((endPass z s).sock i).acct = (s.sock i).acct := by
  have hacct := (endPass_spared z s).acct
  have g := swapProgram_swapped z (passJudged z s)
  obtain ⟨hwork, ⟨-, -, hn⟩, -⟩ := placeZone_places z (swapProgram z (passJudged z s))
  rw [← endPass_settled h hst] at hwork hn
  refine ⟨hn.trans (by rw [g.own]), hwork.notices.trans (by rw [g.only]), fun i => (hacct i).trans ?_⟩
  rw [h.sock i]

theorem lastAt_iff (s : State) (a : Accounts) : lastAt s a = true ↔
    ∃ r, s.run.record = some r ∧ a.counted + 1 = r.retireLimit := by
  unfold lastAt
  cases s.run.record with
  | none => simp
  | some r => simp

/-- The verdict on a checked socket, read at the end of the pass from the state before the last sample. -/
theorem LastPeriod.verdict {f : SocketId → Pass} (L : LastPeriod z f s u) (hvoid : (s.zone z).seq.void = none)
    (hr : RailLaws s) (hi : zoneOf i = z) (hc : (s.sock i).pass.checked = true) (htake : taking s i = true) :
    Verdict i u (s.sock i).acct (s.sock i).live (s.zone z).chk (f i) (passJudged z u) := by
  have htakeu : taking u i = true := by
    unfold taking
    rw [L.run, L.sock]
    exact htake
  have h := judgePass_verdict htakeu (L.rails hr) hi ((L.joined i).mpr ⟨hi, hc⟩).2
  rw [L.acct, L.live, L.zone, L.pass] at h
  have hjudged : passJudged z u = judgePass z u := if_pos (by rw [L.zone]; exact hvoid)
  rw [hjudged]
  exact h

end

/-- Settles O55: the end of the last period is the verdicts on its checked sockets, or the void count, and then the swap
and the place of the zone. -/
theorem passEndsAreJudged : Obligations.PassEndsAreJudged := by
  unfold Obligations.PassEndsAreJudged
  intro s z resp tag vs v d q hst hbuf hv hd hloop hend now chk was strobes signs joined entry
  have hexec := exec_periodEnd (s := s) resp hst hbuf hv
  have hu := periodEnded_last z v resp s
  have hnow := periodEnded_now z v resp s
  have hzones := periodEnded_zone z v resp s
  have hwas : ∀ i, sampledPass z v resp (advanceTo (s.zone z).seq.periodEnd s) i = was i :=
    fun i => sampledPass_eq (s := advanceTo (s.zone z).seq.periodEnd s) resp i
  generalize periodEnded z v resp s = u at *
  rw [funext hwas] at hu
  clear hwas
  clear_value was
  have A := hu.toAlike
  have honly := hu.only
  have hpass := hu.pass
  have hseq : (u.zone z).seq = q := by rw [A.zone]
  have hchk : (u.zone z).chk = chk := by rw [A.zone]
  have hbad : ∀ i, badPass (u.zone z).chk (u.sock i).pass = true ↔ strobes i ∨ signs i := fun i => by
    rw [hchk, hpass]
    exact badPass_iff chk (was i)
  have hdu : u.program tag.slot = some d := (program_of_store A.store _).trans hd
  have hstate : (u.zone z).seq.state = .playing := by rw [hseq]; exact hst
  have hends : nextVector z tag vs v u = endPass z u :=
    nextVector_ends hdu (by rw [hseq]; exact hloop) (by rw [hseq]; exact hend)
  rw [hends] at hexec
  have ht := endPass_touches z u
  have hS := endPass_spared z u
  have hclean : (∀ i, joined i → ¬ strobes i ∧ ¬ signs i) → ∀ i, zoneOf i = z → (u.sock i).pass.checked = true →
      badPass (u.zone z).chk (u.sock i).pass = false := fun h i hi hc => by
    have hno := h i ((hu.joined i).mp ⟨hi, hc⟩)
    exact Bool.eq_false_iff.mpr fun hb => ((hbad i).mp hb).elim hno.1 hno.2
  have hcounts : q.void = none → ∀ i,
      ((endPass z u).sock i).pass.nChecked = (if joined i then min 4294967295 ((s.sock i).pass.nChecked + 1)
        else (s.sock i).pass.nChecked) ∧
      ((endPass z u).sock i).pass.nFailed = (if joined i ∧ (strobes i ∨ signs i) then
          min 4294967295 ((s.sock i).pass.nFailed + 1) else (s.sock i).pass.nFailed) := fun hvoid i => by
    have h := endPass_counts (s := u) (z := z) (by rw [hseq]; exact hvoid) i
    simp only [hbad i, hu.joined i] at h
    simp only [hpass, (hu.kept i).2.1, (hu.kept i).2.2] at h
    exact h
  have hjudged : q.void = none → passJudged z u = judgePass z u := fun h => if_pos (by rw [hseq]; exact h)
  have hvoided : ∀ c, q.void = some c → passJudged z u = voidEnd z u := fun c h => if_neg (by rw [hseq, h]; simp)
  have hsettled : q.void.isSome = true ∨ (∀ i, joined i → ¬ strobes i ∧ ¬ signs i) → Settled z u (passJudged z u) := by
    intro h
    cases hv : q.void with
    | none =>
      rw [hjudged hv]
      exact (judgePass_clean (hclean (h.resolve_left (by rw [hv]; simp)))).1
    | some c =>
      rw [hvoided c hv]
      exact (voidEnd_settled (by rw [hseq]; exact hv)).1
  refine ⟨endPass z u, hexec, ht.now.trans hnow, ht.mem.trans (by rw [A.store]), ht.pages.trans (by rw [A.store]),
    ht.programs.trans (by rw [A.store]), ht.staging.trans (by rw [A.store]), ht.link.trans (by rw [honly]),
    ht.straps.trans (by rw [honly]), ht.draws.trans (by rw [honly]), ht.pending.trans (by rw [honly]),
    fun y hy ⟨_, j, hj, hl⟩ => (endPass_apart hy hj (by rw [hu.sock]; exact hl)).trans (hzones y),
    fun c hc => ?_, fun hvoid hno => ?_, fun h => ?_, fun hvoid i => ?_, fun hvoid hrails i hj htake => ?_⟩
  · have hset := hsettled (.inl (by rw [hc]; rfl))
    obtain ⟨hn1, hn2, hn3⟩ := endPass_quietly hset hstate
    obtain ⟨-, hn, hcount, hcounts⟩ := voidEnd_settled (s := u) (z := z) (x := c) (by rw [hseq]; exact hc)
    rw [hvoided c hc] at hn1 hn2 hS
    rw [hseq] at hn hcount
    refine ⟨hn1.trans hcount, (hn2.trans hn).trans (by rw [honly]), fun i => ⟨(hn3 i).trans (A.acct i), ?_, ?_⟩⟩
    · rw [(hS.counts i).1, (hcounts i).1, hpass, (hu.kept i).2.1]
    · rw [(hS.counts i).2, (hcounts i).2, hpass, (hu.kept i).2.2]
  · have hset := hsettled (.inr hno)
    obtain ⟨hn1, hn2, hn3⟩ := endPass_quietly hset hstate
    obtain ⟨-, hn, hq⟩ := judgePass_clean (hclean hno)
    rw [hjudged hvoid] at hn1 hn2
    refine ⟨hn1.trans (by rw [hq, hseq]), (hn2.trans hn).trans (by rw [honly]), fun i =>
      ⟨(hn3 i).trans (A.acct i), (hcounts hvoid i).2.trans (if_neg fun h => ?_), (hcounts hvoid i).1⟩⟩
    exact h.2.elim (hno i h.1).1 (hno i h.1).2
  · have hset := hsettled h
    have T := hset.turned
    obtain ⟨hrun, hassigned, hstaged, hsocks⟩ := T.place
    have hstat := T.place_static
    have hgap := fun {k e} => T.place_gap (k := k) (d := e)
    have hfirst := fun {k e} => T.place_first (k := k) (d := e)
    have hpasses := fun i => T.passes (t := endPass z u) (i := i)
    rw [endPass_settled hset hstate] at hpasses ⊢
    generalize placeZone z (swapProgram z (passJudged z u)) = t at *
    simp only [hseq, hu.sock, hnow] at hassigned hsocks hstat hgap hfirst hpasses
    refine ⟨hrun.trans A.run, hassigned, hstaged, fun i => ⟨(hsocks i).1, fun hi => ?_, (hsocks i).2.2⟩, fun he => ?_,
      fun k e he hke hg => ?_, fun k e pg he hke hpg => ?_⟩
    · rw [(hsocks i).2.1 hi, hu.apart i hi]
    · obtain ⟨h1, h2, h3, h4, h5, h6⟩ := hstat he
      exact ⟨h1, h2, h3, h4, h5, fun i hi => hpasses i h6 hi⟩
    · obtain ⟨h1, h2, h3, h4, h5⟩ := hgap he ((program_of_store A.store k).trans hke) hg
      exact ⟨h1, h2, h3, h4, fun i hi => hpasses i h5 hi⟩
    · have hf := hfirst he ((program_of_store A.store k).trans hke) hpg (tag := tag) (vs := vs) hbuf
      unfold State.page at hf ⊢
      rw [A.store] at hf
      exact hf
  · exact hcounts hvoid i
  · intro p m acct live ra rb spent fits second goesOn retires asks asked
    have V := hu.verdict hvoid hrails hj.1 hj.2 htake
    have hstrobe : strobeFailed (s.zone z).chk.mode (was i) = true ↔ strobes i := strobeFailed_iff chk p
    have hsign : signatureFailed (s.zone z).chk.mode (s.zone z).chk.expect (was i) = true ↔ signs i :=
      signatureFailed_iff chk p
    have hra : strobeRec u i (s.zone z).chk (was i) = ra := A.strobeRec i _ _
    have hrb : signRec u i (s.zone z).chk (was i) = rb := A.signRec i _ _
    have hspent : spentRec u i = spent := (A.spentRec hj.1).trans (by unfold spentRec; rw [hj.1])
    have hspents : spentRec s i = spent := by unfold spentRec; rw [hj.1]
    have hsecond : lastAt s (counted acct ra) = true ↔ second := lastAt_iff s _
    have hfits : ∀ n, FitsAll u (zoneOf i) (s.sock i).live n ↔ fits n := fun n => by rw [hj.1]; exact A.fits live n
    have hone : strobes i → ¬ signs i → Told z i now s acct acct live 0 0 .strobeMismatch ra (endPass z u) := fun h1 h2 =>
      hra ▸ (V.strobe (hstrobe.mpr h1) (Bool.eq_false_iff.mpr (mt hsign.mp h2))).told A hS hj.1 hnow
    have htwo : ¬ strobes i → signs i → Told z i now s acct acct live 0 0 .signatureMismatch rb (endPass z u) := fun h1 h2 =>
      hrb ▸ (V.sign (Bool.eq_false_iff.mpr (mt hstrobe.mp h1)) (hsign.mpr h2)).told A hS hj.1 hnow
    have hboth := fun h1 h2 => V.both (hstrobe.mpr h1) (hsign.mpr h2)
    simp only [hra, hrb, hspent, A.lastAt, A.asks, hfits] at hboth
    refine ⟨fun hs hf => ?_, fun k r hcase => ?_, fun hs hg hret hlast => ⟨fun ha hf => ?_, fun ha => ?_⟩⟩
    · by_cases hg : signs i
      · exact hS.retired ((hboth hs hg).1 hf)
      · exact (hone hs hg).1 hf
    · obtain ⟨h1, h2, rfl, rfl⟩ | ⟨h1, h2, rfl, rfl⟩ := hcase
      · exact hspents ▸ hone h1 h2
      · exact hspents ▸ htwo h1 h2
    · exact hS.retired (((hboth hs hg).2 hret hlast).1 ha hf)
    · have T := (((hboth hs hg).2 hret hlast).2 ha).told A hS hj.1 hnow
      have hasks : Asks u i (strobeRec u i (s.zone z).chk (was i)) ↔ asks ra := by
        rw [hra]
        exact A.asks i ra
      have hn : (@ite Nat (Asks u i (strobeRec u i (s.zone z).chk (was i))) (Classical.propDecidable _) 1 0) =
          if asks ra then 1 else 0 := by
        by_cases h : asks ra
        · rw [if_pos h, if_pos (hasks.mpr h)]
        · rw [if_neg h, if_neg (mt hasks.mp h)]
      rw [hn] at T
      exact ⟨fun hf => T.1 (hf.imp id hsecond.mpr), fun h1 h2 =>
        hspents ▸ T.2 h1 (Bool.eq_false_iff.mpr (mt hsecond.mp h2))⟩

end Sys2Proof.Proofs.PassEnds

end
